-- ==== Sys2Proof/Word.lean ====
section
/-! DEFINITION. The word types of the part's frames and registers. -/

namespace Sys2Proof

/-- One byte of a request or answer frame (R168). -/
abbrev Byte := BitVec 8

/-- A 16-bit word: a word on the monitoring link (R56), a revision, a cycle number. -/
abbrev Word16 := BitVec 16

/-- A 24-bit word: a unit tag (R2) or the enable flags of one bank (R142). -/
abbrev Word24 := BitVec 24

end Sys2Proof
end

