-- ==== Sys2Proof/Syntax.lean ====
section
/-! DEFINITION. The commands of the part: one constructor per row of spec/opcode_table.json, with the
operands that the rules give the row (the table itself gives none). -/

namespace Sys2Proof

/-- The two request ports (R151). -/
inductive Port where
  | a | b
  deriving DecidableEq, Repr

/-- A valve. Valve number v (1 to 12) is index v - 1. -/
abbrev Valve := Fin 12

/-- A level position. Position p (1 to 96) is index p - 1. -/
abbrev Position := Fin 96

/-- A bank. Bank number b (1 to 4) is index b - 1 (R24). -/
abbrev Bank := Fin 4

/-- The emit class of a level (R2). -/
inductive EmitClass where
  | standard | long
  deriving DecidableEq, Repr

/-- Why a level was retired (R2). -/
inductive RetireReason where
  | replaced | faulty | surplus | other
  deriving DecidableEq, Repr

/-- The role of the group (R108). -/
inductive Role where
  | rectifier | inverter
  deriving DecidableEq, Repr

/-- Who sends a request, and the tag that its answer copies (R156). -/
structure Sender where
  port : Port
  tag  : Byte
  deriving DecidableEq, Repr

/-- One valve entry of an ORDER (R110, R168). The valve is the byte sent, the trim is in two's
complement. -/
structure OrderEntry where
  valve : Byte
  trim  : Byte
  pair  : Bool
  deriving DecidableEq, Repr

/-- The parts an ORDER carries (R110); `none` is a part that is absent. -/
structure OrderParts where
  alpha   : Option Word16
  role    : Option Role
  leg     : Option Byte
  entries : List OrderEntry
  deriving DecidableEq, Repr

/-- A transfer on a request port (R151, R152): as one whole, or its start (chip select asserted) and
its end (chip select released) as two events. `sent` is the list of the bytes that the control system
clocked out completely; the part shifts out as many bytes. -/
inductive TransferPart where
  | whole (sent : List Byte)
  | select
  | release (sent : List Byte)
  deriving DecidableEq, Repr

/-- The two events of the part's own that make a pending swap (R113): the next cycle start, and the
loss of the phase. (The third, a SET of the reference offset, is a request and has its own row.) -/
inductive SwapOccasion where
  | cycleStart | phaseLost
  deriving DecidableEq, Repr

/-- The commands, one per row of spec/opcode_table.json. -/
inductive Instr where
  -- station lines (R167, R136, R128, R155)
  | powerOnReset
  | restartPulse
  | blockLineAsserted
  | linefaultEdge
  | authSelChange (named : Port)
  -- phase reference (R90, R92, R97, R103)
  | referenceCrossing (since : Nat)   -- base ticks from the last event on the interval count (log entry 5)
  | missedCrossing
  | phaseLost
  | phaseStepEvent
  | phaseCorrection
  -- cases of the sequencer's and the sources' work at a step event
  | recoveryComplete
  | commutationTrip
  | retardExpiry
  | deionizationEnd
  | bypassExpiry
  | bypassOccasion
  | sweepOccasion
  -- monitoring link (R56 to R70, R84, R170); a word arrives in its 20-bit frame
  | sweepCut (frame : BitVec 20)
  | arbiterPollStart
  | replyHeader (frame : BitVec 20)
  | resultWord (frame : BitVec 20)
  | frameError (frame : BitVec 20)
  | deferredHold (frame : Option (BitVec 20))
  | wordIntervalEnd
  | replyTimeout
  | wordTimeout
  | linkDown
  -- emitter lanes (R143, R145)
  | onTimeEnd (lane : Valve)
  | gapEnd (lane : Valve)
  | stopFrameEnd (lane : Valve)
  -- schedule and ports
  | deferredSwap (occasion : SwapOccasion)
  | transfer (port : Port) (part : TransferPart)
  -- lookups (R17, R35, R157, R118, R166, R161)
  | lookLevel (q : Sender) (valve position : Byte)
  | lookLevels (q : Sender) (valve first count : Byte)
  | lookValve (q : Sender) (valve : Byte)
  | lookConverter (q : Sender)
  | lookPage (q : Sender) (selector : Byte)
  | lookSetting (q : Sender) (code valve : Byte)
  | lookNotices (q : Sender)
  -- record changes (R7 to R11); a tag change of 0 is a removal (R168)
  | admitLevel (q : Sender) (valve position : Byte) (cls : Option EmitClass) (unitTag : Option Word24)
  | amend (q : Sender) (valve position : Byte) (cls : Option EmitClass) (tagChange : Option Word24)
      (expected : Option Word16)
  | amendClear (q : Sender) (valve position : Byte) (cls : Option EmitClass) (tagChange : Option Word24)
      (expected : Option Word16)
  | amendReprove (q : Sender) (valve position : Byte) (cls : Option EmitClass) (tagChange : Option Word24)
      (expected : Option Word16)
  | retire (q : Sender) (valve position : Byte) (reason : RetireReason) (expected : Option Word16)
  -- polls, orders, converter (R80, R110, R112, R127 to R135, R98)
  | check (q : Sender) (valve first count : Byte)
  | order (q : Sender) (parts : OrderParts)
  | swap (q : Sender)
  | deblock (q : Sender)
  | block (q : Sender)
  | retard (q : Sender)
  | bypass (q : Sender)
  | clearTrip (q : Sender)
  | trim (q : Sender) (insert suppress : Bool)
  -- link, reset, notices (R69, R71, R158, R161)
  | holdLink (q : Sender)
  | releaseLink (q : Sender)
  | restart (q : Sender)
  | clearNotices (q : Sender) (flags : BitVec 10)
  | setNoticeMask (q : Sender) (mask : BitVec 10)
  -- settings (R164, R165)
  | setMissLimit (q : Sender) (value : Word16)
  | setDarkLimit (q : Sender) (value : Word16)
  | setProvingCount (q : Sender) (value : Word16)
  | setClearCount (q : Sender) (value : Word16)
  | setWindowLow (q : Sender) (value : Word16)
  | setWindowHigh (q : Sender) (value : Word16)
  | setMinimumSound (q : Sender) (valve : Byte) (value : Word16)
  | setReserve (q : Sender) (valve : Byte) (value : Word16)
  | setWordIntervalCode (q : Sender) (value : Word16)
  | setCyclePriority (q : Sender) (value : Word16)
  | setDirectedPriority (q : Sender) (value : Word16)
  | setSweepPriority (q : Sender) (value : Word16)
  | setSweepEnable (q : Sender) (value : Word16)
  | setSweepInterval (q : Sender) (value : Word16)
  | setPreEmption (q : Sender) (value : Word16)
  | setReferenceOffset (q : Sender) (value : Word16)
  | setDisturbanceGear (q : Sender) (value : Word16)
  | setHoldLimit (q : Sender) (value : Word16)
  | setAlphaMin (q : Sender) (value : Word16)
  | setAlphaMax (q : Sender) (value : Word16)
  | setRetardAngle (q : Sender) (value : Word16)
  | setRampRate (q : Sender) (value : Word16)
  | setRetardCycles (q : Sender) (value : Word16)
  | setDeionizationCycles (q : Sender) (value : Word16)
  | setRestartLimit (q : Sender) (value : Word16)
  | setRecoveryCycles (q : Sender) (value : Word16)
  | setBypassCycles (q : Sender) (value : Word16)
  | setCommutationFailureAdvance (q : Sender) (value : Word16)
  | setCommutationFailureHold (q : Sender) (value : Word16)
  | setCommutationFailureLimit (q : Sender) (value : Word16)
  | setStandardOnTime (q : Sender) (value : Word16)
  | setLongOnTime (q : Sender) (value : Word16)
  | setSpreadLimit (q : Sender) (value : Word16)
  -- releases of lines (R136, R138, R167)
  | blockLineReleased
  | linefaultReleased
  | porAsserted
  deriving DecidableEq, Repr

end Sys2Proof
end

