-- ==== Sys2Proof/Decode.lean ====
section
/-! DEFINITION. Commands spelled by a word: the opcode table gives bits to none of its rows. -/

namespace Sys2Proof

/-- The command that a word of the table's bits spells. No row of the table gives bits, so no word spells one. -/
def decodeTableWord (_nbits _w : Nat) : Option Instr := none

end Sys2Proof
end

