-- ==== Sys2Proof/Config.lean ====
section
/-! DEFINITION. What the manual leaves open: the two free values. Neither has a body, so no proof can
lean on a value of it; both are applied to the counter `State.freeCount`. -/

namespace Sys2Proof

/-- The tag that a BAD FRAME answer echoes when the transfer ended before the tag byte was complete
(R154 says the tag is echoed as received; none was). DESIGN CHOICE, safe: free value, log entry 11. -/
opaque Config.unreceivedTag : Nat → Byte

/-- Which of several events at one moment is taken next (the manual lets either of two events at one
moment be taken first), and which part of a converter image (R157 gives no order). DESIGN CHOICE, safe: free
value, log entries 2 and 18. -/
opaque Config.eventPlace : Nat → Nat

end Sys2Proof
end

