-- ==== Sys2Proof/Machine/State.lean ====
section
/-! DEFINITION. The state of the part as plain data, each register under the manual's own name, and its value
right after a power-on reset. -/

namespace Sys2Proof.Machine

/-! ### Level Table (chapter 1) -/

/-- Life state of a level, in the order of R2 (its code in images, R169). -/
inductive Life where
  | empty | proving | serving | suspect | shorted | dark | retired
  deriving DecidableEq, Repr

/-- Why a record left SERVING or PROVING for a worse state (R2). -/
inductive Cause where
  | meanLow | meanHigh | protectiveFiring | deepTest | noIndication | lightPath
  deriving DecidableEq, Repr

/-- A Level Record (R2). -/
structure LevelRecord where
  life         : Life
  revision     : Word16
  unitTag      : Option Word24
  emitClass    : EmitClass
  missRun      : Nat
  pfRun        : Nat
  pfTotal      : Nat
  progress     : Nat
  window       : List Byte
  mean         : Option Byte
  lastCycle    : Option Word16
  cause        : Option Cause
  retireReason : Option RetireReason
  deriving DecidableEq, Repr

/-- R22. -/
def LevelRecord.powerOn : LevelRecord :=
  { life := .empty, revision := 0, unitTag := none, emitClass := .standard, missRun := 0, pfRun := 0,
    pfTotal := 0, progress := 0, window := [], mean := none, lastCycle := none, cause := none,
    retireReason := none }

/-! ### Valve Tally (chapter 2) -/

/-- Redundancy grade (R27), in the order of its code (R169). -/
inductive Grade where
  | full | reduced | marginal | unfit
  deriving DecidableEq, Repr

/-- A Valve Tally (R24). `counts` holds the seven state counts in life-state order. -/
structure Tally where
  counts       : Vector Nat 7
  sound        : Nat
  failed       : Nat
  top          : Nat
  bankEmitting : Vector Nat 4
  bankLong     : Vector Nat 4
  spread       : Nat
  grade        : Grade
  deriving DecidableEq, Repr

/-- R36. -/
def Tally.powerOn : Tally :=
  { counts := #v[96, 0, 0, 0, 0, 0, 0], sound := 0, failed := 0, top := 0, bankEmitting := #v[0, 0, 0, 0],
    bankLong := #v[0, 0, 0, 0], spread := 0, grade := .unfit }

/-! ### Settings store (chapter 11) -/

/-- The thirty-three settings, in the order of their codes 01h to 21h (R164). -/
inductive Setting where
  | missLimit | darkLimit | provingCount | clearCount | windowLow | windowHigh | minimumSound | reserve
  | wordIntervalCode | cyclePriority | directedPriority | sweepPriority | sweepEnable | sweepInterval
  | preEmption | referenceOffset | disturbanceGear | holdLimit | alphaMin | alphaMax | retardAngle | rampRate
  | retardCycles | deionizationCycles | restartLimit | recoveryCycles | bypassCycles | cfAdvance | cfHold
  | cfLimit | standardOnTime | longOnTime | spreadLimit
  deriving DecidableEq, Repr

/-- The settings store (R164). -/
structure Settings where
  missLimit          : Nat
  darkLimit          : Nat
  provingCount       : Nat
  clearCount         : Nat
  windowLow          : Nat
  windowHigh         : Nat
  minimumSound       : Vector Nat 12
  reserve            : Vector Nat 12
  wordIntervalCode   : Nat
  cyclePriority      : Nat
  directedPriority   : Nat
  sweepPriority      : Nat
  sweepEnable        : Bool
  sweepInterval      : Nat
  preEmption         : Bool
  referenceOffset    : Nat
  disturbanceGear    : Nat
  holdLimit          : Nat
  alphaMin           : Nat
  alphaMax           : Nat
  retardAngle        : Nat
  rampRate           : Nat
  retardCycles       : Nat
  deionizationCycles : Nat
  restartLimit       : Nat
  recoveryCycles     : Nat
  bypassCycles       : Nat
  cfAdvance          : Nat
  cfHold             : Nat
  cfLimit            : Nat
  standardOnTime     : Nat
  longOnTime         : Nat
  spreadLimit        : Nat
  deriving DecidableEq, Repr

/-- Every setting at its default (R164, R165). -/
def Settings.powerOn : Settings :=
  { missLimit := 3, darkLimit := 4, provingCount := 8, clearCount := 4, windowLow := 20, windowHigh := 120,
    minimumSound := Vector.replicate 12 1, reserve := Vector.replicate 12 0, wordIntervalCode := 0,
    cyclePriority := 3, directedPriority := 2, sweepPriority := 1, sweepEnable := true, sweepInterval := 10,
    preEmption := true, referenceOffset := 0, disturbanceGear := 1, holdLimit := 5, alphaMin := 50,
    alphaMax := 1600, retardAngle := 1400, rampRate := 20, retardCycles := 2, deionizationCycles := 10,
    restartLimit := 2, recoveryCycles := 50, bypassCycles := 3, cfAdvance := 100, cfHold := 4, cfLimit := 5,
    standardOnTime := 3, longOnTime := 6, spreadLimit := 24 }

/-! ### Monitoring Link Engine (chapter 4) -/

/-- Engine state (R57). -/
inductive LinkState where
  | idle | header | exchange | interval | held
  deriving DecidableEq, Repr

/-- The source that raised a poll (R57). -/
inductive PollSource where
  | cycle | directed | sweep
  deriving DecidableEq, Repr

/-- The kind of a poll (R56). -/
inductive PollKind where
  | cycle | deep
  deriving DecidableEq, Repr

/-- A poll record (R57). Positions are position numbers; `next` is one past `last` only inside the step
that processes the last position. -/
structure Poll where
  source     : PollSource
  kind       : PollKind
  valve      : Valve
  first      : Nat
  last       : Nat
  next       : Nat
  superseded : Bool
  deriving DecidableEq, Repr

/-- The Monitoring Link Engine (R57). `holdPending` holds the port whose HOLD LINK waits (implied by R69,
log entry 20). `timer` is the running timer of the present state in base ticks left (log entry 19). `sent`
is the model's latch of the frames last sent on MON_TX (log entry 21). -/
structure Link where
  state       : LinkState
  poll        : Option Poll
  holdPending : Option Port
  cutPending  : Bool
  failures    : Nat
  down        : Bool
  timeouts    : Nat
  mismatches  : Nat
  overruns    : Nat
  vmuFault    : Vector Bool 12
  timer       : Option Nat
  sent        : List (BitVec 20)
  deriving DecidableEq, Repr

/-- R74. -/
def Link.powerOn : Link :=
  { state := .idle, poll := none, holdPending := none, cutPending := false, failures := 0, down := false,
    timeouts := 0, mismatches := 0, overruns := 0, vmuFault := Vector.replicate 12 false, timer := none,
    sent := [] }

/-! ### Poll Sources (chapter 5) -/

/-- Origin of a directed entry (R79). -/
inductive EntryOrigin where
  | request | protectiveFiring
  deriving DecidableEq, Repr

/-- An entry of the directed queue (R79). -/
structure DirectedEntry where
  valve      : Valve
  first      : Nat
  count      : Nat
  origin     : EntryOrigin
  inProgress : Bool
  deriving DecidableEq, Repr

/-- The cycle source, the directed queue and the sweep source (R75 to R81). -/
structure Sources where
  cycleQueue      : List Valve
  armed           : Vector (Option Nat) 12
  skip            : Vector Nat 12
  directed        : List DirectedEntry
  cursor          : Valve
  sweepTimer      : Nat
  sweepRequest    : Option Valve
  sweepInProgress : Bool
  remainder       : Option (Valve × Nat)
  deriving DecidableEq, Repr

/-- R89: the value after either reset. -/
def Sources.afterReset : Sources :=
  { cycleQueue := [], armed := Vector.replicate 12 none, skip := Vector.replicate 12 0, directed := [],
    cursor := 11, sweepTimer := 0, sweepRequest := none, sweepInProgress := false, remainder := none }

/-! ### Phase Unit (chapter 6) -/

/-- Lock state (the table of 6.4, in its order). -/
inductive Lock where
  | unlocked | acquiring | locked | disturbed | holding | lost
  deriving DecidableEq, Repr

/-- Which event last restarted the interval count (R90). -/
inductive IntervalMark where
  | crossing | missed
  deriving DecidableEq, Repr

/-- The Phase Unit (R90 to R107). `counting` and `longStep` are implied by R92 (log entry 20). -/
structure Phase where
  lock         : Lock
  interval     : Nat
  mark         : IntervalMark
  saved        : Option Nat
  loaded       : Option Nat
  prevAccepted : Option Nat
  pendingLoad  : Bool
  phase        : Nat
  cycle        : Word16
  spreadAcc    : Nat
  tick         : Nat
  longStep     : Bool
  counting     : Bool
  correction   : Int
  spacing      : Nat
  good         : Nat
  hold         : Nat
  lastError    : Option Int
  deriving DecidableEq, Repr

/-- R107: the value after either reset. -/
def Phase.afterReset : Phase :=
  { lock := .unlocked, interval := 0, mark := .missed, saved := none, loaded := none, prevAccepted := none,
    pendingLoad := false, phase := 0, cycle := 0, spreadAcc := 0, tick := 0, longStep := false,
    counting := false, correction := 0, spacing := 0, good := 0, hold := 0, lastError := none }

/-! ### Firing Schedule (chapter 7) -/

/-- The name of a page (R108). -/
inductive PageName where
  | a | b
  deriving DecidableEq, Repr

/-- A page of firing orders (R108). Bypass leg k is index k - 1. -/
structure Page where
  valid : Bool
  alpha : Nat
  role  : Role
  leg   : Fin 3
  trims : Vector Int 12
  pairs : Vector Bool 12
  deriving DecidableEq, Repr

/-- R119, before the clamping to alpha min and alpha max. -/
def Page.afterReset : Page :=
  { valid := false, alpha := 1400, role := .rectifier, leg := 0, trims := Vector.replicate 12 0,
    pairs := Vector.replicate 12 false }

/-- The Firing Schedule (R108). `swapPending` holds the port whose SWAP waits (R113, log entry 20); the
swap-pending flag is set exactly when it is present. -/
structure Schedule where
  pageA       : Page
  pageB       : Page
  live        : PageName
  swapPending : Option Port
  deriving DecidableEq, Repr

/-- R119. -/
def Schedule.powerOn : Schedule :=
  { pageA := Page.afterReset, pageB := Page.afterReset, live := .a, swapPending := none }

/-! ### Firing Sequencer (chapter 8) -/

/-- Converter state (R120). -/
inductive Conv where
  | blocked | pending | ramping | running | retarded | deionizing | bypassing | tripped
  deriving DecidableEq, Repr

/-- Exit target, from weakest to strongest (R120). -/
inductive ExitTarget where
  | deionizing | blocked | tripped
  deriving DecidableEq, Repr

/-- Trip cause with its valve (R120). -/
inductive TripCause where
  | valveUnfit (valve : Valve)
  | commutation (valve : Valve)
  deriving DecidableEq, Repr

/-- State of a firing window (R120, R122). -/
inductive WindowState where
  | closed | opened | fired
  deriving DecidableEq, Repr

/-- The Firing Sequencer (R120). `bypassEntry` is set from the entry into BYPASSING to the first step event
after it (implied by R131, log entry 20). `freshTrip` is set when an unfit entry makes the converter RETARDED or
BYPASSING, and is cleared by the next step event, base tick or change of state (implied by R134, log entry 32). -/
structure Sequencer where
  conv          : Conv
  exitTarget    : Option ExitTarget
  tripLatch     : Bool
  tripCause     : Option TripCause
  attempts      : Nat
  ramp          : Nat
  retardCount   : Nat
  deionCount    : Nat
  bypassCount   : Nat
  bypassSpacing : Nat
  bypassEntry   : Bool
  freshTrip     : Bool
  recovery      : Nat
  cfHold        : Nat
  cfRun         : Nat
  cfMark        : Bool
  lastFailure   : Option Valve
  windows       : Vector WindowState 12
  deriving DecidableEq, Repr

/-- R139, power-on column; the ramp value is the retard angle's default. -/
def Sequencer.powerOn : Sequencer :=
  { conv := .blocked, exitTarget := none, tripLatch := false, tripCause := none, attempts := 0, ramp := 1400,
    retardCount := 0, deionCount := 0, bypassCount := 0, bypassSpacing := 0, bypassEntry := false,
    freshTrip := false, recovery := 0, cfHold := 0, cfRun := 0, cfMark := false, lastFailure := none,
    windows := Vector.replicate 12 .closed }

/-! ### Emitter lanes (chapter 9) -/

/-- Lane state (R140). -/
inductive LaneState where
  | idle | lit | gap | stopping
  deriving DecidableEq, Repr

/-- What a burst lights in one bank (R142): its 24 enable flags, flag 1 the most significant bit, and its
latched on-time in µs. -/
structure BankLight where
  flags  : Word24
  onTime : Nat
  deriving DecidableEq, Repr

/-- An emitter lane (R140). `timer` is what is left of the on-time, the gap or the STOP frame in base ticks
(log entry 19); `frame` is the model's latch of the frame last sent (log entry 21). -/
structure Lane where
  state       : LaneState
  composition : Option (Vector BankLight 4)
  bank        : Option Bank
  drops       : Nat
  timer       : Nat
  frame       : Option (BitVec 36)
  deriving DecidableEq, Repr

/-- R150. -/
def Lane.powerOn : Lane :=
  { state := .idle, composition := none, bank := none, drops := 0, timer := 0, frame := none }

/-! ### Request ports, engine, notices (chapter 10) -/

/-- Port state (R151). -/
inductive PortState where
  | idle | working | answered
  deriving DecidableEq, Repr

/-- A request frame as it was received (R168): its kind, its tag and declared payload length where the
transfer reached them, and the payload bytes received, at most the declared number. -/
structure Frame where
  kind    : Byte
  tag     : Option Byte
  length  : Option Byte
  payload : List Byte
  deriving DecidableEq, Repr

/-- Answer codes (R156). -/
inductive AnswerCode where
  | done | clamped | notInAuthority | badFrame | badKey | badValue | wrongState | stale | margin | spread
  | pending | full | notReady
  deriving DecidableEq, Repr

/-- Reasons of NOT READY (R156). -/
inductive Reason where
  | blockLine | phase | pageInvalid | valveUnfit
  deriving DecidableEq, Repr

/-- An answer frame (R156, R168); its payload length is the length of `payload`. -/
structure Answer where
  kind    : Byte
  tag     : Byte
  code    : AnswerCode
  reason  : Option Reason
  payload : List Byte
  deriving DecidableEq, Repr

/-- A transfer in progress (R151): what the part found at its start, and whether its frame is discarded at
its end because a control reset fell into it (R162). -/
structure Transfer where
  status  : Byte
  found   : PortState
  answer  : Option Answer
  discard : Bool
  deriving DecidableEq, Repr

/-- A request port with its notice set and mask (R151, R159; the bits in the order of R168). `begun` says
that the engine has begun the request in the slot (R153, log entry 20); `shiftedOut` is the model's latch of
the bytes last sent to the control system (log entry 21). -/
structure PortUnit where
  state      : PortState
  request    : Option Frame
  begun      : Bool
  answer     : Option Answer
  refused    : Bool
  transfer   : Option Transfer
  flags      : BitVec 10
  mask       : BitVec 10
  shiftedOut : List Byte
  deriving DecidableEq, Repr

/-- R162, R163: only RESET (bit 9) set, every mask mark on. -/
def PortUnit.powerOn : PortUnit :=
  { state := .idle, request := none, begun := false, answer := none, refused := false, transfer := none,
    flags := 0x200, mask := 0x3FF, shiftedOut := [] }

/-- The request engine (R153). -/
structure Engine where
  busy : Bool
  last : Port
  deriving DecidableEq, Repr

/-- R162. -/
def Engine.afterReset : Engine := { busy := false, last := .b }

/-- The converter image that the engine is building: the parts taken so far, and whether one was taken at the present
moment (R157: no two parts at one common moment). The model's own items (log entry 18). -/
structure ImageBuild where
  parts : Vector (Option (List Byte)) 6
  taken : Bool
  deriving DecidableEq, Repr

/-- No image is being built (log entry 18). -/
def ImageBuild.empty : ImageBuild := { parts := Vector.replicate 6 none, taken := false }

/-- The levels of the station lines that the part reads as levels (R167). AUTH_SEL is held as the port it
names. -/
structure Lines where
  porLow    : Bool
  block     : Bool
  linefault : Bool
  authSel   : Port
  deriving DecidableEq, Repr

/-! ### The machine -/

/-- Reasons to stop. The manual names no fault that stops the part, and no command of the model faults:
the type is empty. -/
inductive Fault where
  deriving DecidableEq, Repr

/-- Reasons to refuse a command. -/
inductive Refusal where
  /-- The command has no meaning in the model. Raised by no arm of exec; the constructor is the host's. Safe. -/
  | notModelled (mnemonic : String)
  deriving DecidableEq, Repr

/-- The state of the part. `freeCount` counts the free values taken (the model's own field, log entry 27);
`pending` is the queue of the commands that wait, first in first out. -/
structure State where
  table     : Vector (Vector LevelRecord 96) 12
  tallies   : Vector Tally 12
  settings  : Settings
  link      : Link
  sources   : Sources
  phase     : Phase
  schedule  : Schedule
  seq       : Sequencer
  lanes     : Vector Lane 12
  portA     : PortUnit
  portB     : PortUnit
  engine    : Engine
  building  : ImageBuild
  lines     : Lines
  freeCount : Nat
  pending   : List Instr
  deriving DecidableEq, Repr

/-- The part right after a power-on reset (R22, R36, R74, R89, R107, R119, R139, R150, R162, R163, R165).
The levels of the input lines are a DESIGN CHOICE (log entry 9). -/
def State.reset : State :=
  { table := Vector.replicate 12 (Vector.replicate 96 LevelRecord.powerOn),
    tallies := Vector.replicate 12 Tally.powerOn,
    settings := Settings.powerOn,
    link := Link.powerOn,
    sources := Sources.afterReset,
    phase := Phase.afterReset,
    schedule := Schedule.powerOn,
    seq := Sequencer.powerOn,
    lanes := Vector.replicate 12 Lane.powerOn,
    portA := PortUnit.powerOn,
    portB := PortUnit.powerOn,
    engine := Engine.afterReset,
    building := ImageBuild.empty,
    lines := { porLow := false, block := false, linefault := false, authSel := .a },
    freeCount := 0,
    pending := [] }

end Sys2Proof.Machine
end

