-- ==== Sys2Proof/Machine/Operands.lean ====
section
/-! DEFINITION. The operand forms: keys, bytes, setting codes, the words of the monitoring link, the frames of
the emitter lanes, and the request frames (R1, R154, R164, R168, R170, R171). -/

namespace Sys2Proof.Machine

/-! ### Keys and bytes -/

/-- The valve that a byte names, if it lies in 1 to 12 (R1). -/
def valveOf? (b : Byte) : Option Valve :=
  if h : 1 ≤ b.toNat ∧ b.toNat ≤ 12 then some ⟨b.toNat - 1, by omega⟩ else none

/-- The position that a number names, if it lies in 1 to 96 (R1). -/
def positionOf? (n : Nat) : Option Position :=
  if h : 1 ≤ n ∧ n ≤ 96 then some ⟨n - 1, by omega⟩ else none

/-- The number of a valve, 1 to 12. -/
def valveNumber (v : Valve) : Nat := v.val + 1

/-- The number of a position, 1 to 96. -/
def positionNumber (p : Position) : Nat := p.val + 1

/-- The twelve valves, in ascending order. -/
def allValves : List Valve := [0, 1, 2, 3, 4, 5, 6, 7, 8, 9, 10, 11]

/-- The four banks, in ascending order. -/
def allBanks : List Bank := [0, 1, 2, 3]

/-- A number as one byte. -/
def byte (n : Nat) : Byte := BitVec.ofNat 8 n

/-- A mark as one byte. -/
def flagByte (b : Bool) : Byte := if b then 1 else 0

/-- Two bytes as a number, most significant first (R168). -/
def word16 (hi lo : Byte) : Word16 := hi ++ lo

/-- Three bytes as a number, most significant first (R168). -/
def word24 (hi mid lo : Byte) : Word24 := hi ++ mid ++ lo

/-- A 16-bit number as two bytes, most significant first (R168). -/
def bytes16 (w : Word16) : List Byte := [w.extractLsb' 8 8, w.extractLsb' 0 8]

/-- A 24-bit number as three bytes, most significant first (R168). -/
def bytes24 (w : Word24) : List Byte := [w.extractLsb' 16 8, w.extractLsb' 8 8, w.extractLsb' 0 8]

/-- A number as four bytes, most significant first (R168, R169: periods). -/
def bytes32 (n : Nat) : List Byte := [byte (n / 16777216), byte (n / 65536), byte (n / 256), byte n]

/-- A signed number as two bytes in two's complement (R168). -/
def signed16 (i : Int) : List Byte := bytes16 (BitVec.ofInt 16 i)

/-! ### Settings (R164) -/

/-- The setting of a code, 01h to 21h. -/
def settingOf? (code : Byte) : Option Setting :=
  match code.toNat with
  | 1 => some .missLimit
  | 2 => some .darkLimit
  | 3 => some .provingCount
  | 4 => some .clearCount
  | 5 => some .windowLow
  | 6 => some .windowHigh
  | 7 => some .minimumSound
  | 8 => some .reserve
  | 9 => some .wordIntervalCode
  | 10 => some .cyclePriority
  | 11 => some .directedPriority
  | 12 => some .sweepPriority
  | 13 => some .sweepEnable
  | 14 => some .sweepInterval
  | 15 => some .preEmption
  | 16 => some .referenceOffset
  | 17 => some .disturbanceGear
  | 18 => some .holdLimit
  | 19 => some .alphaMin
  | 20 => some .alphaMax
  | 21 => some .retardAngle
  | 22 => some .rampRate
  | 23 => some .retardCycles
  | 24 => some .deionizationCycles
  | 25 => some .restartLimit
  | 26 => some .recoveryCycles
  | 27 => some .bypassCycles
  | 28 => some .cfAdvance
  | 29 => some .cfHold
  | 30 => some .cfLimit
  | 31 => some .standardOnTime
  | 32 => some .longOnTime
  | 33 => some .spreadLimit
  | _ => none

/-- The code of a setting. -/
def Setting.code : Setting → Byte
  | .missLimit => 0x01
  | .darkLimit => 0x02
  | .provingCount => 0x03
  | .clearCount => 0x04
  | .windowLow => 0x05
  | .windowHigh => 0x06
  | .minimumSound => 0x07
  | .reserve => 0x08
  | .wordIntervalCode => 0x09
  | .cyclePriority => 0x0A
  | .directedPriority => 0x0B
  | .sweepPriority => 0x0C
  | .sweepEnable => 0x0D
  | .sweepInterval => 0x0E
  | .preEmption => 0x0F
  | .referenceOffset => 0x10
  | .disturbanceGear => 0x11
  | .holdLimit => 0x12
  | .alphaMin => 0x13
  | .alphaMax => 0x14
  | .retardAngle => 0x15
  | .rampRate => 0x16
  | .retardCycles => 0x17
  | .deionizationCycles => 0x18
  | .restartLimit => 0x19
  | .recoveryCycles => 0x1A
  | .bypassCycles => 0x1B
  | .cfAdvance => 0x1C
  | .cfHold => 0x1D
  | .cfLimit => 0x1E
  | .standardOnTime => 0x1F
  | .longOnTime => 0x20
  | .spreadLimit => 0x21

/-- The fixed bounds of a setting's range (R164). -/
def Setting.range : Setting → Nat × Nat
  | .missLimit => (2, 15)
  | .darkLimit => (2, 15)
  | .provingCount => (4, 31)
  | .clearCount => (1, 15)
  | .windowLow => (0, 255)
  | .windowHigh => (0, 255)
  | .minimumSound => (1, 96)
  | .reserve => (0, 15)
  | .wordIntervalCode => (0, 7)
  | .cyclePriority => (0, 3)
  | .directedPriority => (0, 3)
  | .sweepPriority => (0, 3)
  | .sweepEnable => (0, 1)
  | .sweepInterval => (1, 255)
  | .preEmption => (0, 1)
  | .referenceOffset => (0, 3599)
  | .disturbanceGear => (0, 3)
  | .holdLimit => (1, 15)
  | .alphaMin => (50, 900)
  | .alphaMax => (900, 1650)
  | .retardAngle => (900, 1650)
  | .rampRate => (1, 200)
  | .retardCycles => (1, 15)
  | .deionizationCycles => (2, 60)
  | .restartLimit => (0, 3)
  | .recoveryCycles => (10, 250)
  | .bypassCycles => (1, 15)
  | .cfAdvance => (0, 300)
  | .cfHold => (1, 15)
  | .cfLimit => (2, 15)
  | .standardOnTime => (1, 16)
  | .longOnTime => (2, 32)
  | .spreadLimit => (4, 64)

/-- The default of a setting (R164). -/
def Setting.default : Setting → Nat
  | .missLimit => 3
  | .darkLimit => 4
  | .provingCount => 8
  | .clearCount => 4
  | .windowLow => 20
  | .windowHigh => 120
  | .minimumSound => 1
  | .reserve => 0
  | .wordIntervalCode => 0
  | .cyclePriority => 3
  | .directedPriority => 2
  | .sweepPriority => 1
  | .sweepEnable => 1
  | .sweepInterval => 10
  | .preEmption => 1
  | .referenceOffset => 0
  | .disturbanceGear => 1
  | .holdLimit => 5
  | .alphaMin => 50
  | .alphaMax => 1600
  | .retardAngle => 1400
  | .rampRate => 20
  | .retardCycles => 2
  | .deionizationCycles => 10
  | .restartLimit => 2
  | .recoveryCycles => 50
  | .bypassCycles => 3
  | .cfAdvance => 100
  | .cfHold => 4
  | .cfLimit => 5
  | .standardOnTime => 3
  | .longOnTime => 6
  | .spreadLimit => 24

/-- Whether the setting is held per valve (R164). -/
def Setting.perValve : Setting → Bool
  | .minimumSound | .reserve => true
  | _ => false

/-- Whether the setting may change at any time; the others may change in BLOCKED or TRIPPED only (R164). -/
def Setting.anyTime : Setting → Bool
  | .missLimit | .darkLimit | .provingCount | .clearCount | .windowLow | .windowHigh | .wordIntervalCode | .cyclePriority | .directedPriority | .sweepPriority | .sweepEnable | .sweepInterval | .preEmption | .disturbanceGear | .holdLimit => true
  | _ => false

/-- The SET of a setting as a command; a setting held once leaves the valve byte unread (R165). -/
def setCommand (q : Sender) (valve : Byte) (value : Word16) : Setting → Instr
  | .missLimit => .setMissLimit q value
  | .darkLimit => .setDarkLimit q value
  | .provingCount => .setProvingCount q value
  | .clearCount => .setClearCount q value
  | .windowLow => .setWindowLow q value
  | .windowHigh => .setWindowHigh q value
  | .minimumSound => .setMinimumSound q valve value
  | .reserve => .setReserve q valve value
  | .wordIntervalCode => .setWordIntervalCode q value
  | .cyclePriority => .setCyclePriority q value
  | .directedPriority => .setDirectedPriority q value
  | .sweepPriority => .setSweepPriority q value
  | .sweepEnable => .setSweepEnable q value
  | .sweepInterval => .setSweepInterval q value
  | .preEmption => .setPreEmption q value
  | .referenceOffset => .setReferenceOffset q value
  | .disturbanceGear => .setDisturbanceGear q value
  | .holdLimit => .setHoldLimit q value
  | .alphaMin => .setAlphaMin q value
  | .alphaMax => .setAlphaMax q value
  | .retardAngle => .setRetardAngle q value
  | .rampRate => .setRampRate q value
  | .retardCycles => .setRetardCycles q value
  | .deionizationCycles => .setDeionizationCycles q value
  | .restartLimit => .setRestartLimit q value
  | .recoveryCycles => .setRecoveryCycles q value
  | .bypassCycles => .setBypassCycles q value
  | .cfAdvance => .setCommutationFailureAdvance q value
  | .cfHold => .setCommutationFailureHold q value
  | .cfLimit => .setCommutationFailureLimit q value
  | .standardOnTime => .setStandardOnTime q value
  | .longOnTime => .setLongOnTime q value
  | .spreadLimit => .setSpreadLimit q value

/-! ### Words and frames of the monitoring link (R170) -/

/-- The bits of a bit vector, as a list. -/
def bitsOf {n : Nat} (w : BitVec n) : List Bool := (List.range n).map w.getLsbD

/-- The bit that makes the number of ones odd. -/
def oddParity (bits : List Bool) : Bool := !(bits.foldl xor false)

/-- First header word: kind in bit 15, valve in bits 3 to 0. -/
def firstHeaderWord (kind : PollKind) (valve : Valve) : Word16 :=
  BitVec.ofNat 16 ((if kind = .deep then 32768 else 0) + valveNumber valve)

/-- Second header word: first position in bits 15 to 9, count in bits 6 to 0. -/
def secondHeaderWord (first count : Nat) : Word16 := BitVec.ofNat 16 (first % 128 * 512 + count % 128)

/-- Expectation word: skip flag in bit 7, position in bits 6 to 0. -/
def expectationWord (position : Nat) (skip : Bool) : Word16 :=
  BitVec.ofNat 16 ((if skip then 128 else 0) + position % 128)

/-- A word in its 20-bit frame: start mark 0, type mark, word from bit 15 down, odd parity over the type mark
and the word, stop mark 1. The first bit sent is the most significant. -/
def linkFrame (typeMark : Bool) (w : Word16) : BitVec 20 :=
  0#1 ++ BitVec.ofBool typeMark ++ w ++ BitVec.ofBool (oddParity (typeMark :: bitsOf w)) ++ 1#1

/-- The start, stop and parity check of a received frame (R56). -/
def frameOk (f : BitVec 20) : Bool :=
  !f.getLsbD 19 && f.getLsbD 0 && !oddParity ((bitsOf f).drop 1 |>.take 18)

/-- The type mark of a received frame, by which the part tells a reply header from a result word (R170). -/
def frameType (f : BitVec 20) : Bool := f.getLsbD 18

/-- The word of a received frame (R170). -/
def frameWord (f : BitVec 20) : Word16 := f.extractLsb' 2 16

/-- The frame passes its checks and its type mark is that of a reply header (R56, R170). -/
def isReplyHeader (f : BitVec 20) : Bool := frameOk f && frameType f

/-- The frame passes its checks and its type mark is not that of a reply header (R56, R170). -/
def isResultWord (f : BitVec 20) : Bool := frameOk f && !frameType f

/-- Reply header: VMU fault flag in bit 5, BLOCKING in bit 4, valve number in bits 3 to 0. -/
def replyValve (w : Word16) : Nat := w.toNat % 16
def replyBlocking (w : Word16) : Bool := w.getLsbD 4
def replyFault (w : Word16) : Bool := w.getLsbD 5

/-- Result word: position check in bits 15 to 12, indication in bit 11, protective-firing flag in bit 10, deep
outcome in bits 9 to 8, delay in bits 7 to 0. -/
def resultCheck (w : Word16) : Nat := w.toNat / 4096
def resultPresent (w : Word16) : Bool := w.getLsbD 11
def resultProtective (w : Word16) : Bool := w.getLsbD 10
def resultDeep (w : Word16) : Nat := w.toNat / 256 % 4
def resultDelay (w : Word16) : Byte := w.extractLsb' 0 8

/-! ### Frames of the emitter lanes (R171); the first bit sent is the most significant -/

/-- A bank frame: start mark 1, frame type 1, bank - 1, the 24 enable flags, on-time - 1, and three odd
parities: over bank and on-time, over flags 1 to 12, and over flags 13 to 24. -/
def bankFrame (bank : Bank) (l : BankLight) : BitVec 36 :=
  let b : BitVec 2 := BitVec.ofNat 2 bank.val
  let t : BitVec 5 := BitVec.ofNat 5 (l.onTime - 1)
  1#1 ++ 1#1 ++ b ++ l.flags ++ t ++ BitVec.ofBool (oddParity (bitsOf b ++ bitsOf t)) ++
    BitVec.ofBool (oddParity ((bitsOf l.flags).drop 12)) ++ BitVec.ofBool (oddParity ((bitsOf l.flags).take 12))

/-- The STOP frame: start mark 1, frame type 0, zeros, and the check bits 1, 1, 1. -/
def stopFrame : BitVec 36 := 1#1 ++ 0#1 ++ 0#2 ++ 0#24 ++ 0#5 ++ 7#3

/-! ### Codes of the request fields (R168) -/

def emitClassOf? (b : Byte) : Option EmitClass :=
  match b.toNat with
  | 0 => some .standard
  | 1 => some .long
  | _ => none

def emitClassCode : EmitClass → Byte
  | .standard => 0
  | .long => 1

def reasonOf? (b : Byte) : Option RetireReason :=
  match b.toNat with
  | 1 => some .replaced
  | 2 => some .faulty
  | 3 => some .surplus
  | 4 => some .other
  | _ => none

def retireReasonCode : RetireReason → Byte
  | .replaced => 1
  | .faulty => 2
  | .surplus => 3
  | .other => 4

def roleOf? (b : Byte) : Option Role :=
  match b.toNat with
  | 0 => some .rectifier
  | 1 => some .inverter
  | _ => none

def roleCode : Role → Byte
  | .rectifier => 0
  | .inverter => 1

def markOf? (b : Byte) : Option Bool :=
  match b.toNat with
  | 0 => some false
  | 1 => some true
  | _ => none

/-- A field of a frame whose presence bit is `present`: absent, or decoded. The bytes of an absent field are
not read (DEDUCED from "Unused bits ... ignored on receipt", safe, log entry 16). -/
def carried {α : Type} (present : Bool) (decoded : Option α) : Option (Option α) :=
  if present then decoded.map some else some none

/-- The presence byte of a request uses only the bits of `allowed`; any other bit is an undefined code. -/
def presenceOk (presence allowed : Byte) : Bool := presence &&& ~~~allowed == 0

/-! ### Request frames (R154, R168) -/

/-- What the engine finds in a request frame: BAD FRAME, a SET whose code is no setting's (BAD KEY, R165), or a
well-formed request. -/
inductive Parsed where
  | badFrame
  | badKey
  | command (c : Instr)
  deriving DecidableEq, Repr

/-- A request, or BAD FRAME where a coded field did not decode. -/
def Parsed.ofOption : Option Instr → Parsed
  | some c => .command c
  | none => .badFrame

/-- The valve entries of an ORDER: exactly `n` of three bytes each. -/
def parseEntries : Nat → List Byte → Option (List OrderEntry)
  | 0, [] => some []
  | n + 1, v :: t :: p :: rest =>
    match markOf? p, parseEntries n rest with
    | some pair, some es => some ({ valve := v, trim := t, pair := pair } :: es)
    | _, _ => none
  | _, _ => none

/-- ADMIT (7 bytes). -/
def parseAdmit (q : Sender) : List Byte → Parsed
  | [v, p, pres, c, t2, t1, t0] =>
    if presenceOk pres 3 then
      .ofOption ((carried (pres.getLsbD 0) (emitClassOf? c)).map fun cls =>
        .admitLevel q v p cls (if pres.getLsbD 1 then some (word24 t2 t1 t0) else none))
    else .badFrame
  | _ => .badFrame

/-- AMEND (10 bytes): one of the three rows, by the action it carries. -/
def parseAmend (q : Sender) : List Byte → Parsed
  | [v, p, pres, c, t2, t1, t0, act, r1, r0] =>
    if presenceOk pres 15 then
      let tag := if pres.getLsbD 1 then some (word24 t2 t1 t0) else none
      let rev := if pres.getLsbD 3 then some (word16 r1 r0) else none
      match carried (pres.getLsbD 0) (emitClassOf? c), carried (pres.getLsbD 2) (markOf? act) with
      | some cls, some none => .command (.amend q v p cls tag rev)
      | some cls, some (some false) => .command (.amendClear q v p cls tag rev)
      | some cls, some (some true) => .command (.amendReprove q v p cls tag rev)
      | _, _ => .badFrame
    else .badFrame
  | _ => .badFrame

/-- RETIRE (6 bytes). -/
def parseRetire (q : Sender) : List Byte → Parsed
  | [v, p, pres, reason, r1, r0] =>
    if presenceOk pres 8 then
      .ofOption ((reasonOf? reason).map fun why =>
        .retire q v p why (if pres.getLsbD 3 then some (word16 r1 r0) else none))
    else .badFrame
  | _ => .badFrame

/-- ORDER (6 + 3n bytes, n at most 12). -/
def parseOrder (q : Sender) : List Byte → Parsed
  | pres :: a1 :: a0 :: role :: leg :: n :: rest =>
    if presenceOk pres 7 && decide (n.toNat ≤ 12) then
      match carried (pres.getLsbD 1) (roleOf? role), parseEntries n.toNat rest with
      | some r, some es =>
        .command (.order q { alpha := if pres.getLsbD 0 then some (word16 a1 a0) else none, role := r,
                             leg := if pres.getLsbD 2 then some leg else none, entries := es })
      | _, _ => .badFrame
    else .badFrame
  | _ => .badFrame

/-- SET (4 bytes). -/
def parseSet (q : Sender) : List Byte → Parsed
  | [code, v, hi, lo] =>
    match settingOf? code with
    | some σ => .command (setCommand q v (word16 hi lo) σ)
    | none => .badKey
  | _ => .badFrame

/-- A request whose payload is empty. -/
def parseNone (c : Instr) : List Byte → Parsed
  | [] => .command c
  | _ => .badFrame

/-- The payload of a request, read by its kind (R168). -/
def parsePayload (q : Sender) (kind : Nat) (payload : List Byte) : Parsed :=
  match kind with
  | 0x10 => match payload with | [v, p] => .command (.lookLevel q v p) | _ => .badFrame
  | 0x11 => match payload with | [v, p, n] => .command (.lookLevels q v p n) | _ => .badFrame
  | 0x12 => match payload with | [v] => .command (.lookValve q v) | _ => .badFrame
  | 0x13 => parseNone (.lookConverter q) payload
  | 0x14 => match payload with | [x] => .command (.lookPage q x) | _ => .badFrame
  | 0x15 => match payload with | [c, v] => .command (.lookSetting q c v) | _ => .badFrame
  | 0x16 => parseNone (.lookNotices q) payload
  | 0x20 => parseAdmit q payload
  | 0x21 => parseAmend q payload
  | 0x22 => parseRetire q payload
  | 0x23 => match payload with | [v, p, n] => .command (.check q v p n) | _ => .badFrame
  | 0x30 => parseOrder q payload
  | 0x31 => parseNone (.swap q) payload
  | 0x32 => parseNone (.deblock q) payload
  | 0x33 => parseNone (.block q) payload
  | 0x34 => parseNone (.retard q) payload
  | 0x35 => parseNone (.bypass q) payload
  | 0x36 => parseNone (.clearTrip q) payload
  | 0x37 => match payload with | [x] => .command (.trim q (x.getLsbD 0) (x.getLsbD 1)) | _ => .badFrame
  | 0x40 => parseNone (.holdLink q) payload
  | 0x41 => parseNone (.releaseLink q) payload
  | 0x50 => parseSet q payload
  | 0x51 => parseNone (.restart q) payload
  | 0x60 => match payload with | [hi, lo] => .command (.clearNotices q ((word16 hi lo).setWidth 10)) | _ => .badFrame
  | 0x61 => match payload with | [hi, lo] => .command (.setNoticeMask q ((word16 hi lo).setWidth 10)) | _ => .badFrame
  | _ => .badFrame

/-- The request that a received frame spells (R154): BAD FRAME when the transfer ended early or the payload
length, a presence bit or a coded field is not one the kind permits. -/
def parseFrame (p : Port) (f : Frame) : Parsed :=
  match f.tag, f.length with
  | some t, some n =>
    if f.payload.length = n.toNat then parsePayload { port := p, tag := t } f.kind.toNat f.payload
    else .badFrame
  | _, _ => .badFrame

/-- The frame in the bytes of a transfer: none when the first byte is 00h or was not complete (R152, R168).
Bytes beyond the declared length are ignored. -/
def frameOfBytes : List Byte → Option Frame
  | [] => none
  | kind :: rest =>
    if kind = 0 then none
    else some { kind := kind, tag := rest[0]?, length := rest[1]?,
                payload := (rest.drop 2).take ((rest[1]?.map BitVec.toNat).getD 0) }

/-! ### The frame of each request -/

/-- An optional number of `k` bytes: absent is sent as 0 (R168). -/
def optional16 (w : Option Word16) : List Byte := bytes16 (w.getD 0)
def optional24 (w : Option Word24) : List Byte := bytes24 (w.getD 0)

/-- A presence byte from its bits 0 to 3. -/
def presence (b0 b1 b2 b3 : Bool) : Byte :=
  byte ((if b0 then 1 else 0) + (if b1 then 2 else 0) + (if b2 then 4 else 0) + (if b3 then 8 else 0))

/-- The payload of AMEND, with the action or none. -/
def amendPayload (valve position : Byte) (cls : Option EmitClass) (tag : Option Word24) (action : Option Bool)
    (rev : Option Word16) : List Byte :=
  [valve, position, presence cls.isSome tag.isSome action.isSome rev.isSome, (cls.map emitClassCode).getD 0]
    ++ optional24 tag ++ [flagByte (action.getD false)] ++ optional16 rev

/-- The payload of ORDER. -/
def orderPayload (o : OrderParts) : List Byte :=
  [presence o.alpha.isSome o.role.isSome o.leg.isSome false] ++ optional16 o.alpha
    ++ [(o.role.map roleCode).getD 0, o.leg.getD 0, byte o.entries.length]
    ++ o.entries.flatMap fun e => [e.valve, e.trim, flagByte e.pair]

/-- The payload of SET. -/
def setPayload (σ : Setting) (valve : Byte) (value : Word16) : List Byte := [σ.code, valve] ++ bytes16 value

/-- The kind code, sender and payload of a command that is a request (R168); none for an event. -/
def requestOf : Instr → Option (Sender × Byte × List Byte)
  | .lookLevel q v p => some (q, 0x10, [v, p])
  | .lookLevels q v p n => some (q, 0x11, [v, p, n])
  | .lookValve q v => some (q, 0x12, [v])
  | .lookConverter q => some (q, 0x13, [])
  | .lookPage q x => some (q, 0x14, [x])
  | .lookSetting q c v => some (q, 0x15, [c, v])
  | .lookNotices q => some (q, 0x16, [])
  | .admitLevel q v p cls tag => some (q, 0x20,
      [v, p, presence cls.isSome tag.isSome false false, (cls.map emitClassCode).getD 0] ++ optional24 tag)
  | .amend q v p cls tag rev => some (q, 0x21, amendPayload v p cls tag none rev)
  | .amendClear q v p cls tag rev => some (q, 0x21, amendPayload v p cls tag (some false) rev)
  | .amendReprove q v p cls tag rev => some (q, 0x21, amendPayload v p cls tag (some true) rev)
  | .retire q v p why rev => some (q, 0x22,
      [v, p, presence false false false rev.isSome, retireReasonCode why] ++ optional16 rev)
  | .check q v p n => some (q, 0x23, [v, p, n])
  | .order q o => some (q, 0x30, orderPayload o)
  | .swap q => some (q, 0x31, [])
  | .deblock q => some (q, 0x32, [])
  | .block q => some (q, 0x33, [])
  | .retard q => some (q, 0x34, [])
  | .bypass q => some (q, 0x35, [])
  | .clearTrip q => some (q, 0x36, [])
  | .trim q i d => some (q, 0x37, [presence i d false false])
  | .holdLink q => some (q, 0x40, [])
  | .releaseLink q => some (q, 0x41, [])
  | .restart q => some (q, 0x51, [])
  | .clearNotices q f => some (q, 0x60, bytes16 (f.setWidth 16))
  | .setNoticeMask q m => some (q, 0x61, bytes16 (m.setWidth 16))
  | .setMissLimit q w => some (q, 0x50, setPayload .missLimit 0 w)
  | .setDarkLimit q w => some (q, 0x50, setPayload .darkLimit 0 w)
  | .setProvingCount q w => some (q, 0x50, setPayload .provingCount 0 w)
  | .setClearCount q w => some (q, 0x50, setPayload .clearCount 0 w)
  | .setWindowLow q w => some (q, 0x50, setPayload .windowLow 0 w)
  | .setWindowHigh q w => some (q, 0x50, setPayload .windowHigh 0 w)
  | .setMinimumSound q v w => some (q, 0x50, setPayload .minimumSound v w)
  | .setReserve q v w => some (q, 0x50, setPayload .reserve v w)
  | .setWordIntervalCode q w => some (q, 0x50, setPayload .wordIntervalCode 0 w)
  | .setCyclePriority q w => some (q, 0x50, setPayload .cyclePriority 0 w)
  | .setDirectedPriority q w => some (q, 0x50, setPayload .directedPriority 0 w)
  | .setSweepPriority q w => some (q, 0x50, setPayload .sweepPriority 0 w)
  | .setSweepEnable q w => some (q, 0x50, setPayload .sweepEnable 0 w)
  | .setSweepInterval q w => some (q, 0x50, setPayload .sweepInterval 0 w)
  | .setPreEmption q w => some (q, 0x50, setPayload .preEmption 0 w)
  | .setReferenceOffset q w => some (q, 0x50, setPayload .referenceOffset 0 w)
  | .setDisturbanceGear q w => some (q, 0x50, setPayload .disturbanceGear 0 w)
  | .setHoldLimit q w => some (q, 0x50, setPayload .holdLimit 0 w)
  | .setAlphaMin q w => some (q, 0x50, setPayload .alphaMin 0 w)
  | .setAlphaMax q w => some (q, 0x50, setPayload .alphaMax 0 w)
  | .setRetardAngle q w => some (q, 0x50, setPayload .retardAngle 0 w)
  | .setRampRate q w => some (q, 0x50, setPayload .rampRate 0 w)
  | .setRetardCycles q w => some (q, 0x50, setPayload .retardCycles 0 w)
  | .setDeionizationCycles q w => some (q, 0x50, setPayload .deionizationCycles 0 w)
  | .setRestartLimit q w => some (q, 0x50, setPayload .restartLimit 0 w)
  | .setRecoveryCycles q w => some (q, 0x50, setPayload .recoveryCycles 0 w)
  | .setBypassCycles q w => some (q, 0x50, setPayload .bypassCycles 0 w)
  | .setCommutationFailureAdvance q w => some (q, 0x50, setPayload .cfAdvance 0 w)
  | .setCommutationFailureHold q w => some (q, 0x50, setPayload .cfHold 0 w)
  | .setCommutationFailureLimit q w => some (q, 0x50, setPayload .cfLimit 0 w)
  | .setStandardOnTime q w => some (q, 0x50, setPayload .standardOnTime 0 w)
  | .setLongOnTime q w => some (q, 0x50, setPayload .longOnTime 0 w)
  | .setSpreadLimit q w => some (q, 0x50, setPayload .spreadLimit 0 w)
  | .powerOnReset
  | .restartPulse
  | .blockLineAsserted
  | .linefaultEdge
  | .authSelChange _
  | .referenceCrossing _
  | .missedCrossing
  | .phaseLost
  | .phaseStepEvent
  | .phaseCorrection
  | .recoveryComplete
  | .commutationTrip
  | .retardExpiry
  | .deionizationEnd
  | .bypassExpiry
  | .bypassOccasion
  | .sweepOccasion
  | .sweepCut _
  | .arbiterPollStart
  | .replyHeader _
  | .resultWord _
  | .frameError _
  | .deferredHold _
  | .wordIntervalEnd
  | .replyTimeout
  | .wordTimeout
  | .linkDown
  | .onTimeEnd _
  | .gapEnd _
  | .stopFrameEnd _
  | .deferredSwap _
  | .transfer _ _
  | .blockLineReleased
  | .linefaultReleased
  | .porAsserted => none

/-- The frame that carries a request (R168). -/
def requestFrame (q : Sender) (kind : Byte) (payload : List Byte) : Frame :=
  { kind := kind, tag := some q.tag, length := some (byte payload.length), payload := payload }

/-- Whether a request is open to the port in authority alone (R155). -/
def isChange : Instr → Bool
  | .lookLevel .. | .lookLevels .. | .lookValve .. | .lookConverter .. | .lookPage .. | .lookSetting ..
  | .lookNotices .. | .clearNotices .. | .setNoticeMask .. => false
  | _ => true

end Sys2Proof.Machine
end

