-- ==== Sys2Proof/Machine/Flags.lean ====
section
/-! DEFINITION. The notice flags of the two ports and the lines they drive (R159, R160). -/

namespace Sys2Proof.Machine

/-- The ten notice flags, in the bit order of R168. -/
inductive Notice where
  | level | grade | converter | trip | phase | link | queueDrop | swap | restarts | reset
  deriving DecidableEq, Repr

/-- The flag word with one flag set (R168). -/
def noticeBit : Notice → BitVec 10
  | .level => 0x001
  | .grade => 0x002
  | .converter => 0x004
  | .trip => 0x008
  | .phase => 0x010
  | .link => 0x020
  | .queueDrop => 0x040
  | .swap => 0x080
  | .restarts => 0x100
  | .reset => 0x200

/-- A notice event sets its flag in the sets of both ports; a flag already set stays set (R159). -/
def setNotice (n : Notice) (s : State) : State :=
  { s with portA := { s.portA with flags := s.portA.flags ||| noticeBit n },
           portB := { s.portB with flags := s.portB.flags ||| noticeBit n } }

/-- The NOTICE line of a port is asserted while a flag whose mask mark is on is set (R160). -/
def noticeLine (u : PortUnit) : Bool := u.flags &&& u.mask != 0

/-- TRIP is asserted exactly while the trip latch is set (R133, R167). -/
def tripLine (s : State) : Bool := s.seq.tripLatch

end Sys2Proof.Machine
end

