-- ==== Sys2Proof/Machine/Ops.lean ====
section
/-! DEFINITION. The named operations over the part's registers: one reader and one writer for each table,
saturating counts, and the classes of the life, lock and converter states. -/

namespace Sys2Proof.Machine

/-! ### Tables -/

/-- A table with one entry replaced. -/
def put {α : Type} {n : Nat} (xs : Vector α n) (i : Fin n) (x : α) : Vector α n := xs.set i.val x i.isLt

/-- A table with a function applied to each entry. -/
def mapEntries {α β : Type} {n : Nat} (f : α → β) (xs : Vector α n) : Vector β n :=
  ⟨⟨xs.toList.map f⟩, by simp⟩

/-- The Level Record of a key (R1). -/
def State.record (s : State) (v : Valve) (p : Position) : LevelRecord := s.table[v][p]

def State.setRecord (s : State) (v : Valve) (p : Position) (r : LevelRecord) : State :=
  { s with table := put s.table v (put s.table[v] p r) }

/-- The Valve Tally of a valve (R24). -/
def State.tally (s : State) (v : Valve) : Tally := s.tallies[v]

def State.setTally (s : State) (v : Valve) (t : Tally) : State := { s with tallies := put s.tallies v t }

/-- The emitter lane of a valve (R140). -/
def State.lane (s : State) (v : Valve) : Lane := s.lanes[v]

def State.setLane (s : State) (v : Valve) (l : Lane) : State := { s with lanes := put s.lanes v l }

/-- A request port (R151). -/
def State.port (s : State) : Port → PortUnit
  | .a => s.portA
  | .b => s.portB

def State.setPort (s : State) (p : Port) (u : PortUnit) : State :=
  match p with
  | .a => { s with portA := u }
  | .b => { s with portB := u }

def otherPort : Port → Port
  | .a => .b
  | .b => .a

/-- The page that the live index names (R108). -/
def State.livePage (s : State) : Page :=
  match s.schedule.live with
  | .a => s.schedule.pageA
  | .b => s.schedule.pageB

/-- The page that the live index does not name (R108). -/
def State.stagedPage (s : State) : Page :=
  match s.schedule.live with
  | .a => s.schedule.pageB
  | .b => s.schedule.pageA

/-- The number of valves whose grade is UNFIT (R29). -/
def unfitCount (s : State) : Nat := (allValves.filter fun v => decide ((s.tally v).grade = .unfit)).length

/-! ### Counts -/

/-- A count that saturates at `cap` (Conventions). -/
def saturate (cap n : Nat) : Nat := min (n + 1) cap

/-- A value brought into a range. -/
def clampNat (lo hi n : Nat) : Nat := if n < lo then lo else if hi < n then hi else n

/-! ### Classes -/

/-- Monitored, emitting: PROVING, SERVING, SUSPECT (R5). -/
def isMonitored : Life → Bool
  | .proving | .serving | .suspect => true
  | _ => false

def isEmitting (l : Life) : Bool := isMonitored l

/-- Sound: SERVING, SUSPECT (R5). -/
def isSound : Life → Bool
  | .serving | .suspect => true
  | _ => false

/-- The states in which the phase chain runs: LOCKED, DISTURBED, HOLDING (R95). -/
def chainRuns : Lock → Bool
  | .locked | .disturbed | .holding => true
  | _ => false

/-- The firing states (R120). -/
def isFiring : Conv → Bool
  | .ramping | .running | .retarded | .bypassing => true
  | _ => false

/-- The states in which windows are open (R120, R122). -/
def hasWindows : Conv → Bool
  | .ramping | .running | .retarded => true
  | _ => false

/-- BLOCKED or TRIPPED: the states in which the guarded settings may change (R165). -/
def isStopped : Conv → Bool
  | .blocked | .tripped => true
  | _ => false

/-- The states in which MARGIN is checked (R13). -/
def checksMargin : Conv → Bool
  | .pending | .ramping | .running | .retarded | .bypassing => true
  | _ => false

/-- While the POR line is low the part is held in power-on reset and takes nothing (R167). -/
def powered (act : State → State) (s : State) : Host.Outcome State Fault Refusal :=
  .next (if s.lines.porLow then s else act s)

end Sys2Proof.Machine
end

