-- ==== Sys2Proof/Machine/Ports.lean ====
section
/-! DEFINITION. Request ports and request engine: transfers, the beginning of a request, authority, and the
placing of answers (R151 to R156). -/

namespace Sys2Proof.Machine

/-- What a claim answers (R156). -/
structure Reply where
  code    : AnswerCode
  reason  : Option Reason
  payload : List Byte
  deriving DecidableEq, Repr

/-- An answer without reason or payload. -/
def plain (code : AnswerCode) : Reply := { code := code, reason := none, payload := [] }

/-- DONE with the image of a lookup (R156, R169). -/
def image (bytes : List Byte) : Reply := { code := .done, reason := none, payload := bytes }

/-- NOT READY with its reason (R156). -/
def notReady (why : Reason) : Reply := { code := .notReady, reason := some why, payload := [] }

/-! ### Bytes of the answer and status frames (R168) -/

def answerCodeByte : AnswerCode → Byte
  | .done => 0x00
  | .clamped => 0x01
  | .notInAuthority => 0x10
  | .badFrame => 0x11
  | .badKey => 0x12
  | .badValue => 0x13
  | .wrongState => 0x20
  | .stale => 0x21
  | .margin => 0x22
  | .spread => 0x23
  | .pending => 0x24
  | .full => 0x25
  | .notReady => 0x26

def reasonByte : Option Reason → Byte
  | none => 0
  | some .blockLine => 1
  | some .phase => 2
  | some .pageInvalid => 3
  | some .valveUnfit => 4

/-- Kind, tag, answer code, reason code, payload length, payload. -/
def answerBytes (a : Answer) : List Byte :=
  [a.kind, a.tag, answerCodeByte a.code, reasonByte a.reason, byte a.payload.length] ++ a.payload

def portStateCode : PortState → Nat
  | .idle => 0
  | .working => 1
  | .answered => 2

/-- The status byte: port state, refused flag, authority, NOTICE level. -/
def statusByte (p : Port) (s : State) : Byte :=
  let u := s.port p
  byte (portStateCode u.state + (if u.refused then 4 else 0) + (if s.lines.authSel = p then 8 else 0)
    + (if noticeLine u then 16 else 0))

/-! ### Free choices -/

/-- One of several candidates, and the count of free values after the choice: a single candidate takes none, of several
a free one is taken (log entries 2 and 18). -/
def chooseOne {α : Type} (count : Nat) (first : α) : List α → α × Nat
  | [] => (first, count)
  | second :: rest =>
    let all := first :: second :: rest
    (all.getD (Config.eventPlace count % all.length) first, count + 1)

/-! ### The engine -/

/-- The answer to the request in a port's slot is placed: the port becomes ANSWERED (R153, R156). A tag that
the transfer did not reach is a free value (log entry 11). -/
def placeAnswer (p : Port) (r : Reply) (s : State) : State :=
  match (s.port p).request with
  | none => s
  | some f =>
    let a : Answer := { kind := f.kind, tag := f.tag.getD (Config.unreceivedTag s.freeCount), code := r.code,
                        reason := r.reason, payload := r.payload }
    let s1 := s.setPort p { s.port p with state := .answered, request := none, begun := false, answer := some a }
    if f.tag.isSome then s1 else { s1 with freeCount := s.freeCount + 1 }

/-- A request waits when its port is WORKING and the engine has not yet begun it (R153). -/
def waits (p : Port) (s : State) : Bool := decide ((s.port p).state = .working) && !(s.port p).begun

/-- The port whose request the engine begins next: with both waiting, the one it did not serve last (R153). -/
def nextPort (s : State) : Option Port :=
  if waits (otherPort s.engine.last) s then some (otherPort s.engine.last)
  else if waits s.engine.last s then some s.engine.last
  else none

/-- The checks at the beginning of a request: BAD FRAME, then NOT IN AUTHORITY, then the BAD KEY of a SET whose
code is no setting's (R154, R155, R165). -/
def refusalAtBegin (p : Port) (s : State) : Option Reply :=
  match (s.port p).request.map (parseFrame p) with
  | none => none
  | some .badFrame => some (plain .badFrame)
  | some .badKey => some (plain (if s.lines.authSel = p then .badKey else .notInAuthority))
  | some (.command c) => if isChange c && decide (s.lines.authSel ≠ p) then some (plain .notInAuthority) else none

/-- The engine takes up the request of a port: busy, port served last (R153). -/
def beginPort (p : Port) (s : State) : State :=
  { s.setPort p { s.port p with begun := true } with engine := { busy := true, last := p } }

/-- The engine is no longer busy (R153). -/
def freeEngine (s : State) : State := { s with engine := { s.engine with busy := false } }

/-- An idle engine begins waiting requests until one passes the checks of its beginning or none waits (R153). -/
def engineBegin : Nat → State → State
  | 0, s => s
  | n + 1, s =>
    if s.engine.busy then s
    else match nextPort s with
      | none => s
      | some p =>
        let s1 := beginPort p s
        match refusalAtBegin p s1 with
        | some r => engineBegin n (freeEngine (placeAnswer p r s1))
        | none => s1

/-- The end of a request's execution: its answer is placed, or left to its owner, and the engine begins the next
request (R153). -/
def conclude (p : Port) (done : State × Option Reply) : State :=
  let s1 := match done.2 with
    | some r => placeAnswer p r done.1
    | none => done.1
  engineBegin 2 (freeEngine s1)

/-- A frame reaches the end of its transfer on a port found IDLE or ANSWERED: it enters the slot, any answer is
discarded, the refused flag is cleared, the port becomes WORKING (R152), and an idle engine begins it (R153). -/
def acceptFrame (p : Port) (f : Frame) (s : State) : State :=
  engineBegin 2 (s.setPort p { s.port p with state := .working, request := some f, begun := false,
                                             answer := none, refused := false })

/-- A frame sent to a port in a transfer of its own: accepted, or discarded with the refused flag set when the
port is WORKING (R152). While another transfer of the port is in progress it cannot be sent (log entry 6). -/
def sendFrame (p : Port) (f : Frame) (s : State) : State :=
  if (s.port p).transfer.isSome then s
  else if (s.port p).state = .working then s.setPort p { s.port p with refused := true }
  else acceptFrame p f s

/-- The engine is executing exactly this request of this port. -/
def begun (c : Instr) (p : Port) (s : State) : Bool :=
  s.engine.busy && decide (s.engine.last = p) && (s.port p).begun
    && decide ((s.port p).request.map (parseFrame p) = some (.command c))

/-- A request row. When the engine has begun exactly this request, the row is its execution. Otherwise the row
stands for the whole passage: its frame is sent to the port as R152 states, and executed if the engine begins
it at once (DESIGN CHOICE, safe, log entry 6). -/
def serve (c : Instr) (run : State → State) (s : State) : State :=
  match requestOf c with
  | none => s
  | some (q, kind, payload) =>
    let s1 := if begun c q.port s then s else sendFrame q.port (requestFrame q kind payload) s
    if begun c q.port s1 then run s1 else s1

/-- A request row whose execution is one claim. -/
def serveClaim (c : Instr) (p : Port) (claim : State → State × Option Reply) (s : State) :
    Host.Outcome State Fault Refusal :=
  powered (serve c fun t => conclude p (claim t)) s

/-! ### Transfers (R151, R152) -/

/-- Chip select is asserted: the transfer is judged by the port state found now. A port whose transfer is in
progress has its chip select asserted already: no effect. -/
def startTransfer (p : Port) (s : State) : State :=
  let u := s.port p
  match u.transfer with
  | some _ => s
  | none =>
    s.setPort p { u with transfer := some { status := statusByte p s, found := u.state, answer := u.answer,
                                            discard := false } }

/-- What the part shifts out in a transfer of `n` bytes: the status byte, then the answer found at the start, or
filler (R151, R168). -/
def shifted (t : Transfer) (n : Nat) : List Byte :=
  let out := t.status :: (match t.answer with | some a => answerBytes a | none => [])
  (out ++ List.replicate (n - out.length) 0).take n

/-- Whether a transfer of `n` bytes clocked out the whole answer found at its start. -/
def readWhole (t : Transfer) (n : Nat) : Bool :=
  match t.answer with
  | some a => decide ((answerBytes a).length + 1 ≤ n)
  | none => false

/-- Chip select is released: what the control system sent is handled by the port state found at the start (R152).
A transfer into which a control reset fell is discarded whole (R162). -/
def endTransfer (p : Port) (sent : List Byte) (s : State) : State :=
  let u := s.port p
  match u.transfer with
  | none => s
  | some t =>
    let s1 := s.setPort p { u with transfer := none, shiftedOut := shifted t sent.length }
    let u1 := s1.port p
    if t.discard then s1
    else match frameOfBytes sent, t.found with
      | some _, .working => s1.setPort p { u1 with refused := true }
      | some f, _ => acceptFrame p f s1
      | none, .answered =>
        if readWhole t sent.length then s1.setPort p { u1 with state := .idle, answer := none } else s1
      | none, _ => s1

/-- A transfer event: its start, its end, or both as one whole when no transfer of the port is in progress. -/
def transferEvent (p : Port) (part : TransferPart) (s : State) : State :=
  match part with
  | .select => startTransfer p s
  | .release sent => endTransfer p sent s
  | .whole sent => if (s.port p).transfer.isSome then s else endTransfer p sent (startTransfer p s)

end Sys2Proof.Machine
end

