-- ==== Sys2Proof/Machine/Sources.lean ====
section
/-! DEFINITION. The poll sources: the directed queue, the sweep source, and what a source does at the end of its
poll (R75, R79 to R83, R86, R87). -/

namespace Sys2Proof.Machine

/-! ### Directed queue (R45, R79, R80) -/

/-- The directed queue has a free place (R79). -/
def hasPlace (s : State) : Bool := decide (s.sources.directed.length < 4)

/-- An entry joins the tail of the directed queue, not in progress (R79). -/
def joinDirected (v : Valve) (first count : Nat) (origin : EntryOrigin) (s : State) : State :=
  { s with sources := { s.sources with
      directed := s.sources.directed ++
        [{ valve := v, first := first, count := count, origin := origin, inProgress := false }] } }

/-- A protective-firing offer (R45): taken when there is a free place, dropped with QUEUE DROP otherwise. -/
def offerCheck (v : Valve) (p : Position) (s : State) : State :=
  if hasPlace s then joinDirected v (positionNumber p) 1 .protectiveFiring s else setNotice .queueDrop s

/-- The claim of CHECK (R80). -/
def checkClaim (valve first count : Byte) (s : State) : State × Option Reply :=
  if count.toNat < 1 || 8 < count.toNat then (s, some (plain .badValue))
  else match valveOf? valve, positionOf? first.toNat, positionOf? (first.toNat + count.toNat - 1) with
    | some v, some _, some _ =>
      if hasPlace s then (joinDirected v first.toNat count.toNat .request s, some (plain .done))
      else (s, some (plain .full))
    | _, _, _ => (s, some (plain .badKey))

/-! ### Sweep source (R81 to R83, R86) -/

/-- The first valve below `v`, from 1 on to 12 and at last `v` itself, whose top position is above 0 (R82). -/
def nextCursor (v : Valve) (s : State) : Option Valve :=
  (allValves.map fun k => v - 1 - k).find? fun w => decide (0 < (s.tally w).top)

/-- The sweep cursor moves from a valve (R82). -/
def moveCursor (v : Valve) (s : State) : State :=
  match nextCursor v s with
  | some w => { s with sources := { s.sources with cursor := w } }
  | none => s

/-- The valve of the sweep request that an occasion would raise: the cursor valve, or the next below it with a top
position above 0 (R81). -/
def sweepValve (s : State) : Option Valve :=
  if 0 < (s.tally s.sources.cursor).top then some s.sources.cursor else nextCursor s.sources.cursor s

/-- A sweep occasion (R81): a request is raised unless one is pending, a sweep poll is in progress or a remainder
is kept. -/
def sweepOccasion (s : State) : State :=
  if s.sources.sweepRequest.isSome || s.sources.sweepInProgress || s.sources.remainder.isSome then s
  else match sweepValve s with
    | some w => { s with sources := { s.sources with cursor := w, sweepRequest := some w } }
    | none => s

/-- The sweep timer at a cycle start would reach the sweep interval (R81). -/
def sweepDue (s : State) : Bool :=
  s.settings.sweepEnable && decide (s.settings.sweepInterval ≤ s.sources.sweepTimer + 1)

/-- The sweep source at a cycle start (R81). -/
def sweepTick (s : State) : State :=
  if sweepDue s then sweepOccasion { s with sources := { s.sources with sweepTimer := 0 } }
  else if s.settings.sweepEnable then
    { s with sources := { s.sources with sweepTimer := saturate 255 s.sources.sweepTimer } }
  else s

/-- The consequences of a SET of sweep enable (R83): the timer becomes 0; off also removes the pending request and
the kept remainder. -/
def sweepEnableSet (on : Bool) (s : State) : State :=
  { s with sources := { s.sources with
      sweepTimer := 0,
      sweepRequest := if on then s.sources.sweepRequest else none,
      remainder := if on then s.sources.remainder else none } }

/-! ### The end of a poll at its source (R87) -/

/-- The source is told that its poll has completed or was aborted (R87). -/
def tellEnded (p : Poll) (s : State) : State :=
  match p.source with
  | .cycle => s
  | .directed => { s with sources := { s.sources with directed := s.sources.directed.tail } }
  | .sweep =>
    let s1 := { s with sources := { s.sources with sweepInProgress := false } }
    if p.valve = s.sources.cursor then moveCursor p.valve s1 else s1

/-- The sweep source is told of a cut and takes the remainder, which is discarded while sweep enable is off
(R86, R87). -/
def tellCut (p : Poll) (s : State) : State :=
  { s with sources := { s.sources with
      sweepInProgress := false,
      remainder := if s.settings.sweepEnable then some (p.valve, p.next) else none } }

/-! ### Check points (R75) -/

/-- The default point of a valve (R75). -/
def defaultPoint (v : Valve) : Nat := (v.val * 300 + 1800) % 3600

/-- The armed points are cleared when the phase chain stops (R75). -/
def clearArmed (s : State) : State :=
  { s with sources := { s.sources with armed := Vector.replicate 12 none } }

end Sys2Proof.Machine
end

