-- ==== Sys2Proof/Machine/Lanes.lean ====
section
/-! DEFINITION. Emitter lanes: burst requests, bursts and cuts (R141 to R150). -/

namespace Sys2Proof.Machine

/-- Base ticks of one µs at 40 MHz (Conventions). -/
def ticksPerMicrosecond : Nat := 40

/-- Base ticks of a 36-bit lane frame at 40 Mbit/s, 0.9 µs (R143). -/
def laneFrameTicks : Nat := 36

/-- The 24 records of one bank of a valve, in ascending position order (R24). -/
def bankRecords (v : Valve) (b : Bank) (s : State) : List LevelRecord :=
  (s.table[v].toList.drop (24 * b.val)).take 24

/-- The enable flags of a bank: flag i is set when the record of its i-th position is emitting; flag 1 is the most
significant bit (R142). -/
def enableFlags (records : List LevelRecord) : Word24 :=
  records.foldl (fun acc r => acc <<< 1 ||| (if isEmitting r.life then 1 else 0)) 0

/-- The on-time of a bank: long when an emitting record is LONG, standard otherwise (R31, R142). -/
def bankOnTime (records : List LevelRecord) (settings : Settings) : Nat :=
  if records.any fun r => isEmitting r.life && decide (r.emitClass = .long) then settings.longOnTime
  else settings.standardOnTime

/-- What a burst that starts now lights in a bank. -/
def bankLight (v : Valve) (s : State) (b : Bank) : BankLight :=
  { flags := enableFlags (bankRecords v b s), onTime := bankOnTime (bankRecords v b s) s.settings }

/-- The composition that a burst latches, read from the 96 records of its valve and the on-times (R142). -/
def compose (v : Valve) (s : State) : Vector BankLight 4 :=
  #v[bankLight v s 0, bankLight v s 1, bankLight v s 2, bankLight v s 3]

/-- A bank is active when at least one of its enable flags is set (R142). -/
def isActive (comp : Vector BankLight 4) (b : Bank) : Bool := comp[b].flags != 0

/-- The lowest active bank from bank index `from'` up. -/
def activeFrom (comp : Vector BankLight 4) (from' : Nat) : Option Bank :=
  allBanks.find? fun b => decide (from' ≤ b.val) && isActive comp b

/-- The lane sends the bank frame of a bank and enters LIT (R143). -/
def lightBank (comp : Vector BankLight 4) (b : Bank) (l : Lane) : Lane :=
  { l with state := .lit, composition := some comp, bank := some b, timer := comp[b].onTime * ticksPerMicrosecond,
           frame := some (bankFrame b comp[b]) }

/-- The lane has no burst: composition and present bank absent, IDLE. -/
def darkLane (l : Lane) : Lane := { l with state := .idle, composition := none, bank := none, timer := 0 }

/-- A burst request (R141, R142): refused by a busy lane with the drop count raised; taken by an idle lane in a
firing state, where it starts a burst unless no bank is active. -/
def burstRequest (v : Valve) (s : State) : State :=
  let l := s.lane v
  match l.state with
  | .idle =>
    if isFiring s.seq.conv then
      match activeFrom (compose v s) 0 with
      | some b => s.setLane v (lightBank (compose v s) b l)
      | none => s
    else s
  | .lit | .gap | .stopping => s.setLane v { l with drops := saturate 255 l.drops }

/-- The on-time of the present bank ends: GAP toward the next active bank, or the end of the burst (R143). -/
def laneOnTimeEnd (l : Lane) : Lane :=
  match l.state, l.composition, l.bank with
  | .lit, some comp, some b =>
    match activeFrom comp (b.val + 1) with
    | some b' => { l with state := .gap, bank := some b', timer := ticksPerMicrosecond }
    | none => darkLane l
  | _, _, _ => l

/-- The 1 µs gap ends: the bank frame of the present bank is sent (R143). -/
def laneGapEnd (l : Lane) : Lane :=
  match l.state, l.composition, l.bank with
  | .gap, some comp, some b => lightBank comp b l
  | _, _, _ => l

/-- The STOP frame ends (R145). -/
def laneStopEnd (l : Lane) : Lane :=
  match l.state with
  | .stopping => darkLane l
  | _ => l

/-- Base ticks that the bank frame of a LIT lane still needs when it is cut (R145, log entry 19). -/
def frameTicksLeft (l : Lane) : Nat :=
  match l.composition, l.bank with
  | some comp, some b => laneFrameTicks - (comp[b].onTime * ticksPerMicrosecond - l.timer)
  | _, _ => 0

/-- A cut reaches a lane (R145). -/
def cutLane (l : Lane) : Lane :=
  match l.state with
  | .lit => { l with state := .stopping, composition := none, bank := none,
                     timer := frameTicksLeft l + laneFrameTicks, frame := some stopFrame }
  | .gap => darkLane l
  | .stopping | .idle => l

/-- A cut ends the burst of every lane (R145). -/
def cutLanes (s : State) : State := { s with lanes := mapEntries cutLane s.lanes }

end Sys2Proof.Machine
end

