-- ==== Sys2Proof/Machine/Sequencer.lean ====
section
/-! DEFINITION. The Firing Sequencer: changes of converter state, trips, work at a cycle start, firing windows and
bypass occasions (R120 to R137). -/

namespace Sys2Proof.Machine

/-- Rank of an exit target, weakest first (R120). -/
def exitRank : ExitTarget → Nat
  | .deionizing => 0
  | .blocked => 1
  | .tripped => 2

/-- The sequencer's own items at an entry into a state (R120, R122, R132): windows close outside RAMPING, RUNNING
and RETARDED; the commutation-failure items clear outside RAMPING and RUNNING; attempts used clears in BLOCKED
and TRIPPED; the recovery count is 0 at entry into RUNNING and after leaving it (DEDUCED, log entry 13). -/
def enterItems (c : Conv) (x : Option ExitTarget) (q : Sequencer) : Sequencer :=
  let keepsCf : Bool := match c with | .ramping | .running => true | _ => false
  { q with conv := c, exitTarget := x,
           windows := if hasWindows c then q.windows else Vector.replicate 12 .closed,
           cfHold := if keepsCf then q.cfHold else 0,
           cfRun := if keepsCf then q.cfRun else 0,
           cfMark := if keepsCf then q.cfMark else false,
           lastFailure := if keepsCf then q.lastFailure else none,
           attempts := if isStopped c then 0 else q.attempts,
           freshTrip := false,
           recovery := 0 }

/-- A change of converter state: CONVERTER is set (R120), and a change out of the firing states cuts the lanes
(R145). -/
def enter (c : Conv) (x : Option ExitTarget) (s : State) : State :=
  let s1 := setNotice .converter { s with seq := enterItems c x s.seq }
  if isFiring s.seq.conv && !isFiring c then cutLanes s1 else s1

/-- RETARDED with an exit target and retard count 0 (R128, R130, R133). -/
def enterRetarded (x : ExitTarget) (s : State) : State :=
  let t := enter .retarded (some x) s
  { t with seq := { t.seq with retardCount := 0 } }

/-- BYPASSING with an exit target, bypass count and spacing 0, the first occasion at the next step event (R131). -/
def enterBypassing (x : ExitTarget) (s : State) : State :=
  let t := enter .bypassing (some x) s
  { t with seq := { t.seq with bypassCount := 0, bypassSpacing := 0, bypassEntry := true } }

/-- DEIONIZING with deionization count 0 (R128). -/
def enterDeionizing (s : State) : State :=
  let t := enter .deionizing none s
  { t with seq := { t.seq with deionCount := 0 } }

/-- RAMPING with the ramp value at the retard angle (R126, R129). -/
def enterRamping (s : State) : State :=
  let t := enter .ramping none s
  { t with seq := { t.seq with ramp := t.settings.retardAngle } }

/-- The exit target of RETARDED or BYPASSING is made at least `x`; only a stronger one replaces it (R120). -/
def strengthen (x : ExitTarget) (s : State) : State :=
  match s.seq.exitTarget with
  | some y =>
    if exitRank y < exitRank x then setNotice .converter { s with seq := { s.seq with exitTarget := some x } }
    else s
  | none => s

/-- The converter takes its exit target (R126, R128, R131). -/
def takeExit (s : State) : State :=
  match s.seq.exitTarget with
  | some .deionizing => enterDeionizing s
  | some .blocked => enter .blocked none s
  | some .tripped => enter .tripped none s
  | none => s

/-! ### Trips (R133, R134) -/

/-- The trip is latched: cause and TRIP notice when the latch was clear (R133). -/
def latchTrip (cause : TripCause) (s : State) : State :=
  if s.seq.tripLatch then s
  else setNotice .trip { s with seq := { s.seq with tripLatch := true, tripCause := some cause } }

/-- A stop of a RAMPING or RUNNING converter toward an exit target, by the live role (R130, R133). -/
def stopByRole (x : ExitTarget) (s : State) : State :=
  match s.livePage.role with
  | .rectifier => enterRetarded x s
  | .inverter => enterBypassing x s

/-- A trip cause reaches the sequencer (R133). -/
def raiseTrip (cause : TripCause) (s : State) : State :=
  match s.seq.conv with
  | .ramping | .running => stopByRole .tripped (latchTrip cause s)
  | .retarded | .bypassing => strengthen .tripped (latchTrip cause s)
  | .deionizing => enter .tripped none (latchTrip cause s)
  | .pending => enter .blocked none s
  | .blocked | .tripped => s

/-- The origin of an unfit entry (R29). -/
inductive UnfitOrigin where
  | evidence | change
  deriving DecidableEq, Repr

/-- An unfit entry that found the converter RAMPING or RUNNING is marked: a cycle start that reaches the sequencer
together with it is not counted (R134, log entry 32). -/
def markTrip (before : Conv) (s : State) : State :=
  match before with
  | .ramping | .running => { s with seq := { s.seq with freshTrip := true } }
  | _ => s

/-- A valve enters UNFIT (R29, R127, R133, R134): by evidence it is the trip cause VALVE UNFIT; by a change it stops a
PENDING converter and nothing else. -/
def unfitEntry (v : Valve) (origin : UnfitOrigin) (s : State) : State :=
  match origin with
  | .evidence => markTrip s.seq.conv (raiseTrip (.valveUnfit v) s)
  | .change => if s.seq.conv = .pending then enter .blocked none s else s

/-- A commutation-failure event (R132). -/
def commutationFailure (v : Valve) (s : State) : State :=
  match s.seq.conv with
  | .ramping | .running =>
    { s with seq := { s.seq with cfHold := s.settings.cfHold, cfMark := true, lastFailure := some v } }
  | _ => s

/-! ### Work at a cycle start (R125, R126, R129) -/

/-- The commutation-failure hold and run at a cycle start (R125, steps 1 and 2). -/
def countFailures (q : Sequencer) : Sequencer :=
  { q with cfHold := q.cfHold - 1, cfRun := if q.cfMark then saturate 15 q.cfRun else 0, cfMark := false }

/-- The valve of the COMMUTATION trip that a cycle start raises now: the run has reached its limit (R125, step 3).
-/
def commutationTripValve (s : State) : Option Valve :=
  if s.settings.cfLimit ≤ (countFailures s.seq).cfRun then s.seq.lastFailure else none

/-- The ramp value moved toward the live alpha by the ramp rate (R125). -/
def rampToward (ramp alpha rate : Nat) : Nat :=
  if ramp < alpha then min (ramp + rate) alpha else max (ramp - rate) alpha

/-- RAMPING at a cycle start (R125). -/
def rampStep (s : State) : State :=
  let r := rampToward s.seq.ramp s.livePage.alpha s.settings.rampRate
  let s1 := { s with seq := { s.seq with ramp := r } }
  if r = s.livePage.alpha then enter .running none s1 else s1

/-- RUNNING at a cycle start (R125): the recovery count stays at the setting once it has reached it. -/
def recoveryStep (s : State) : State :=
  if s.seq.recovery < s.settings.recoveryCycles then
    let n := s.seq.recovery + 1
    { s with seq := { s.seq with recovery := n,
                                 attempts := if n = s.settings.recoveryCycles then 0 else s.seq.attempts } }
  else s

/-- The end of deionization (R129). -/
def settleRestart (s : State) : State :=
  if s.settings.restartLimit < s.seq.attempts + 1 then setNotice .restarts (enter .blocked none s)
  else
    let s1 := { s with seq := { s.seq with attempts := s.seq.attempts + 1 } }
    if 0 < unfitCount s1 then enter .blocked none s1 else enterRamping s1

/-- DEIONIZING at a cycle start (R126). -/
def deionizationStep (s : State) : State :=
  let s1 := { s with seq := { s.seq with deionCount := s.seq.deionCount + 1 } }
  if s.settings.deionizationCycles ≤ s1.seq.deionCount then settleRestart s1 else s1

/-- RETARDED at a cycle start (R126, R128); one that comes together with the unfit entry is not counted (R134). -/
def retardStep (s : State) : State :=
  if s.seq.freshTrip then s else
  let s1 := { s with seq := { s.seq with retardCount := s.seq.retardCount + 1 } }
  if s.settings.retardCycles ≤ s1.seq.retardCount then takeExit s1 else s1

/-- BYPASSING at a cycle start (R126, R131); one that comes together with the unfit entry is not counted (R134). -/
def bypassStep (s : State) : State :=
  if s.seq.freshTrip then s else
  let s1 := { s with seq := { s.seq with bypassCount := s.seq.bypassCount + 1 } }
  if s.settings.bypassCycles ≤ s1.seq.bypassCount then takeExit s1 else s1

/-- PENDING at a cycle start (R126). -/
def startRamp (s : State) : State :=
  let t := enterRamping s
  { t with seq := { t.seq with attempts := 0 } }

/-- The commutation-failure work of R125, then the work of the state unless a trip came. -/
def afterFailures (work : State → State) (s : State) : State :=
  let s1 := { s with seq := countFailures s.seq }
  match commutationTripValve s with
  | some v => raiseTrip (.commutation v) s1
  | none => work s1

/-- The sequencer's work at a cycle start (R125, R126). -/
def sequencerCycleWork (s : State) : State :=
  match s.seq.conv with
  | .pending => startRamp s
  | .ramping => afterFailures rampStep s
  | .running => afterFailures recoveryStep s
  | .retarded => retardStep s
  | .deionizing => deionizationStep s
  | .bypassing => bypassStep s
  | .blocked | .tripped => s

/-! ### Firing windows (R121 to R124) -/

/-- The effective base angle (R121); none outside RAMPING, RUNNING and RETARDED. -/
def effectiveBase (s : State) : Option Nat :=
  match s.seq.conv with
  | .ramping => some s.seq.ramp
  | .running =>
    if s.seq.cfHold = 0 then some s.livePage.alpha
    else some (max (s.livePage.alpha - s.settings.cfAdvance) s.settings.alphaMin)
  | .retarded => some s.settings.retardAngle
  | _ => none

/-- The target of a valve: base plus trim, limited to 0 to 1790 (R121). -/
def target (base : Nat) (trim : Int) : Nat := min ((base : Int) + trim).toNat 1790

/-- The natural position of a valve (Conventions). -/
def naturalPosition (v : Valve) : Nat := v.val * 300

/-- The elapsed value of a window (R122). -/
def elapsed (v : Valve) (phase : Nat) : Nat := (phase + 3600 - naturalPosition v) % 3600

/-- The pair valve: v - 2, with valve 1 paired to 11 and valve 2 to 12 (R123). -/
def pairValve (v : Valve) : Valve := v + 10

/-- The armed point of a firing at a phase value (R75). -/
def armedPoint (phase : Nat) : Nat := (phase + 1800) % 3600

/-- A valve fires from its window (R123): its own burst, the pair burst, the armed point. -/
def fireValve (v : Valve) (s : State) : State :=
  let s1 := burstRequest v s
  let s2 := if s1.livePage.pairs[v] then burstRequest (pairValve v) s1 else s1
  { s2 with sources := { s2.sources with armed := put s2.sources.armed v (some (armedPoint s2.phase.phase)) } }

def setWindow (v : Valve) (w : WindowState) (s : State) : State :=
  { s with seq := { s.seq with windows := put s.seq.windows v w } }

/-- An open window is judged: at its target the valve fires (R122). -/
def judgeOpen (v : Valve) (base : Nat) (s : State) : State :=
  if target base s.livePage.trims[v] ≤ elapsed v s.phase.phase then setWindow v .fired (fireValve v s)
  else setWindow v .opened s

/-- One window at a step event that passes the values `passed` (R122). -/
def judgeWindow (passed : List Nat) (base : Nat) (s : State) (v : Valve) : State :=
  match s.seq.windows[v] with
  | .closed => if naturalPosition v ∈ passed then judgeOpen v base s else s
  | .opened => judgeOpen v base s
  | .fired => if 1800 ≤ elapsed v s.phase.phase then setWindow v .closed s else s

/-- The twelve windows at a step event; none is open outside RAMPING, RUNNING and RETARDED (R122). -/
def judgeWindows (passed : List Nat) (s : State) : State :=
  match effectiveBase s with
  | some base => allValves.foldl (judgeWindow passed base) s
  | none => s

/-! ### Bypass occasions (R131, R147) -/

/-- The four bypass valves of a leg: 2k - 1, 2k + 5, 2k, 2k + 6 for leg k (R131). -/
def bypassValves (leg : Fin 3) : List Valve :=
  match leg with
  | 0 => [0, 6, 1, 7]
  | 1 => [2, 8, 3, 9]
  | 2 => [4, 10, 5, 11]

/-- The bypass spacing after a step event that passes `n` values, and whether the event is an occasion (R131). -/
def bypassAdvance (q : Sequencer) (n : Nat) : Nat × Bool :=
  if q.bypassEntry then (0, true)
  else if 300 ≤ q.bypassSpacing + n then (q.bypassSpacing + n - 300, true)
  else (q.bypassSpacing + n, false)

/-- A step event in BYPASSING: at an occasion one burst request to each bypass valve of the live leg (R131). -/
def bypassEvent (n : Nat) (s : State) : State :=
  let a := bypassAdvance s.seq n
  let s1 := { s with seq := { s.seq with bypassSpacing := a.1, bypassEntry := false } }
  if a.2 then (bypassValves s.livePage.leg).foldl (fun t v => burstRequest v t) s1 else s1

/-! ### Stops (R136, R137) -/

/-- A stop that skips retard and bypass (R136, R137): TRIPPED if the trip latch is set, BLOCKED otherwise;
windows closed, lanes cut. A BLOCKED or TRIPPED converter stays as it is. -/
def stopAtOnce (s : State) : State :=
  if isStopped s.seq.conv then s
  else cutLanes (enter (if s.seq.tripLatch then .tripped else .blocked) none s)

/-- A lock state change reaches the sequencer (R137). -/
def sequencerLockChange (new : Lock) (s : State) : State :=
  match new with
  | .lost => stopAtOnce s
  | .disturbed | .holding => if s.seq.conv = .pending then enter .blocked none s else s
  | _ => s

end Sys2Proof.Machine
end

