-- ==== Sys2Proof/Machine/Table.lean ====
section
/-! DEFINITION. Claims on Level Records and the tally that follows them (R3 to R15, R24 to R34). -/

namespace Sys2Proof.Machine

/-! ### Tally (R24 to R32) -/

def lifeIndex : Life → Fin 7
  | .empty => 0
  | .proving => 1
  | .serving => 2
  | .suspect => 3
  | .shorted => 4
  | .dark => 5
  | .retired => 6

/-- The bank of a position (R24). -/
def bankOf (p : Position) : Bank := ⟨p.val / 24, by omega⟩

/-- Spread of a bank composition (R31): the on-times of the active banks and 1 µs between each two. -/
def spreadOf (emitting long : Vector Nat 4) (standardOn longOn : Nat) : Nat :=
  let active := allBanks.filter fun b => decide (0 < emitting[b])
  (active.map fun b => if 0 < long[b] then longOn else standardOn).sum + (active.length - 1)

/-- Grade of a valve (R27). -/
def gradeOf (sound failed minimum reserve : Nat) : Grade :=
  if sound < minimum then .unfit
  else if sound < minimum + reserve then .marginal
  else if 0 < failed then .reduced
  else .full

/-- A count moved from one index to another: the old falls by one, the new rises by one (R25). -/
def moveCount (counts : Vector Nat 7) (old new : Life) : Vector Nat 7 :=
  let fallen := put counts (lifeIndex old) (counts[lifeIndex old] - 1)
  put fallen (lifeIndex new) (fallen[lifeIndex new] + 1)

/-- A bank count less one if the record counted before, plus one if it counts after (R25, R26). -/
def recount (counts : Vector Nat 4) (b : Bank) (before after : Bool) : Vector Nat 4 :=
  put counts b (counts[b] - (if before then 1 else 0) + (if after then 1 else 0))

def countsEmitting (r : LevelRecord) : Bool := isEmitting r.life
def countsLong (r : LevelRecord) : Bool := isEmitting r.life && decide (r.emitClass = .long)

/-- The tally with spread and grade worked out again (R25 steps 2, 5 and 6; R31, R27). -/
def Tally.refresh (t : Tally) (v : Valve) (settings : Settings) : Tally :=
  let sound := t.counts[lifeIndex .serving] + t.counts[lifeIndex .suspect]
  let failed := t.counts[lifeIndex .shorted] + t.counts[lifeIndex .dark]
  { t with sound := sound, failed := failed,
           spread := spreadOf t.bankEmitting t.bankLong settings.standardOnTime settings.longOnTime,
           grade := gradeOf sound failed settings.minimumSound[v] settings.reserve[v] }

/-- The tally of a valve after its record at a position goes from `old` to `new` (R25, R26). -/
def Tally.after (t : Tally) (v : Valve) (p : Position) (old new : LevelRecord) (settings : Settings) : Tally :=
  Tally.refresh
    { t with counts := moveCount t.counts old.life new.life,
             bankEmitting := recount t.bankEmitting (bankOf p) (countsEmitting old) (countsEmitting new),
             bankLong := recount t.bankLong (bankOf p) (countsLong old) (countsLong new),
             top := if new.life = .empty then t.top else max t.top (positionNumber p) }
    v settings

/-- A claim gives the tally of a valve a new value: GRADE when the grade changed, and an unfit entry when the
valve entered UNFIT (R28, R29). -/
def commitTally (v : Valve) (t : Tally) (origin : UnfitOrigin) (s : State) : State :=
  let before := (s.tally v).grade
  let s1 := s.setTally v t
  if t.grade = before then s1
  else
    let s2 := setNotice .grade s1
    if t.grade = .unfit then unfitEntry v origin s2 else s2

/-! ### Claims that change a record (R4, R15) -/

/-- Whether a claim changes the life state, the emit class or the unit tag (R4). -/
def recordMoves (old new : LevelRecord) : Bool :=
  decide (old.life ≠ new.life) || decide (old.emitClass ≠ new.emitClass) || decide (old.unitTag ≠ new.unitTag)

/-- A claim makes `new` of a record (its revision still the old one): with a change of life state, class or tag
the revision advances, LEVEL is set and the tally follows, all in the claim (R4, R15, R25, R26). -/
def commitRecord (v : Valve) (p : Position) (new : LevelRecord) (origin : UnfitOrigin) (s : State) : State :=
  let old := s.record v p
  if recordMoves old new then
    let s1 := setNotice .level (s.setRecord v p { new with revision := old.revision + 1 })
    commitTally v ((s.tally v).after v p old new s.settings) origin s1
  else s.setRecord v p new

/-- The evidence cleared (R3). -/
def clearEvidence (r : LevelRecord) : LevelRecord :=
  { r with missRun := 0, pfRun := 0, pfTotal := 0, progress := 0, window := [], mean := none, lastCycle := none }

/-- The new class and tag an AMEND carries (R8); a tag change of 0 is a removal (R168). -/
def amendFields (cls : Option EmitClass) (tagChange : Option Word24) (r : LevelRecord) : LevelRecord :=
  { r with emitClass := cls.getD r.emitClass,
           unitTag := match tagChange with
             | none => r.unitTag
             | some t => if t = 0 then none else some t }

/-- ADMIT (R7). -/
def admitted (cls : Option EmitClass) (tag : Option Word24) (r : LevelRecord) : LevelRecord :=
  { clearEvidence r with life := .proving, cause := none, retireReason := none,
                         emitClass := cls.getD .standard, unitTag := tag }

/-- AMEND with CLEAR (R9). -/
def cleared (r : LevelRecord) : LevelRecord := { r with life := .serving, cause := none, progress := 0 }

/-- AMEND with REPROVE (R10). -/
def reproved (r : LevelRecord) : LevelRecord := { clearEvidence r with life := .proving, cause := none }

/-- RETIRE (R11). -/
def retired (why : RetireReason) (r : LevelRecord) : LevelRecord :=
  { r with life := .retired, retireReason := some why, progress := 0 }

/-- An answer that carries the record's revision (R156). -/
def withRevision (code : AnswerCode) (r : LevelRecord) : Reply :=
  { code := code, reason := none, payload := bytes16 r.revision }

/-- What a record-change request asks of the record as the claim finds it. -/
structure Change where
  /-- The life state admits the request (R7 to R11). -/
  admits      : LevelRecord → Bool
  /-- The record after the change. -/
  result      : LevelRecord → LevelRecord
  /-- The change is subject to MARGIN (R13). -/
  leavesSound : LevelRecord → Bool
  /-- The change is subject to SPREAD (R14). -/
  spreads     : LevelRecord → Bool

/-- The record's life state admits AMEND and RETIRE (R8, R11). -/
def inService (r : LevelRecord) : Bool := decide (r.life ≠ .empty) && decide (r.life ≠ .retired)

/-- The change of class of an emitting record (R14). -/
def changesEmittingClass (cls : Option EmitClass) (r : LevelRecord) : Bool :=
  isEmitting r.life && decide (cls.getD r.emitClass ≠ r.emitClass)

def admitChange (cls : Option EmitClass) (tag : Option Word24) : Change :=
  { admits := fun r => !inService r, result := admitted cls tag, leavesSound := fun _ => false,
    spreads := fun _ => true }

def amendChange (cls : Option EmitClass) (tagChange : Option Word24) : Change :=
  { admits := inService, result := amendFields cls tagChange, leavesSound := fun _ => false,
    spreads := changesEmittingClass cls }

def clearChange (cls : Option EmitClass) (tagChange : Option Word24) : Change :=
  { admits := fun r => decide (r.life = .suspect), result := fun r => cleared (amendFields cls tagChange r),
    leavesSound := fun _ => false, spreads := changesEmittingClass cls }

/-- SHORTED or DARK (R10). -/
def isFailed : Life → Bool
  | .shorted | .dark => true
  | _ => false

def reproveChange (cls : Option EmitClass) (tagChange : Option Word24) : Change :=
  { admits := fun r => decide (r.life = .suspect) || isFailed r.life,
    result := fun r => reproved (amendFields cls tagChange r),
    leavesSound := fun r => decide (r.life = .suspect),
    spreads := fun r => isFailed r.life || changesEmittingClass cls r }

def retireChange (why : RetireReason) : Change :=
  { admits := inService, result := retired why, leavesSound := fun r => isSound r.life,
    spreads := fun _ => false }

/-- The change would leave the valve below its minimum sound while MARGIN is checked (R13, R34). -/
def belowMargin (v : Valve) (s : State) : Bool :=
  checksMargin s.seq.conv && decide ((s.tally v).sound - 1 < s.settings.minimumSound[v])

/-- The change would make the valve's spread greater than the spread limit (R14, R32). -/
def aboveSpread (v : Valve) (p : Position) (new : LevelRecord) (s : State) : Bool :=
  decide (s.settings.spreadLimit < ((s.tally v).after v p (s.record v p) new s.settings).spread)

/-- The claim of a record-change request, with the checks of R12 in their order. -/
def changeClaim (v : Valve) (p : Position) (expected : Option Word16) (k : Change) (s : State) :
    State × Option Reply :=
  let r := s.record v p
  if expected.any fun e => decide (e ≠ r.revision) then (s, some (withRevision .stale r))
  else if !k.admits r then (s, some (withRevision .wrongState r))
  else if k.leavesSound r && belowMargin v s then (s, some (withRevision .margin r))
  else if k.spreads r && aboveSpread v p (k.result r) s then (s, some (withRevision .spread r))
  else
    let s1 := commitRecord v p (k.result r) .change s
    (s1, some (withRevision .done (s1.record v p)))

/-- A record-change request with its key: BAD KEY outside the table makes no claim (R1). -/
def keyedChange (valve position : Byte) (expected : Option Word16) (k : Change) (s : State) :
    State × Option Reply :=
  match valveOf? valve, positionOf? position.toNat with
  | some v, some p => changeClaim v p expected k s
  | _, _ => (s, some (plain .badKey))

end Sys2Proof.Machine
end

