-- ==== Sys2Proof/Machine/Evidence.lean ====
section
/-! DEFINITION. The Evidence Unit: what a result does to a record (R37 to R53). -/

namespace Sys2Proof.Machine

/-- The deep outcome of a result word (R37). -/
inductive DeepOutcome where
  | notRun | pass | fail
  deriving DecidableEq, Repr

/-- The deep outcome of its field; 3 is undefined (R170). -/
def deepOutcome? (field : Nat) : Option DeepOutcome :=
  match field with
  | 0 => some .notRun
  | 1 => some .pass
  | 2 => some .fail
  | _ => none

/-- A result as the Monitoring Link Engine hands it over (R37). -/
structure Result where
  valve      : Valve
  position   : Position
  kind       : PollKind
  present    : Bool
  protective : Bool
  deep       : DeepOutcome
  delay      : Byte
  deriving DecidableEq, Repr

/-- Missing indication (R40, R41). -/
def missingIndication (settings : Settings) (r : LevelRecord) : LevelRecord :=
  let r1 := { r with missRun := saturate 15 r.missRun, progress := 0 }
  if settings.missLimit ≤ r1.missRun then { r1 with life := .shorted, cause := some .noIndication } else r1

/-- Protective firing (R42 to R44). -/
def protectiveFiring (settings : Settings) (r : LevelRecord) : LevelRecord :=
  let r1 := { r with missRun := 0, pfTotal := saturate 255 r.pfTotal, pfRun := saturate 15 r.pfRun, progress := 0 }
  if settings.darkLimit ≤ r1.pfRun then { r1 with life := .dark, cause := some .lightPath }
  else match r.life with
    | .serving | .suspect => { r1 with life := .suspect, cause := some .protectiveFiring }
    | _ => r1

/-- The mean of the delay window that a sample closes, if it is the fourth (R47). -/
def closedMean (window : List Byte) (delay : Byte) : Option Byte :=
  let full := window ++ [delay]
  if 4 ≤ full.length then some (byte ((full.map BitVec.toNat).sum / 4)) else none

/-- A clean result's miss run, protective-firing run and window (R46, R47). -/
def cleanFields (delay : Byte) (r : LevelRecord) : LevelRecord :=
  let r1 := { r with missRun := 0, pfRun := 0 }
  match closedMean r.window delay with
  | some m => { r1 with window := [], mean := some m }
  | none => { r1 with window := r.window ++ [delay] }

/-- The fault of a clean result with its cause (R48). -/
def cleanFault (settings : Settings) (deep : DeepOutcome) (closed : Option Byte) : Option Cause :=
  if deep = .fail then some .deepTest
  else match closed with
    | some m =>
      if m.toNat < settings.windowLow then some .meanLow
      else if settings.windowHigh < m.toNat then some .meanHigh
      else none
    | none => none

/-- The verdict of a clean result by life state (R49 to R51); `closed` says that the result closed the window. -/
def cleanVerdict (settings : Settings) (fault : Option Cause) (closed : Bool) (r : LevelRecord) : LevelRecord :=
  match r.life, fault with
  | .proving, some _ => { r with progress := 0 }
  | .proving, none =>
    if settings.provingCount ≤ r.progress + 1 then { r with life := .serving, progress := 0 }
    else { r with progress := r.progress + 1 }
  | .serving, some why => { r with life := .suspect, cause := some why, progress := 0 }
  | .suspect, some why => { r with cause := some why, progress := 0 }
  | .suspect, none =>
    if closed then
      if settings.clearCount ≤ r.progress + 1 then { r with life := .serving, cause := none, progress := 0 }
      else { r with progress := r.progress + 1 }
    else r
  | _, _ => r

/-- A clean result (R46 to R51). -/
def cleanResult (settings : Settings) (deep : DeepOutcome) (delay : Byte) (r : LevelRecord) : LevelRecord :=
  let closed := closedMean r.window delay
  cleanVerdict settings (cleanFault settings deep closed) closed.isSome (cleanFields delay r)

/-- The record after an applied result, but for its revision (R39, R52 step 1). -/
def resultRecord (res : Result) (settings : Settings) (cycle : Word16) (r : LevelRecord) : LevelRecord :=
  let r1 :=
    if !res.present then missingIndication settings r
    else if res.protective then protectiveFiring settings r
    else cleanResult settings res.deep res.delay r
  { r1 with lastCycle := some cycle }

/-- The result makes an offer to the directed queue (R45). -/
def offers (res : Result) : Bool := res.present && res.protective && decide (res.kind = .cycle)

/-- The Evidence Unit's claim (R38, R52): a result for a record that is not monitored is ignored. -/
def applyResult (res : Result) (s : State) : State :=
  let r := s.record res.valve res.position
  if isMonitored r.life then
    let s1 := commitRecord res.valve res.position (resultRecord res s.settings s.phase.cycle r) .evidence s
    if offers res then offerCheck res.valve res.position s1 else s1
  else s

end Sys2Proof.Machine
end

