-- ==== Sys2Proof/Machine/Link.lean ====
section
/-! DEFINITION. The Monitoring Link Engine and the Link Arbiter (R56 to R72, R76, R78, R84, R85). -/

namespace Sys2Proof.Machine

/-! ### Times, in base ticks (log entry 19) -/

/-- A 20-bit frame at 10 Mbit/s, 2 µs (R56). -/
def linkFrameTicks : Nat := 80

/-- The header pair and the reply timeout of 40 µs after it (R58). -/
def headerTicks : Nat := 2 * linkFrameTicks + 40 * ticksPerMicrosecond

/-- The expectation word and the word timeout of 8 µs after it (R60). -/
def exchangeTicks : Nat := linkFrameTicks + 8 * ticksPerMicrosecond

/-- The word interval of a code (R63). -/
def intervalTicks (code : Nat) : Nat :=
  match code with
  | 0 => 0
  | 1 => 20
  | 2 => 40
  | 3 => 80
  | 4 => 160
  | 5 => 320
  | 6 => 640
  | _ => 1280

/-! ### Counts (R57) -/

/-- A mismatch: count and LINK (R56, R59, R62, R170). -/
def countMismatch (s : State) : State :=
  setNotice .link { s with link := { s.link with mismatches := saturate 255 s.link.mismatches } }

/-- A word that arrives unawaited (R67). -/
def overrun (s : State) : State :=
  setNotice .link { s with link := { s.link with overruns := saturate 255 s.link.overruns } }

/-! ### Polls -/

/-- The engine sends the header pair of a poll and enters HEADER (R58, R71). It is in HEADER from the start of the
sending, since R57 names no sending state, though R58 enters HEADER with the second word sent: a reply header that arrives
while the pair is still being sent is judged as in HEADER. DESIGN CHOICE, unsafe, log entry 33. -/
def openTelegram (p : Poll) (s : State) : State :=
  { s with link := { s.link with
      state := .header, poll := some p, timer := some headerTicks,
      sent := [linkFrame true (firstHeaderWord p.kind p.valve),
               linkFrame false (secondHeaderWord p.first (p.last - p.first + 1))] } }

/-- The arbiter hands a poll to the engine (R58). -/
def startPoll (source : PollSource) (kind : PollKind) (v : Valve) (first last : Nat) (s : State) : State :=
  openTelegram { source := source, kind := kind, valve := v, first := first, last := last, next := first,
                 superseded := false } s

/-- The life state that the skip flag of an expectation word reads (R60). -/
def skipsPosition (v : Valve) (position : Nat) (s : State) : Bool :=
  match positionOf? position with
  | some p => !isMonitored (s.record v p).life
  | none => true

/-- The engine sends the expectation word of the next position and enters EXCHANGE (R60). It is in EXCHANGE from the
start of the sending: a result word that arrives while the word is still being sent is judged as in EXCHANGE. DESIGN
CHOICE, unsafe, log entry 33. -/
def sendExpectation (s : State) : State :=
  match s.link.poll with
  | some p =>
    { s with link := { s.link with
        state := .exchange, timer := some exchangeTicks,
        sent := [linkFrame false (expectationWord p.next (skipsPosition p.valve p.next s))] } }
  | none => s

/-- Toward the next expectation word: INTERVAL for the word interval, or the word at once with code 0 (R63). -/
def enterInterval (s : State) : State :=
  if intervalTicks s.settings.wordIntervalCode = 0 then sendExpectation s
  else { s with link := { s.link with state := .interval,
                                      timer := some (intervalTicks s.settings.wordIntervalCode) } }

/-- The engine becomes HELD, keeping a poll or none (R57, R69). -/
def becomeHeld (kept : Option Poll) (s : State) : State :=
  { s with link := { s.link with state := .held, poll := kept, holdPending := none, cutPending := false,
                                 timer := none } }

/-- The engine becomes IDLE with no poll (R57). -/
def becomeIdle (s : State) : State :=
  { s with link := { s.link with state := .idle, poll := none, holdPending := none, cutPending := false,
                                 timer := none } }

/-- The engine after a word or the end of a poll: HELD with what is kept, the pending HOLD LINK answered DONE, when
a hold is pending; `go` otherwise (R61, R64, R65, R68, R69). -/
def holdOr (kept : Option Poll) (go : State → State) (s : State) : State :=
  match s.link.holdPending with
  | some q => placeAnswer q (plain .done) (becomeHeld kept s)
  | none => go s

/-- The poll completes (R64). -/
def completePoll (p : Poll) (s : State) : State :=
  let s1 := tellEnded p s
  let s2 := { s1 with link := { s1.link with failures := 0, down := false } }
  holdOr none becomeIdle (if s.link.down then setNotice .link s2 else s2)

/-- The poll is aborted (R65, R66). -/
def abortPoll (p : Poll) (s : State) : State :=
  let n := saturate 255 s.link.failures
  let s1 := { s with link := { s.link with timeouts := saturate 255 s.link.timeouts, failures := n,
                                           down := s.link.down || decide (n = 8) } }
  holdOr none becomeIdle (tellEnded p (if n = 8 then setNotice .link s1 else s1))

/-- The sweep poll is cut (R68). -/
def cutPoll (p : Poll) (s : State) : State := holdOr none becomeIdle (tellCut p s)

/-- The engine goes on after the word of a position, steps 1 to 4 (R61). -/
def goOn (p : Poll) (s : State) : State :=
  if p.last < p.next then completePoll p s
  else if s.link.cutPending then cutPoll p s
  else holdOr (some p) enterInterval s

/-! ### Words that arrive -/

/-- The cycle source takes the BLOCKING flag of a cycle poll (R78). -/
def takeBlocking (v : Valve) (blocking : Bool) (s : State) : State :=
  if !blocking && (decide (s.seq.conv = .running) || decide (s.seq.conv = .ramping))
      && decide (s.livePage.role = .inverter) then commutationFailure v s
  else s

/-- The BLOCKING flag of an accepted reply header is handed to the poll's source; only the cycle source acts on it
(R59, R78). -/
def handBlocking (p : Poll) (blocking : Bool) (s : State) : State :=
  match p.source with
  | .cycle => takeBlocking p.valve blocking s
  | .directed | .sweep => s

/-- The VMU fault flag of a valve takes its new value; LINK when it goes from clear to set (R59). -/
def setVmuFault (v : Valve) (fault : Bool) (s : State) : State :=
  let s1 := { s with link := { s.link with vmuFault := put s.link.vmuFault v fault } }
  if fault && !s.link.vmuFault[v] then setNotice .link s1 else s1

/-- An accepted reply header (R59, R68). -/
def acceptHeader (p : Poll) (w : Word16) (s : State) : State :=
  let s1 := setVmuFault p.valve (replyFault w) (handBlocking p (replyBlocking w) s)
  if s1.link.cutPending then cutPoll p s1 else enterInterval s1

/-- A word of type reply header arrives (R59, R67). -/
def replyHeader (w : Word16) (s : State) : State :=
  match s.link.state, s.link.poll with
  | .header, some p => if replyValve w = valveNumber p.valve then acceptHeader p w s else countMismatch s
  | _, _ => overrun s

/-- The result that a result word brings for the next position of a poll: none when its position check differs or
its deep outcome is undefined (R61, R62, R170). -/
def resultOf (p : Poll) (w : Word16) : Option Result :=
  match positionOf? p.next, deepOutcome? (resultDeep w) with
  | some pos, some deep =>
    if resultCheck w = p.next % 16 then
      some { valve := p.valve, position := pos, kind := p.kind, present := resultPresent w,
             protective := resultProtective w, deep := deep, delay := resultDelay w }
    else none
  | _, _ => none

/-- The position is processed: the next position rises by one (R61, R62). -/
def processed (p : Poll) : Poll := { p with next := p.next + 1 }

/-- A word of type result word arrives (R61, R62, R67, R170). -/
def resultWord (w : Word16) (s : State) : State :=
  match s.link.state, s.link.poll with
  | .exchange, some p =>
    let s1 := match resultOf p w with
      | some res => applyResult res s
      | none => countMismatch s
    goOn (processed p) { s1 with link := { s1.link with poll := some (processed p) } }
  | _, _ => overrun s

/-- A frame arrives on MON_RX: one that fails its start, stop or parity check is a mismatch (R56); the type mark of any
other tells whether its word is a reply header or a result word (R170). -/
def receive (f : BitVec 20) (s : State) : State :=
  if isReplyHeader f then replyHeader (frameWord f) s
  else if isResultWord f then resultWord (frameWord f) s
  else countMismatch s

/-! ### Timers that end -/

/-- The word interval ends (R63). -/
def wordIntervalEnd (s : State) : State :=
  match s.link.state with
  | .interval => sendExpectation s
  | _ => s

/-- The timeout of an awaited word expires (R65). -/
def awaitedTimeout (awaiting : LinkState) (s : State) : State :=
  match s.link.poll with
  | some p => if s.link.state = awaiting then abortPoll p s else s
  | none => s

/-! ### Cuts and cycle requests (R68, R76, R85) -/

/-- The conditions for a cut request, the engine's state apart (R85). -/
def wantsCut (s : State) : Bool :=
  s.settings.preEmption && decide (s.settings.sweepPriority < s.settings.cyclePriority) && !s.link.cutPending

/-- The arbiter asks for a cut of the current sweep poll (R68, R85). -/
def requestCut (s : State) : State :=
  match s.link.poll with
  | some p =>
    if wantsCut s && decide (p.source = .sweep) then
      match s.link.state with
      | .header | .exchange => { s with link := { s.link with cutPending := true } }
      | .interval => cutPoll p s
      | .held => becomeHeld none (tellCut p s)
      | .idle => s
    else s
  | none => s

/-- A held cycle poll of the valve is marked superseded (R70, R76). -/
def supersede (v : Valve) (s : State) : State :=
  match s.link.state, s.link.poll with
  | .held, some p =>
    if p.source = .cycle ∧ p.valve = v then
      { s with link := { s.link with poll := some { p with superseded := true } } }
    else s
  | _, _ => s

/-- The valve joins the cycle queue, with its consequences for the link, or its skip count rises (R76, R77, R85). -/
def joinCycle (v : Valve) (s : State) : State :=
  if v ∈ s.sources.cycleQueue then
    { s with sources := { s.sources with skip := put s.sources.skip v (saturate 255 s.sources.skip[v]) } }
  else requestCut { s with sources := { s.sources with cycleQueue := s.sources.cycleQueue ++ [v] } }

/-- The check point of a valve (R76). -/
def checkPoint (v : Valve) (s : State) : State :=
  if chainRuns s.phase.lock && decide (0 < (s.tally v).top) then joinCycle v (supersede v s) else s

/-! ### Hold and release (R69 to R72) -/

/-- The claim of HOLD LINK (R69). -/
def holdClaim (q : Port) (s : State) : State × Option Reply :=
  match s.link.state, s.link.poll with
  | .held, _ => (s, some (plain .done))
  | .exchange, _ =>
    if s.link.holdPending.isSome then (s, some (plain .pending))
    else ({ s with link := { s.link with holdPending := some q } }, none)
  | .header, some p =>
    if s.link.cutPending then (becomeHeld none (tellCut p s), some (plain .done))
    else (becomeHeld (some p) s, some (plain .done))
  | _, kept => (becomeHeld kept s, some (plain .done))

/-- A held poll is resumed with a fresh header pair for what it has not processed (R71). -/
def resumed (p : Poll) : Poll := { p with first := p.next, superseded := false }

/-- The claim of RELEASE LINK (R71, R72). -/
def releaseClaim (s : State) : State × Option Reply :=
  match s.link.state with
  | .held =>
    match s.link.poll with
    | some p =>
      (if p.superseded then becomeIdle s else openTelegram (resumed p) s, some (plain .done))
    | none => (becomeIdle s, some (plain .done))
  | _ => (s, some (plain .wrongState))

/-! ### The arbiter (R84) -/

def sourcePriority (settings : Settings) : PollSource → Nat
  | .cycle => settings.cyclePriority
  | .directed => settings.directedPriority
  | .sweep => settings.sweepPriority

/-- Whether a source is pending (R84). -/
def sourcePending (s : State) : PollSource → Bool
  | .cycle => !s.sources.cycleQueue.isEmpty
  | .directed => s.sources.directed.head?.any fun e => !e.inProgress
  | .sweep => s.sources.remainder.isSome || s.sources.sweepRequest.isSome

/-- The better of two sources: the second only when its priority is higher (R84). -/
def prefer (settings : Settings) (best : Option PollSource) (x : PollSource) : Option PollSource :=
  match best with
  | some b => if sourcePriority settings b < sourcePriority settings x then some x else some b
  | none => some x

/-- The source that the arbiter chooses: highest priority, then cycle before directed before sweep (R84). -/
def chosenSource (s : State) : Option PollSource :=
  ([.cycle, .directed, .sweep].filter (sourcePending s)).foldl (prefer s.settings) none

/-- The arbiter acts and finds a request (R84). -/
def arbiterDue (s : State) : Bool := decide (s.link.state = .idle) && (chosenSource s).isSome

def startCycle (s : State) : State :=
  match s.sources.cycleQueue with
  | v :: rest =>
    startPoll .cycle .cycle v 1 (s.tally v).top { s with sources := { s.sources with cycleQueue := rest } }
  | [] => s

def startDirected (s : State) : State :=
  match s.sources.directed with
  | e :: rest =>
    startPoll .directed .deep e.valve e.first (e.first + e.count - 1)
      { s with sources := { s.sources with directed := { e with inProgress := true } :: rest } }
  | [] => s

/-- A kept remainder is served before a pending request (R86). -/
def startSweep (s : State) : State :=
  match s.sources.remainder, s.sources.sweepRequest with
  | some (v, next), _ =>
    startPoll .sweep .deep v next (s.tally v).top
      { s with sources := { s.sources with remainder := none, sweepInProgress := true } }
  | none, some v =>
    startPoll .sweep .deep v 1 (s.tally v).top
      { s with sources := { s.sources with sweepRequest := none, sweepInProgress := true } }
  | none, none => s

/-- The arbiter starts the poll of the source it chooses; it acts in IDLE only (R84). -/
def arbiterStart (s : State) : State :=
  if s.link.state = .idle then
    match chosenSource s with
    | some .cycle => startCycle s
    | some .directed => startDirected s
    | some .sweep => startSweep s
    | none => s
  else s

end Sys2Proof.Machine
end

