-- ==== Sys2Proof/Machine/Schedule.lean ====
section
/-! DEFINITION. The Firing Schedule: ORDER, SWAP, pending swaps, clamping (R108 to R119). -/

namespace Sys2Proof.Machine

/-- The bypass leg that a byte names, 1 to 3 (R110). -/
def legOf? (b : Byte) : Option (Fin 3) :=
  if h : 1 ≤ b.toNat ∧ b.toNat ≤ 3 then some ⟨b.toNat - 1, by omega⟩ else none

/-- Alpha brought to the limits of the settings store (R108, R110). -/
def clampAlpha (settings : Settings) (alpha : Nat) : Nat := clampNat settings.alphaMin settings.alphaMax alpha

def setStagedPage (g : Page) (s : State) : State :=
  match s.schedule.live with
  | .a => { s with schedule := { s.schedule with pageB := g } }
  | .b => { s with schedule := { s.schedule with pageA := g } }

/-- Both pages' alpha clamped to the limits as they stand (R117, R119). -/
def clampPages (settings : Settings) (h : Schedule) : Schedule :=
  { h with pageA := { h.pageA with alpha := clampAlpha settings h.pageA.alpha },
           pageB := { h.pageB with alpha := clampAlpha settings h.pageB.alpha } }

/-! ### ORDER (R110, R111) -/

/-- A part of an ORDER outside its range: trim, leg, alpha, or a valve named twice. -/
def orderOutOfRange (o : OrderParts) : Bool :=
  (o.entries.any fun e => decide (e.trim.toInt < -20) || decide (20 < e.trim.toInt))
    || (o.leg.any fun k => (legOf? k).isNone)
    || (o.alpha.any fun a => decide (3599 < a.toNat))
    || !decide (o.entries.map OrderEntry.valve).Nodup

/-- The checks made before any claim (R110). -/
def orderFieldCheck (o : OrderParts) : Option AnswerCode :=
  if o.entries.any fun e => (valveOf? e.valve).isNone then some .badKey
  else if orderOutOfRange o then some .badValue
  else none

def writeEntry (g : Page) (e : OrderEntry) : Page :=
  match valveOf? e.valve with
  | some v => { g with trims := put g.trims v e.trim.toInt, pairs := put g.pairs v e.pair }
  | none => g

/-- Every carried part written into a page, which becomes valid (R110, step 3). -/
def writeOrder (settings : Settings) (o : OrderParts) (g : Page) : Page :=
  let g1 := { g with valid := true,
                     alpha := (o.alpha.map fun a => clampAlpha settings a.toNat).getD g.alpha,
                     role := o.role.getD g.role,
                     leg := (o.leg.bind legOf?).getD g.leg }
  o.entries.foldl writeEntry g1

/-- Whether the carried alpha lies outside the limits (R110). -/
def orderClamps (settings : Settings) (o : OrderParts) : Bool :=
  o.alpha.any fun a => decide (clampAlpha settings a.toNat ≠ a.toNat)

/-- The claim of ORDER (R110). -/
def orderClaim (o : OrderParts) (s : State) : State × Option Reply :=
  match orderFieldCheck o with
  | some code => (s, some (plain code))
  | none =>
    if s.schedule.swapPending.isSome then (s, some (plain .pending))
    else if (o.role.any fun r => decide (r ≠ s.livePage.role)) && !isStopped s.seq.conv then
      (s, some (plain .wrongState))
    else (setStagedPage (writeOrder s.settings o s.stagedPage) s,
          some (plain (if orderClamps s.settings o then .clamped else .done)))

/-! ### SWAP (R112 to R115) -/

/-- The live index flips and the new live page is copied into the new staged page (R114). -/
def swapPages (h : Schedule) : Schedule :=
  match h.live with
  | .a => { pageA := h.pageB, pageB := h.pageB, live := .b, swapPending := none }
  | .b => { pageA := h.pageA, pageB := h.pageA, live := .a, swapPending := none }

/-- A swap is made (R114), its answer apart. -/
def makeSwap (s : State) : State := setNotice .swap { s with schedule := swapPages s.schedule }

/-- The pending swap, if any, is made and answered on the port that sent it (R113, R114). -/
def makePendingSwap (s : State) : State :=
  match s.schedule.swapPending with
  | some p => placeAnswer p (plain .done) (makeSwap s)
  | none => s

/-- The claim of SWAP from a port (R112, R115). -/
def swapClaim (p : Port) (s : State) : State × Option Reply :=
  if s.schedule.swapPending.isSome then (s, some (plain .pending))
  else if !s.stagedPage.valid then (s, some (notReady .pageInvalid))
  else if decide (s.stagedPage.role ≠ s.livePage.role) && !isStopped s.seq.conv then
    (s, some (plain .wrongState))
  else if decide (s.stagedPage.role ≠ s.livePage.role) || !chainRuns s.phase.lock then
    (makeSwap s, some (plain .done))
  else ({ s with schedule := { s.schedule with swapPending := some p } }, none)

/-- A lock state change reaches the schedule: leaving the running states makes the pending swap (R115). -/
def scheduleLockChange (old new : Lock) (s : State) : State :=
  if chainRuns old && !chainRuns new then makePendingSwap s else s

end Sys2Proof.Machine
end

