-- ==== Sys2Proof/Machine/Phase.lean ====
section
/-! DEFINITION. The Phase Unit: crossings, periods, steering and lock states (R90 to R105). -/

namespace Sys2Proof.Machine

/-- The interval expires at this count (R90). -/
def intervalLimit : Nat := 940000

/-- The class of a crossing (R91). -/
inductive CrossingClass where
  | withoutPeriod
  | inRange (period : Nat)
  | outOfRange
  deriving DecidableEq, Repr

/-- The class by the mark and the interval count at the crossing (R91), which an expiry keeps at or below the limit
(R90). -/
def classOf (mark : IntervalMark) (count : Nat) : CrossingClass :=
  match mark with
  | .missed => .withoutPeriod
  | .crossing => if 560000 ≤ count ∧ count ≤ intervalLimit then .inRange count else .outOfRange

/-! ### Step section (R92) -/

/-- Step length and remainder of a period (R92). -/
def stepLength (period : Nat) : Nat := period / 3600
def stepRemainder (period : Nat) : Nat := period % 3600

/-- A step of a period starts: the accumulator rises by the remainder (R92). -/
def beginStep (period : Nat) (f : Phase) : Phase :=
  let sum := f.spreadAcc + stepRemainder period
  { f with tick := 0, longStep := decide (3600 ≤ sum), spreadAcc := if 3600 ≤ sum then sum - 3600 else sum }

/-- A period is loaded and its first step starts; a pending load is made by it (R92, R94). -/
def loadPeriod (period : Nat) (f : Phase) : Phase :=
  beginStep period { f with loaded := some period, pendingLoad := false, spreadAcc := 0, counting := true }

/-- The length of the present step in base ticks (R92). -/
def presentLength (f : Phase) : Option Nat :=
  f.loaded.map fun p => stepLength p + if f.longStep then 1 else 0

/-! ### Steering (R96, R97) -/

/-- A phase difference folded into -1800 to +1799 (R96). -/
def foldPhase (d : Int) : Int := (d + 1800) % 3600 - 1800

/-- The phase error (R96). -/
def phaseError (f : Phase) (offset : Nat) : Int := foldPhase ((f.phase : Int) - offset)

/-- The pending correction takes a value; at 0 the spacing count becomes 0 (R97). -/
def setCorrection (n : Int) (f : Phase) : Phase :=
  { f with correction := n, spacing := if n = 0 then 0 else f.spacing }

/-- The pending correction limited to -50 to +50 (R96). -/
def limitCorrection (n : Int) : Int := max (-50) (min 50 n)

/-- The error steers the chain unless it lies in the deadband (R96). -/
def steer (error : Int) (f : Phase) : Phase :=
  if 2 < error.natAbs then setCorrection (limitCorrection (f.correction - error)) f else f

/-- The disturbance threshold of a gear (R100). -/
def threshold (gear : Nat) : Nat :=
  match gear with
  | 0 => 20
  | 1 => 40
  | 2 => 80
  | _ => 160

/-- The relock limit of a gear (R100). -/
def relockLimit (gear : Nat) : Nat := threshold gear - 10

/-! ### Lock states (R99 to R104) -/

def setPhase (f : Phase) (s : State) : State := { s with phase := f }

/-- The cycle source takes a lock state change: a stopped chain clears the armed points (R75, R95). -/
def sourcesLockChange (new : Lock) (s : State) : State :=
  match new with
  | .unlocked | .lost => clearArmed s
  | _ => s

/-- A change of lock state: PHASE, and the change handed to sequencer, schedule and cycle source (R95, R104). -/
def changeLock (new : Lock) (s : State) : State :=
  let s1 := setNotice .phase { s with phase := { s.phase with lock := new } }
  sourcesLockChange new (scheduleLockChange s.phase.lock new (sequencerLockChange new s1))

/-- The Phase Unit's own items at a change to LOST (R103). -/
def lostItems (f : Phase) : Phase :=
  { setCorrection 0 f with good := 0, hold := 0, counting := false }

/-- The lock state becomes LOST (R103). -/
def becomeLost (s : State) : State := changeLock .lost { s with phase := lostItems s.phase }

/-- A crossing in UNLOCKED or LOST (R99). -/
def crossStopped (s : State) : State :=
  changeLock .acquiring
    { s with phase := { setCorrection 0 s.phase with good := 0, prevAccepted := none, counting := false } }

/-- The new period agrees with the previous accepted one (R99). -/
def agrees (previous : Option Nat) (period : Nat) : Bool :=
  previous.any fun q => decide (((period : Int) - q).natAbs ≤ q / 256)

/-- An in-range crossing in ACQUIRING, its change of lock state apart (R99). -/
def acquirePeriod (period offset : Nat) (f : Phase) : Phase :=
  let good := if agrees f.prevAccepted period then f.good + 1 else 0
  { loadPeriod period { f with saved := some period, phase := offset } with good := good, prevAccepted := some period }

/-- A crossing in ACQUIRING (R99). -/
def crossAcquiring (k : CrossingClass) (s : State) : State :=
  match k with
  | .inRange p =>
    let f := acquirePeriod p s.settings.referenceOffset s.phase
    if 4 ≤ f.good then changeLock .locked { s with phase := { f with good := 0 } } else { s with phase := f }
  | .withoutPeriod | .outOfRange => { s with phase := { s.phase with good := 0 } }

/-- A period is saved with a load pending, and the error steers the chain (R94, R96, R100). -/
def followReference (period : Nat) (error : Int) (f : Phase) : Phase :=
  steer error { f with saved := some period, pendingLoad := true }

/-- A crossing in LOCKED (R96, R100). -/
def crossLocked (k : CrossingClass) (s : State) : State :=
  let e := phaseError s.phase s.settings.referenceOffset
  let f : Phase := { s.phase with lastError := some e }
  match k with
  | .inRange p =>
    if e.natAbs ≤ threshold s.settings.disturbanceGear then { s with phase := followReference p e f }
    else changeLock .disturbed { s with phase := { f with good := 0 } }
  | .withoutPeriod | .outOfRange => changeLock .disturbed { s with phase := { f with good := 0 } }

/-- A crossing in DISTURBED (R96, R101). -/
def crossDisturbed (k : CrossingClass) (s : State) : State :=
  let e := phaseError s.phase s.settings.referenceOffset
  let f : Phase := { s.phase with lastError := some e }
  match k with
  | .inRange p =>
    if e.natAbs ≤ relockLimit s.settings.disturbanceGear then
      if 2 ≤ f.good + 1 then changeLock .locked { s with phase := followReference p e { f with good := 0 } }
      else { s with phase := { f with good := f.good + 1 } }
    else { s with phase := { f with good := 0 } }
  | .withoutPeriod | .outOfRange => { s with phase := { f with good := 0 } }

/-- A crossing in HOLDING: it measures no period, so it is judged in DISTURBED by leaving the good count at 0
(R102). -/
def crossHolding (s : State) : State :=
  changeLock .disturbed { s with phase := { s.phase with good := 0, hold := 0 } }

/-- A crossing at an interval count (R90 to R102). -/
def takeCrossing (count : Nat) (s : State) : State :=
  let k := classOf s.phase.mark count
  let s1 := { s with phase := { s.phase with interval := 0, mark := .crossing } }
  match s.phase.lock with
  | .unlocked | .lost => crossStopped s1
  | .acquiring => crossAcquiring k s1
  | .locked => crossLocked k s1
  | .disturbed => crossDisturbed k s1
  | .holding => crossHolding s1

/-- The next missed crossing makes LOST (R102). -/
def lossDue (s : State) : Bool :=
  decide (s.phase.lock = .holding) && decide (s.settings.holdLimit < s.phase.hold + 1)

/-- A missed crossing: the interval expires (R90, R99 to R103). -/
def missedCrossing (s : State) : State :=
  let s1 := { s with phase := { s.phase with interval := 0, mark := .missed } }
  match s.phase.lock with
  | .unlocked | .lost => s1
  | .acquiring => { s1 with phase := { s1.phase with good := 0 } }
  | .locked => changeLock .holding { s1 with phase := { s1.phase with hold := 1 } }
  | .disturbed => changeLock .holding { s1 with phase := { s1.phase with hold := 1, good := 0 } }
  | .holding =>
    let s2 := { s1 with phase := { s1.phase with hold := saturate 16 s1.phase.hold } }
    if s.settings.holdLimit < s.phase.hold + 1 then becomeLost s2 else s2

/-- The expiries before a crossing `since` base ticks from now. One at the crossing's own moment is not among them: R90
allows either order there, and the model takes the crossing first (DESIGN CHOICE, safe: a MISSED_CROSSING put before it
is the other order; log entry 5). -/
def expiriesBefore (since : Nat) (f : Phase) : Nat := (f.interval + since - 1) / intervalLimit

/-- The interval expires a number of times in a row, no crossing coming (R90). -/
def expireTimes : Nat → State → State
  | 0, s => s
  | n + 1, s => expireTimes n (missedCrossing s)

/-- A reference crossing `since` base ticks from now: the expiries before it, and the crossing at the count that is left
(R90). -/
def referenceCrossing (since : Nat) (s : State) : State :=
  let n := expiriesBefore since s.phase
  takeCrossing (s.phase.interval + since - n * intervalLimit) (expireTimes n s)

/-! ### Requests that reach the Phase Unit (R98, R105) -/

/-- The trim of one step, kept at its limit (R98). -/
def trimBy (step : Int) (s : State) : State × Option Reply :=
  let n := limitCorrection (s.phase.correction + step)
  if n = s.phase.correction then (s, some (plain .clamped))
  else ({ s with phase := setCorrection n s.phase }, some (plain .done))

/-- The claim of TRIM (R98); BAD VALUE, a field check, comes before WRONG STATE (log entry 15). -/
def trimClaim (insert suppress : Bool) (s : State) : State × Option Reply :=
  if !insert && !suppress then (s, some (plain .badValue))
  else if !chainRuns s.phase.lock then (s, some (plain .wrongState))
  else match insert, suppress with
    | true, false => trimBy 1 s
    | false, true => trimBy (-1) s
    | _, _ => (s, some (plain .done))

/-- The Phase Unit's own items at an accepted SET of the reference offset (R105). -/
def offsetItems (f : Phase) : Phase :=
  { setCorrection 0 f with good := 0, hold := 0, prevAccepted := none, pendingLoad := false }

/-- The consequence of an accepted SET of the reference offset (R105). -/
def offsetSet (s : State) : State :=
  if chainRuns s.phase.lock then changeLock .acquiring { s with phase := offsetItems s.phase } else s

end Sys2Proof.Machine
end

