-- ==== Sys2Proof/Machine/StepEvent.lean ====
section
/-! DEFINITION. The phase step event and the cycle start it may be (R75, R92 to R97, R122, R125, R126, R131), and
the conditions under which the next step event holds one of the cases that have rows of their own (log entry 4). -/

namespace Sys2Proof.Machine

/-! ### Phase section (R93, R97) -/

/-- The next step event carries a correction (R97). -/
def correctionDue (f : Phase) : Bool :=
  f.counting && decide (f.correction ≠ 0) && chainRuns f.lock && decide (9 ≤ f.spacing)

/-- What the next step event adds to the phase section (R93, R97). -/
def advance (f : Phase) : Nat := if correctionDue f then (if 0 < f.correction then 2 else 0) else 1

/-- The pending correction and the spacing count after a step event (R97). -/
def afterCorrection (f : Phase) : Phase :=
  if correctionDue f then
    { f with correction := if 0 < f.correction then f.correction - 1 else f.correction + 1, spacing := 0 }
  else if decide (f.correction ≠ 0) && chainRuns f.lock then { f with spacing := f.spacing + 1 }
  else f

/-- The phase values that a step event passes, in order (R93). -/
def passedValues (phase n : Nat) : List Nat := (List.range n).map fun k => (phase + 1 + k) % 3600

/-- The phase values that the next step event passes. -/
def passedNext (f : Phase) : List Nat := passedValues f.phase (advance f)

/-- The next step event is a cycle start: it passes 0 (R93). -/
def cycleStartNext (f : Phase) : Bool := f.counting && decide (0 ∈ passedNext f)

/-- The step that follows: at a cycle start with a load pending the saved period's first, otherwise the loaded
period's next (R92, R94). -/
def nextStep (start : Bool) (f : Phase) : Phase :=
  match start && f.pendingLoad, f.saved, f.loaded with
  | true, some p, _ => loadPeriod p f
  | _, _, some p => beginStep p f
  | _, _, none => f

/-- The three sections at a step event (R92, R93, R97). -/
def advancePhase (f : Phase) : Phase :=
  let start := cycleStartNext f
  let f1 := { afterCorrection f with phase := (f.phase + advance f) % 3600,
                                     cycle := if start then f.cycle + 1 else f.cycle }
  nextStep start f1

/-! ### Cycle start (R95) -/

/-- The pending swap at a cycle start; none is made in ACQUIRING (R113, R114). -/
def swapAtCycleStart (s : State) : State := if chainRuns s.phase.lock then makePendingSwap s else s

/-- The work of a cycle start: page swap, sequencer, sweep source (R114, R125, R126, R81). -/
def cycleStartWork (s : State) : State := sweepTick (sequencerCycleWork (swapAtCycleStart s))

/-! ### Check points (R75) -/

/-- The value at which a valve's check point falls, by the armed points before the step event (R75). -/
def checkValue (armed : Vector (Option Nat) 12) (v : Valve) : Nat := armed[v].getD (defaultPoint v)

/-- The check point of a valve falls; its armed point is cleared (R75). -/
def takeCheckPoint (s : State) (v : Valve) : State :=
  checkPoint v { s with sources := { s.sources with armed := put s.sources.armed v none } }

/-- The check points that a step event passes, in the order of the values and then of the valves (R75). -/
def checkPoints (passed : List Nat) (armed : Vector (Option Nat) 12) (s : State) : State :=
  (passed.flatMap fun x => allValves.filter fun v => decide (checkValue armed v = x)).foldl takeCheckPoint s

/-! ### The step event -/

/-- The bypass spacing and occasion at a step event: of a converter that was BYPASSING before it and still is
(R131, R147). -/
def bypassPart (before : Conv) (n : Nat) (s : State) : State :=
  if before = .bypassing ∧ s.seq.conv = .bypassing then bypassEvent n s else s

/-- The mark of an unfit entry ends with the step event or base tick after it (R134, log entry 32). -/
def settleTrip (s : State) : State := { s with seq := { s.seq with freshTrip := false } }

/-- A phase step event (R92, R93); a stopped chain makes none. The check points are taken before the windows
(log entry 31). -/
def stepEvent (s : State) : State :=
  if s.phase.counting then
    let passed := passedNext s.phase
    let s1 := { s with phase := advancePhase s.phase }
    let s2 := settleTrip (if cycleStartNext s.phase then cycleStartWork s1 else s1)
    let s3 := judgeWindows passed (checkPoints passed s.sources.armed s2)
    bypassPart s.seq.conv passed.length s3
  else s

/-! ### Cases of the next step event (log entry 4) -/

/-- An event that has a row of its own as one case of a larger event: the larger event when the case is due, and no
effect otherwise. -/
def whenDue (due : State → Bool) (event : State → State) (s : State) : State := if due s then event s else s

def phaseCorrectionDue (s : State) : Bool := correctionDue s.phase

/-- The next step event completes the recovery (R125). -/
def recoveryDue (s : State) : Bool :=
  cycleStartNext s.phase && decide (s.seq.conv = .running) && (commutationTripValve s).isNone
    && decide (s.seq.recovery + 1 = s.settings.recoveryCycles)

/-- The next step event raises COMMUTATION (R125). -/
def commutationTripDue (s : State) : Bool :=
  cycleStartNext s.phase && (decide (s.seq.conv = .running) || decide (s.seq.conv = .ramping))
    && (commutationTripValve s).isSome

/-- The next step event ends RETARDED (R126, R128). -/
def retardExpiryDue (s : State) : Bool :=
  cycleStartNext s.phase && decide (s.seq.conv = .retarded) && !s.seq.freshTrip
    && decide (s.settings.retardCycles ≤ s.seq.retardCount + 1)

/-- The next step event ends deionization (R126, R129). -/
def deionizationEndDue (s : State) : Bool :=
  cycleStartNext s.phase && decide (s.seq.conv = .deionizing)
    && decide (s.settings.deionizationCycles ≤ s.seq.deionCount + 1)

/-- The next step event ends BYPASSING (R126, R131). -/
def bypassExpiryDue (s : State) : Bool :=
  cycleStartNext s.phase && decide (s.seq.conv = .bypassing) && !s.seq.freshTrip
    && decide (s.settings.bypassCycles ≤ s.seq.bypassCount + 1)

/-- The next step event is a bypass occasion (R131, R147). -/
def bypassOccasionDue (s : State) : Bool :=
  s.phase.counting && decide (s.seq.conv = .bypassing)
    && (bypassAdvance s.seq (passedNext s.phase).length).2 && !bypassExpiryDue s

/-- The next step event is a sweep occasion (R81). -/
def sweepOccasionDue (s : State) : Bool := cycleStartNext s.phase && sweepDue s

/-- The next step event makes the pending swap (R113). -/
def swapDueAtCycleStart (s : State) : Bool :=
  cycleStartNext s.phase && chainRuns s.phase.lock && s.schedule.swapPending.isSome

/-- The next missed crossing makes the pending swap (R115). -/
def swapDueAtLoss (s : State) : Bool := lossDue s && s.schedule.swapPending.isSome

/-! ### Cases of a word or a timeout on the link (log entry 4) -/

/-- The frame brings the awaited word, which makes the pending cut: a reply header of the poll's valve in HEADER, a
result word that is not the poll's last in EXCHANGE (R59, R61, R68). -/
def cutDue (f : BitVec 20) (s : State) : Bool :=
  s.link.cutPending && match s.link.state, s.link.poll with
    | .header, some p => isReplyHeader f && decide (replyValve (frameWord f) = valveNumber p.valve)
    | .exchange, some p => isResultWord f && decide (p.next < p.last)
    | _, _ => false

/-- A result word, or the timeout of one (`none`), ends the wait of a pending hold (R69). -/
def deferredHoldDue (f : Option (BitVec 20)) (s : State) : Bool :=
  decide (s.link.state = .exchange) && s.link.holdPending.isSome && f.all isResultWord

/-- A frame arrives, or the timeout of the awaited word expires. -/
def receiveOrTimeout (f : Option (BitVec 20)) (s : State) : State :=
  match f with
  | some x => receive x s
  | none => awaitedTimeout .exchange s

/-- The next abort takes the consecutive-failure count to 8 (R66). -/
def linkDownDue (s : State) : Bool :=
  (decide (s.link.state = .header) || decide (s.link.state = .exchange)) && decide (s.link.failures = 7)

end Sys2Proof.Machine
end

