-- ==== Sys2Proof/Machine/Clock.lean ====
section
/-! DEFINITION. What the part does of its own when no command waits: a step of the request engine or of the arbiter, an
event that is due, or else one base tick of the 40 MHz clock (log entries 1, 2, 8, 19). -/

namespace Sys2Proof.Machine

/-! ### Request engine and arbiter (log entry 8) -/

/-- The request that the engine has begun and not yet executed to its end (R153). A converter image of which a part was
taken at this moment waits for the next one (R157). -/
def begunRequest (s : State) : Option Instr :=
  if s.engine.busy && (s.port s.engine.last).begun && !s.building.taken then
    match (s.port s.engine.last).request.map (parseFrame s.engine.last) with
    | some (.command c) => some c
    | _ => none
  else none

/-- The steps that request engine and arbiter take without waiting for time to pass. -/
def promptSteps (s : State) : List Instr :=
  (begunRequest s).toList ++ if arbiterDue s then [.arbiterPollStart] else []

/-! ### One base tick -/

/-- The interval count rises (R90). -/
def tickInterval (f : Phase) : Phase := { f with interval := f.interval + 1 }

/-- The tick count of a counting chain rises (R92). -/
def tickStep (f : Phase) : Phase := if f.counting then { f with tick := f.tick + 1 } else f

/-- The link's timer falls (R57). -/
def tickLink (l : Link) : Link := { l with timer := l.timer.map fun n => n - 1 }

/-- A lane's time falls; an idle lane runs none (R140). -/
def tickLane (l : Lane) : Lane :=
  match l.state with
  | .idle => l
  | _ => { l with timer := l.timer - 1 }

/-- Every running count and timer one base tick on. -/
def countTick (s : State) : State :=
  settleTrip { s with phase := tickStep (tickInterval s.phase), link := tickLink s.link,
                      lanes := mapEntries tickLane s.lanes, building := { s.building with taken := false } }

/-- The end of the link's timer (R63, R65). -/
def linkEvents (l : Link) : List Instr :=
  if l.timer = some 0 then
    match l.state with
    | .header => [.replyTimeout]
    | .exchange => [.wordTimeout]
    | .interval => [.wordIntervalEnd]
    | .idle | .held => []
  else []

/-- The end of a lane's time (R143, R145). -/
def laneEvents (v : Valve) (l : Lane) : List Instr :=
  if l.timer = 0 then
    match l.state with
    | .lit => [.onTimeEnd v]
    | .gap => [.gapEnd v]
    | .stopping => [.stopFrameEnd v]
    | .idle => []
  else []

/-- The end of a phase step (R92). -/
def stepEvents (f : Phase) : List Instr :=
  if f.counting && (presentLength f).any (fun n => decide (n ≤ f.tick)) then [.phaseStepEvent] else []

/-- The expiry of the interval (R90). -/
def intervalEvents (f : Phase) : List Instr := if intervalLimit ≤ f.interval then [.missedCrossing] else []

/-- The events that are due. -/
def dueEvents (s : State) : List Instr :=
  intervalEvents s.phase ++ stepEvents s.phase ++ linkEvents s.link ++ allValves.flatMap fun v => laneEvents v (s.lane v)

/-! ### The step of an empty queue -/

/-- Everything that happens at the present moment without a command: the steps of request engine and arbiter, and the
events whose count or time has reached its end. -/
def readySteps (s : State) : List Instr := promptSteps s ++ dueEvents s

/-- The part with an empty queue: held in power-on reset; else one of the steps that are ready at this moment joins the
queue, which of them a free value where there are several (log entry 2); else one base tick passes. An event is found
due anew at each such step, so a command taken first at the same moment can still end its time (R90, R92). -/
def idleStep (s : State) : State :=
  if s.lines.porLow then s
  else match readySteps s with
    | [] => countTick s
    | c :: cs =>
      let chosen := chooseOne s.freeCount c cs
      { s with pending := [chosen.1], freeCount := chosen.2 }

end Sys2Proof.Machine
end

