-- ==== Sys2Proof/Machine/Reset.lean ====
section
/-! DEFINITION. The power-on reset and the control reset (R22, R23, R36, R74, R89, R107, R119, R139, R150, R158,
R162, R163, R167). -/

namespace Sys2Proof.Machine

/-- Every block at its power-on values, with the input lines as given. The queue and the count of free values are
the model's own and stay (log entry 30). -/
def powerOn (lines : Lines) (s : State) : State :=
  { State.reset with lines := lines, freeCount := s.freeCount, pending := s.pending }

/-- A port at a control reset: `keep` marks the port whose RESTART request caused it (R158, R162, R163). -/
def resetPort (keep : Bool) (u : PortUnit) : PortUnit :=
  { state := if keep then .answered else .idle,
    request := none,
    begun := false,
    answer := if keep then u.answer else none,
    refused := false,
    transfer := u.transfer.map fun t => { t with discard := true },
    flags := noticeBit .reset,
    mask := u.mask,
    shiftedOut := u.shiftedOut }

/-- A lane at a control reset: the cut, then drop count 0 (R150). -/
def resetLane (l : Lane) : Lane := { cutLane l with drops := 0 }

/-- The Firing Sequencer at a control reset (R139). -/
def resetSequencer (retardAngle : Nat) (q : Sequencer) : Sequencer :=
  { Sequencer.powerOn with conv := if q.tripLatch then .tripped else .blocked, tripLatch := q.tripLatch,
                           tripCause := q.tripCause, ramp := retardAngle }

/-- The control reset (R23, R36, R74, R89, R107, R119, R139, R150, R158, R162, R163). The table, the tallies and the
settings are kept. -/
def controlReset (keep : Option Port) (s : State) : State :=
  { s with link := Link.powerOn,
           sources := Sources.afterReset,
           phase := Phase.afterReset,
           schedule := clampPages s.settings Schedule.powerOn,
           seq := resetSequencer s.settings.retardAngle s.seq,
           lanes := mapEntries resetLane s.lanes,
           portA := resetPort (decide (keep = some .a)) s.portA,
           portB := resetPort (decide (keep = some .b)) s.portB,
           engine := Engine.afterReset,
           building := ImageBuild.empty }

end Sys2Proof.Machine
end

