-- ==== Sys2Proof/Machine/ControlRequests.lean ====
section
/-! DEFINITION. Meanings of the requests on schedule, sequencer, Phase Unit, link and part (R69, R71, R98, R110,
R112, R127 to R131, R135, R158). -/

namespace Sys2Proof.Machine

/-- The first check of DEBLOCK that fails, in BLOCKED (R127). -/
def deblockRefusal (s : State) : Option Reason :=
  if s.lines.block then some .blockLine
  else if s.phase.lock ≠ .locked then some .phase
  else if !s.livePage.valid then some .pageInvalid
  else if 0 < unfitCount s then some .valveUnfit
  else none

/-- DEBLOCK (R127). -/
def deblockClaim (s : State) : State × Option Reply :=
  match s.seq.conv with
  | .blocked =>
    match deblockRefusal s with
    | some why => (s, some (notReady why))
    | none => (enter .pending none s, some (plain .done))
  | _ => (s, some (plain .wrongState))

/-- BLOCK (R130). -/
def blockClaim (s : State) : State × Option Reply :=
  match s.seq.conv with
  | .blocked => (s, some (plain .done))
  | .pending | .deionizing => (enter .blocked none s, some (plain .done))
  | .ramping | .running => (stopByRole .blocked s, some (plain .done))
  | .retarded | .bypassing => (strengthen .blocked s, some (plain .done))
  | .tripped => (s, some (plain .wrongState))

/-- RETARD (R128). -/
def retardClaim (s : State) : State × Option Reply :=
  match s.seq.conv with
  | .ramping | .running => (enterRetarded .deionizing s, some (plain .done))
  | _ => (s, some (plain .wrongState))

/-- BYPASS (R131). -/
def bypassClaim (s : State) : State × Option Reply :=
  match s.seq.conv, s.livePage.role with
  | .ramping, .inverter | .running, .inverter => (enterBypassing .blocked s, some (plain .done))
  | _, _ => (s, some (plain .wrongState))

/-- The trip latch is cleared and its cause removed (R135). -/
def unlatch (s : State) : State := { s with seq := { s.seq with tripLatch := false, tripCause := none } }

/-- CLEAR TRIP (R135). -/
def clearTripClaim (s : State) : State × Option Reply :=
  match s.seq.conv with
  | .tripped =>
    if 0 < unfitCount s then (s, some (notReady .valveUnfit))
    else (unlatch (enter .blocked none s), some (plain .done))
  | _ => (s, some (plain .wrongState))

/-- ORDER (R110). -/
def execOrder (q : Sender) (parts : OrderParts) (s : State) : Host.Outcome State Fault Refusal :=
  serveClaim (.order q parts) q.port (orderClaim parts) s

/-- SWAP (R112). -/
def execSwap (q : Sender) (s : State) : Host.Outcome State Fault Refusal :=
  serveClaim (.swap q) q.port (swapClaim q.port) s

/-- DEBLOCK (R127). -/
def execDeblock (q : Sender) (s : State) : Host.Outcome State Fault Refusal :=
  serveClaim (.deblock q) q.port deblockClaim s

/-- BLOCK (R130). -/
def execBlock (q : Sender) (s : State) : Host.Outcome State Fault Refusal :=
  serveClaim (.block q) q.port blockClaim s

/-- RETARD (R128). -/
def execRetard (q : Sender) (s : State) : Host.Outcome State Fault Refusal :=
  serveClaim (.retard q) q.port retardClaim s

/-- BYPASS (R131). -/
def execBypass (q : Sender) (s : State) : Host.Outcome State Fault Refusal :=
  serveClaim (.bypass q) q.port bypassClaim s

/-- CLEAR_TRIP (R135). -/
def execClearTrip (q : Sender) (s : State) : Host.Outcome State Fault Refusal :=
  serveClaim (.clearTrip q) q.port clearTripClaim s

/-- TRIM (R98). -/
def execTrim (q : Sender) (insert suppress : Bool) (s : State) : Host.Outcome State Fault Refusal :=
  serveClaim (.trim q insert suppress) q.port (trimClaim insert suppress) s

/-- HOLD_LINK (R69). -/
def execHoldLink (q : Sender) (s : State) : Host.Outcome State Fault Refusal :=
  serveClaim (.holdLink q) q.port (holdClaim q.port) s

/-- RELEASE_LINK (R71). -/
def execReleaseLink (q : Sender) (s : State) : Host.Outcome State Fault Refusal :=
  serveClaim (.releaseLink q) q.port releaseClaim s

/-- RESTART: the answer DONE is placed, then the control reset takes effect (R158). -/
def execRestart (q : Sender) (s : State) : Host.Outcome State Fault Refusal :=
  powered (serve (.restart q) fun t => controlReset (some q.port) (placeAnswer q.port (plain .done) t)) s

end Sys2Proof.Machine
end

