-- ==== Sys2Proof/Machine/LaneEvents.lean ====
section
/-! DEFINITION. Meanings of the timed events of the emitter lanes (R143, R145). -/

namespace Sys2Proof.Machine

/-- ON_TIME_END (R143). -/
def execOnTimeEnd (lane : Valve) (s : State) : Host.Outcome State Fault Refusal :=
  powered (fun t => t.setLane lane (laneOnTimeEnd (t.lane lane))) s

/-- GAP_END (R143). -/
def execGapEnd (lane : Valve) (s : State) : Host.Outcome State Fault Refusal :=
  powered (fun t => t.setLane lane (laneGapEnd (t.lane lane))) s

/-- STOP_FRAME_END (R145). -/
def execStopFrameEnd (lane : Valve) (s : State) : Host.Outcome State Fault Refusal :=
  powered (fun t => t.setLane lane (laneStopEnd (t.lane lane))) s

end Sys2Proof.Machine
end

