-- ==== Sys2Proof/Machine/LinkEvents.lean ====
section
/-! DEFINITION. Meanings of the events of the monitoring link and of the arbiter (R56 to R69, R84). -/

namespace Sys2Proof.Machine

/-- SWEEP_CUT: the frame of the awaited word, which makes the pending cut (R59, R61, R68). -/
def execSweepCut (frame : BitVec 20) (s : State) : Host.Outcome State Fault Refusal :=
  powered (whenDue (cutDue frame) (receive frame)) s

/-- ARBITER_POLL_START (R84, R58). -/
def execArbiterPollStart (s : State) : Host.Outcome State Fault Refusal := powered arbiterStart s

/-- REPLY_HEADER: a frame with the type mark of a reply header arrives (R59, R67). -/
def execReplyHeader (frame : BitVec 20) (s : State) : Host.Outcome State Fault Refusal := powered (receive frame) s

/-- RESULT_WORD: a frame with the type mark of a result word arrives (R61, R62, R67). -/
def execResultWord (frame : BitVec 20) (s : State) : Host.Outcome State Fault Refusal := powered (receive frame) s

/-- FRAME_ERROR: a frame that fails its checks arrives (R56). -/
def execFrameError (frame : BitVec 20) (s : State) : Host.Outcome State Fault Refusal := powered (receive frame) s

/-- DEFERRED_HOLD: the frame of the awaited result word, or its timeout, with a hold pending (R69). -/
def execDeferredHold (frame : Option (BitVec 20)) (s : State) : Host.Outcome State Fault Refusal :=
  powered (whenDue (deferredHoldDue frame) (receiveOrTimeout frame)) s

/-- WORD_INTERVAL_END (R63). -/
def execWordIntervalEnd (s : State) : Host.Outcome State Fault Refusal := powered wordIntervalEnd s

/-- REPLY_TIMEOUT (R65). -/
def execReplyTimeout (s : State) : Host.Outcome State Fault Refusal := powered (awaitedTimeout .header) s

/-- WORD_TIMEOUT (R65). -/
def execWordTimeout (s : State) : Host.Outcome State Fault Refusal := powered (awaitedTimeout .exchange) s

/-- LINK_DOWN: the timeout whose abort takes the consecutive-failure count to 8 (R65, R66). -/
def execLinkDown (s : State) : Host.Outcome State Fault Refusal :=
  powered (whenDue linkDownDue fun t => awaitedTimeout t.link.state t) s

end Sys2Proof.Machine
end

