-- ==== Sys2Proof/Machine/Settings.lean ====
section
/-! DEFINITION. The settings store: reading, the checks of SET and the consequences of an accepted SET (R30, R33,
R83, R105, R117, R165, R166). -/

namespace Sys2Proof.Machine

/-- The present value of a setting; the valve is read for the settings held per valve (R164). -/
def getSetting (t : Settings) (v : Valve) : Setting → Nat
  | .missLimit => t.missLimit
  | .darkLimit => t.darkLimit
  | .provingCount => t.provingCount
  | .clearCount => t.clearCount
  | .windowLow => t.windowLow
  | .windowHigh => t.windowHigh
  | .minimumSound => t.minimumSound[v]
  | .reserve => t.reserve[v]
  | .wordIntervalCode => t.wordIntervalCode
  | .cyclePriority => t.cyclePriority
  | .directedPriority => t.directedPriority
  | .sweepPriority => t.sweepPriority
  | .sweepEnable => if t.sweepEnable then 1 else 0
  | .sweepInterval => t.sweepInterval
  | .preEmption => if t.preEmption then 1 else 0
  | .referenceOffset => t.referenceOffset
  | .disturbanceGear => t.disturbanceGear
  | .holdLimit => t.holdLimit
  | .alphaMin => t.alphaMin
  | .alphaMax => t.alphaMax
  | .retardAngle => t.retardAngle
  | .rampRate => t.rampRate
  | .retardCycles => t.retardCycles
  | .deionizationCycles => t.deionizationCycles
  | .restartLimit => t.restartLimit
  | .recoveryCycles => t.recoveryCycles
  | .bypassCycles => t.bypassCycles
  | .cfAdvance => t.cfAdvance
  | .cfHold => t.cfHold
  | .cfLimit => t.cfLimit
  | .standardOnTime => t.standardOnTime
  | .longOnTime => t.longOnTime
  | .spreadLimit => t.spreadLimit

/-- The store with a setting at a new value (R165). -/
def putSetting (t : Settings) (v : Valve) (n : Nat) : Setting → Settings
  | .missLimit => { t with missLimit := n }
  | .darkLimit => { t with darkLimit := n }
  | .provingCount => { t with provingCount := n }
  | .clearCount => { t with clearCount := n }
  | .windowLow => { t with windowLow := n }
  | .windowHigh => { t with windowHigh := n }
  | .minimumSound => { t with minimumSound := put t.minimumSound v n }
  | .reserve => { t with reserve := put t.reserve v n }
  | .wordIntervalCode => { t with wordIntervalCode := n }
  | .cyclePriority => { t with cyclePriority := n }
  | .directedPriority => { t with directedPriority := n }
  | .sweepPriority => { t with sweepPriority := n }
  | .sweepEnable => { t with sweepEnable := decide (n = 1) }
  | .sweepInterval => { t with sweepInterval := n }
  | .preEmption => { t with preEmption := decide (n = 1) }
  | .referenceOffset => { t with referenceOffset := n }
  | .disturbanceGear => { t with disturbanceGear := n }
  | .holdLimit => { t with holdLimit := n }
  | .alphaMin => { t with alphaMin := n }
  | .alphaMax => { t with alphaMax := n }
  | .retardAngle => { t with retardAngle := n }
  | .rampRate => { t with rampRate := n }
  | .retardCycles => { t with retardCycles := n }
  | .deionizationCycles => { t with deionizationCycles := n }
  | .restartLimit => { t with restartLimit := n }
  | .recoveryCycles => { t with recoveryCycles := n }
  | .bypassCycles => { t with bypassCycles := n }
  | .cfAdvance => { t with cfAdvance := n }
  | .cfHold => { t with cfHold := n }
  | .cfLimit => { t with cfLimit := n }
  | .standardOnTime => { t with standardOnTime := n }
  | .longOnTime => { t with longOnTime := n }
  | .spreadLimit => { t with spreadLimit := n }

/-! ### Checks (R165) -/

/-- The value lies in the setting's range and in its relation to another setting (R165, check 2). -/
def valueOk (t : Settings) (σ : Setting) (n : Nat) : Bool :=
  decide (σ.range.1 ≤ n) && decide (n ≤ σ.range.2) &&
  match σ with
  | .windowLow => decide (n < t.windowHigh)
  | .windowHigh => decide (t.windowLow < n)
  | .standardOnTime => decide (n ≤ t.longOnTime)
  | .longOnTime => decide (t.standardOnTime ≤ n)
  | _ => true

/-- alpha min or alpha max (R117). -/
def isAlphaLimit : Setting → Bool
  | .alphaMin | .alphaMax => true
  | _ => false

/-- An on-time or the spread limit (R33). -/
def isSpreadSetting : Setting → Bool
  | .standardOnTime | .longOnTime | .spreadLimit => true
  | _ => false

/-- The spread of a tally under the on-times of a store (R31). -/
def spreadUnder (t : Settings) (y : Tally) : Nat :=
  spreadOf y.bankEmitting y.bankLong t.standardOnTime t.longOnTime

/-- Some valve's spread would exceed the limit under a store (R33). -/
def overSpread (t : Settings) (s : State) : Bool :=
  allValves.any fun v => decide (t.spreadLimit < spreadUnder t (s.tally v))

/-- The first check of the claim of SET that fails (R165). -/
def setRefusal (σ : Setting) (v : Valve) (n : Nat) (s : State) : Option AnswerCode :=
  if !σ.anyTime && !isStopped s.seq.conv then some .wrongState
  else if !valueOk s.settings σ n then some .badValue
  else if isAlphaLimit σ && s.schedule.swapPending.isSome then some .pending
  else if isSpreadSetting σ && overSpread (putSetting s.settings v n σ) s then some .spread
  else none

/-! ### Consequences (R165) -/

/-- The grade of the named valve worked out again (R30). -/
def regrade (v : Valve) (s : State) : State :=
  let y := s.tally v
  commitTally v { y with grade := gradeOf y.sound y.failed s.settings.minimumSound[v] s.settings.reserve[v] }
    .change s

/-- Each tally's spread worked out again (R33). -/
def respread (s : State) : State :=
  { s with tallies := mapEntries (fun y => { y with spread := spreadUnder s.settings y }) s.tallies }

/-- Both pages' alpha clamped (R117); the ramp value brought up to alpha min (log entry 14). -/
def reclamp (s : State) : State :=
  { s with schedule := clampPages s.settings s.schedule,
           seq := { s.seq with ramp := max s.seq.ramp s.settings.alphaMin } }

/-- The consequences of an accepted SET, with the store already at the new value (R165). -/
def setConsequences (σ : Setting) (v : Valve) (s : State) : State :=
  match σ with
  | .minimumSound | .reserve => regrade v s
  | .standardOnTime | .longOnTime => respread s
  | .sweepEnable => sweepEnableSet s.settings.sweepEnable s
  | .referenceOffset => offsetSet s
  | .alphaMin | .alphaMax => reclamp s
  | _ => s

/-- The claim of SET on the settings store (R165). -/
def storeClaim (σ : Setting) (v : Valve) (n : Nat) (s : State) : State × Option Reply :=
  match setRefusal σ v n s with
  | some code => (s, some (plain code))
  | none => (setConsequences σ v { s with settings := putSetting s.settings v n σ }, some (plain .done))

/-- SET: BAD KEY before the claim when the setting is per valve and the valve lies outside 1 to 12 (R165). -/
def setClaim (σ : Setting) (valve : Byte) (value : Word16) (s : State) : State × Option Reply :=
  match σ.perValve, valveOf? valve with
  | true, none => (s, some (plain .badKey))
  | _, v => storeClaim σ (v.getD 0) value.toNat s

end Sys2Proof.Machine
end

