-- ==== Sys2Proof/Machine/Images.lean ====
section
/-! DEFINITION. The images of the lookups (R17, R35, R118, R157, R161, R166, R169). -/

namespace Sys2Proof.Machine

/-! ### Codes (R169) -/

def lifeCode : Life → Byte
  | .empty => 0
  | .proving => 1
  | .serving => 2
  | .suspect => 3
  | .shorted => 4
  | .dark => 5
  | .retired => 6

def causeCode : Cause → Byte
  | .meanLow => 1
  | .meanHigh => 2
  | .protectiveFiring => 3
  | .deepTest => 4
  | .noIndication => 5
  | .lightPath => 6

def gradeCode : Grade → Byte
  | .full => 0
  | .reduced => 1
  | .marginal => 2
  | .unfit => 3

def pageCode : PageName → Byte
  | .a => 0
  | .b => 1

/-- A port in the ports part: as AUTH_SEL names it, the level (low A, high B, R155). The same code for the port served
last is the model's choice (DESIGN CHOICE, unsafe, log entry 17). -/
def portCode : Port → Byte
  | .a => 0
  | .b => 1

def convCode : Conv → Byte
  | .blocked => 0
  | .pending => 1
  | .ramping => 2
  | .running => 3
  | .retarded => 4
  | .deionizing => 5
  | .bypassing => 6
  | .tripped => 7

/-- The code of an exit target: its place in its own row of the table of R120. That it is not the code of the converter
state of the same name is the model's choice (DESIGN CHOICE, unsafe, log entry 17). -/
def exitCode : ExitTarget → Byte
  | .deionizing => 0
  | .blocked => 1
  | .tripped => 2

def windowCode : WindowState → Byte
  | .closed => 0
  | .opened => 1
  | .fired => 2

def lockCode : Lock → Byte
  | .unlocked => 0
  | .acquiring => 1
  | .locked => 2
  | .disturbed => 3
  | .holding => 4
  | .lost => 5

def linkCode : LinkState → Byte
  | .idle => 0
  | .header => 1
  | .exchange => 2
  | .interval => 3
  | .held => 4

def sourceCode : PollSource → Byte
  | .cycle => 0
  | .directed => 1
  | .sweep => 2

def kindCode : PollKind → Byte
  | .cycle => 0
  | .deep => 1

def originCode : EntryOrigin → Byte
  | .request => 0
  | .protectiveFiring => 1

def laneCode : LaneState → Byte
  | .idle => 0
  | .lit => 1
  | .gap => 2
  | .stopping => 3

/-- A valve's number in an image. -/
def valveByte (v : Valve) : Byte := byte (valveNumber v)

/-- A number in two bytes. -/
def nat16 (n : Nat) : List Byte := bytes16 (BitVec.ofNat 16 n)

/-- An optional item: its presence mark, then its bytes or as many zeros (R169). -/
def optionalItem {α : Type} (size : Nat) (bytes : α → List Byte) (x : Option α) : List Byte :=
  match x with
  | some a => 1 :: bytes a
  | none => 0 :: List.replicate size 0

/-! ### Level record image (R17, R169) -/

def presenceByte (r : LevelRecord) : Byte :=
  byte ((if r.unitTag.isSome then 1 else 0) + (if r.mean.isSome then 2 else 0) + (if r.lastCycle.isSome then 4 else 0)
    + (if r.cause.isSome then 8 else 0) + (if r.retireReason.isSome then 16 else 0))

def levelImage (v : Valve) (p : Position) (r : LevelRecord) : List Byte :=
  [valveByte v, byte (positionNumber p), lifeCode r.life] ++ bytes16 r.revision ++ [presenceByte r]
    ++ optional24 r.unitTag
    ++ [emitClassCode r.emitClass, byte (r.pfRun * 16 + r.missRun), byte r.pfTotal, byte r.progress, r.mean.getD 0]
    ++ optional16 r.lastCycle
    ++ [(r.cause.map causeCode).getD 0,
        byte (((r.retireReason.map retireReasonCode).getD 0).toNat + r.window.length * 32)]
    ++ r.window

/-! ### Valve image (R35, R169) -/

def valveImage (v : Valve) (s : State) : List Byte :=
  let y := s.tally v
  [valveByte v] ++ y.counts.toList.map byte ++ [byte y.sound, byte y.failed, byte y.top]
    ++ y.bankEmitting.toList.map byte ++ y.bankLong.toList.map byte
    ++ [byte y.spread, gradeCode y.grade, byte s.settings.minimumSound[v], byte s.settings.reserve[v],
        byte s.sources.skip[v], byte (s.lane v).drops]

/-! ### Page image (R118, R169) -/

/-- The twelve pair flags, valve v at bit v - 1. -/
def pairBits (pairs : Vector Bool 12) : Word16 :=
  BitVec.ofNat 16 (allValves.map fun v => if pairs[v] then 2 ^ v.val else 0).sum

def pageImage (name : PageName) (g : Page) (h : Schedule) : List Byte :=
  [pageCode name, flagByte g.valid] ++ nat16 g.alpha ++ [roleCode g.role, byte (g.leg.val + 1)]
    ++ g.trims.toList.map (BitVec.ofInt 8) ++ bytes16 (pairBits g.pairs)
    ++ [pageCode h.live, flagByte h.swapPending.isSome]

def otherPage : PageName → PageName
  | .a => .b
  | .b => .a

/-! ### Setting and notices images (R161, R166, R169) -/

def settingImage (σ : Setting) (v : Valve) (s : State) : List Byte :=
  [σ.code, if σ.perValve then valveByte v else 0] ++ nat16 (getSetting s.settings v σ) ++ nat16 σ.range.1
    ++ nat16 σ.range.2 ++ nat16 σ.default

def noticesImage (u : PortUnit) : List Byte :=
  bytes16 (u.flags.setWidth 16) ++ bytes16 (u.mask.setWidth 16) ++ [flagByte (noticeLine u)]

/-! ### Converter image (R157, R169, log entries 17 and 18) -/

/-- A part: its code and its length in bytes, then its fields. That the length counts the fields alone, without the two
opening bytes, is the model's choice (DESIGN CHOICE, unsafe, log entry 17). -/
def imagePart (code : Byte) (fields : List Byte) : List Byte := [code, byte fields.length] ++ fields

def tripCauseBytes : TripCause → List Byte
  | .valveUnfit v => [0, valveByte v]
  | .commutation v => [1, valveByte v]

/-- R138. -/
def sequencerPart (s : State) : List Byte :=
  let q := s.seq
  [convCode q.conv] ++ optionalItem 1 (fun x => [exitCode x]) q.exitTarget
    ++ [flagByte q.tripLatch] ++ optionalItem 2 tripCauseBytes q.tripCause
    ++ [byte q.attempts] ++ nat16 q.ramp ++ optionalItem 2 nat16 (effectiveBase s)
    ++ [byte q.cfHold, byte q.cfRun] ++ optionalItem 1 (fun v => [valveByte v]) q.lastFailure
    ++ [byte q.retardCount, byte q.deionCount, byte q.bypassCount, byte q.recovery]
    ++ q.windows.toList.map windowCode
    ++ [byte (unfitCount s), flagByte s.lines.block, flagByte s.lines.linefault, flagByte (tripLine s)]

/-- R106. -/
def phasePart (f : Phase) : List Byte :=
  [lockCode f.lock] ++ nat16 f.phase ++ [flagByte (chainRuns f.lock)] ++ bytes16 f.cycle
    ++ bytes32 (f.saved.getD 0) ++ bytes32 (f.loaded.getD 0) ++ [flagByte f.pendingLoad]
    ++ bytes32 (f.prevAccepted.getD 0) ++ optionalItem 2 signed16 f.lastError ++ signed16 f.correction
    ++ [byte f.good, byte f.hold]

def pollBytes (p : Poll) : List Byte :=
  [sourceCode p.source, kindCode p.kind, valveByte p.valve, byte p.next, byte p.last, flagByte p.superseded]

/-- R73. -/
def linkPart (l : Link) : List Byte :=
  [linkCode l.state, flagByte l.holdPending.isSome, flagByte l.cutPending] ++ optionalItem 6 pollBytes l.poll
    ++ [byte l.failures, flagByte l.down, byte l.timeouts, byte l.mismatches, byte l.overruns]
    ++ l.vmuFault.toList.map flagByte

def entryBytes (e : DirectedEntry) : List Byte :=
  [valveByte e.valve, byte e.first, byte e.count, originCode e.origin, flagByte e.inProgress]

/-- R88. -/
def sourcesPart (q : Sources) : List Byte :=
  [byte q.cycleQueue.length] ++ q.cycleQueue.map valveByte
    ++ [byte q.directed.length] ++ q.directed.flatMap entryBytes
    ++ [valveByte q.cursor, byte q.sweepTimer] ++ optionalItem 1 (fun v => [valveByte v]) q.sweepRequest
    ++ [flagByte q.sweepInProgress] ++ optionalItem 2 (fun x => [valveByte x.1, byte x.2]) q.remainder

/-- R149: the twelve lane states, then the twelve present banks. -/
def lanesPart (lanes : Vector Lane 12) : List Byte :=
  lanes.toList.map (fun l => laneCode l.state)
    ++ lanes.toList.flatMap fun l => optionalItem 1 (fun b => [byte (b.val + 1)]) l.bank

/-- R157. -/
def portsPart (s : State) : List Byte :=
  [portCode s.lines.authSel, byte (portStateCode s.portA.state), byte (portStateCode s.portB.state),
   flagByte s.portA.refused, flagByte s.portB.refused, flagByte s.engine.busy, portCode s.engine.last]

/-- The fields of a part, as its owner holds them now. -/
def partFields (k : Fin 6) (s : State) : List Byte :=
  match k with
  | 0 => sequencerPart s
  | 1 => phasePart s.phase
  | 2 => linkPart s.link
  | 3 => sourcesPart s.sources
  | 4 => lanesPart s.lanes
  | 5 => portsPart s

/-- A part of the image, taken in one claim at its owner. -/
def converterPart (k : Fin 6) (s : State) : List Byte := imagePart (byte (k.val + 1)) (partFields k s)

/-- The parts of the image in its order. -/
def allParts : List (Fin 6) := [0, 1, 2, 3, 4, 5]

/-- The parts that are still to be taken. -/
def missingParts (b : ImageBuild) : List (Fin 6) := allParts.filter fun k => b.parts[k].isNone

/-- The image of the parts taken, in its order (R169). -/
def converterImage (b : ImageBuild) : List Byte := allParts.flatMap fun k => b.parts[k].getD []

/-- A part is taken at this moment; which of the missing ones is a free choice (R157, log entry 18). -/
def takePart (s : State) : State :=
  match missingParts s.building with
  | [] => s
  | k :: ks =>
    let chosen := chooseOne s.freeCount k ks
    { s with building := { parts := put s.building.parts chosen.1 (some (converterPart chosen.1 s)), taken := true },
             freeCount := chosen.2 }

end Sys2Proof.Machine
end

