-- ==== Sys2Proof/Machine/Lookups.lean ====
section
/-! DEFINITION. Meanings of the lookups (R17, R35, R118, R157, R161, R166). Each answers and changes nothing. -/

namespace Sys2Proof.Machine

/-- The images of `n` consecutive records from a position (R17). -/
def levelImages (v : Valve) (first n : Nat) (s : State) : List Byte :=
  (List.range n).flatMap fun k =>
    match positionOf? (first + k) with
    | some p => levelImage v p (s.record v p)
    | none => []

/-- LOOK LEVEL (R1, R17). -/
def lookLevelReply (valve position : Byte) (s : State) : Reply :=
  match valveOf? valve, positionOf? position.toNat with
  | some v, some p => image (levelImage v p (s.record v p))
  | _, _ => plain .badKey

/-- LOOK LEVELS: BAD VALUE for the count before BAD KEY (R1, R17). -/
def lookLevelsReply (valve first count : Byte) (s : State) : Reply :=
  if count.toNat < 1 || 8 < count.toNat then plain .badValue
  else match valveOf? valve, positionOf? first.toNat, positionOf? (first.toNat + count.toNat - 1) with
    | some v, some _, some _ => image (levelImages v first.toNat count.toNat s)
    | _, _, _ => plain .badKey

/-- LOOK VALVE (R35). -/
def lookValveReply (valve : Byte) (s : State) : Reply :=
  match valveOf? valve with
  | some v => image (valveImage v s)
  | none => plain .badKey

/-- LOOK PAGE (R118). -/
def lookPageReply (selector : Byte) (s : State) : Reply :=
  match selector.toNat with
  | 0 => image (pageImage s.schedule.live s.livePage s.schedule)
  | 1 => image (pageImage (otherPage s.schedule.live) s.stagedPage s.schedule)
  | _ => plain .badValue

/-- LOOK SETTING (R166). -/
def lookSettingReply (code valve : Byte) (s : State) : Reply :=
  match settingOf? code with
  | none => plain .badKey
  | some σ =>
    match σ.perValve, valveOf? valve with
    | true, none => plain .badKey
    | _, v => image (settingImage σ (v.getD 0) s)

/-- LOOK NOTICES, of the requesting port (R161). -/
def lookNoticesReply (p : Port) (s : State) : Reply := image (noticesImage (s.port p))

/-- A claim that answers and changes nothing. -/
def readOnly (reply : State → Reply) (s : State) : State × Option Reply := (s, some (reply s))

/-- LOOK CONVERTER, a moment of its execution (R157): one part is taken, and with the last one the image answers the
request. A moment at which a part was taken already gives no second one. -/
def lookConverterMoment (p : Port) (s : State) : State :=
  if s.building.taken then s
  else
    let s1 := takePart s
    match missingParts s1.building with
    | [] => conclude p ({ s1 with building := ImageBuild.empty }, some (image (converterImage s1.building)))
    | _ :: _ => s1

/-- LOOK_LEVEL (R17). -/
def execLookLevel (q : Sender) (valve position : Byte) (s : State) : Host.Outcome State Fault Refusal :=
  serveClaim (.lookLevel q valve position) q.port (readOnly (lookLevelReply valve position)) s

/-- LOOK_LEVELS (R17). -/
def execLookLevels (q : Sender) (valve first count : Byte) (s : State) : Host.Outcome State Fault Refusal :=
  serveClaim (.lookLevels q valve first count) q.port (readOnly (lookLevelsReply valve first count)) s

/-- LOOK_VALVE (R35). -/
def execLookValve (q : Sender) (valve : Byte) (s : State) : Host.Outcome State Fault Refusal :=
  serveClaim (.lookValve q valve) q.port (readOnly (lookValveReply valve)) s

/-- LOOK_CONVERTER (R157). -/
def execLookConverter (q : Sender) (s : State) : Host.Outcome State Fault Refusal :=
  powered (serve (.lookConverter q) (lookConverterMoment q.port)) s

/-- LOOK_PAGE (R118). -/
def execLookPage (q : Sender) (selector : Byte) (s : State) : Host.Outcome State Fault Refusal :=
  serveClaim (.lookPage q selector) q.port (readOnly (lookPageReply selector)) s

/-- LOOK_SETTING (R166). -/
def execLookSetting (q : Sender) (code valve : Byte) (s : State) : Host.Outcome State Fault Refusal :=
  serveClaim (.lookSetting q code valve) q.port (readOnly (lookSettingReply code valve)) s

/-- LOOK_NOTICES (R161). -/
def execLookNotices (q : Sender) (s : State) : Host.Outcome State Fault Refusal :=
  serveClaim (.lookNotices q) q.port (readOnly (lookNoticesReply q.port)) s

end Sys2Proof.Machine
end

