-- ==== Sys2Proof/Machine/NoticeRequests.lean ====
section
/-! DEFINITION. Meanings of the requests that change notices (R161). -/

namespace Sys2Proof.Machine

/-- The named flags of the requesting port's set are cleared (R161). -/
def clearNoticesClaim (p : Port) (flags : BitVec 10) (s : State) : State × Option Reply :=
  (s.setPort p { s.port p with flags := (s.port p).flags &&& ~~~flags }, some (plain .done))

/-- The requesting port's mask is replaced (R161). -/
def setMaskClaim (p : Port) (mask : BitVec 10) (s : State) : State × Option Reply :=
  (s.setPort p { s.port p with mask := mask }, some (plain .done))

/-- CLEAR_NOTICES (R161). -/
def execClearNotices (q : Sender) (flags : BitVec 10) (s : State) : Host.Outcome State Fault Refusal :=
  serveClaim (.clearNotices q flags) q.port (clearNoticesClaim q.port flags) s

/-- SET_NOTICE_MASK (R161). -/
def execSetNoticeMask (q : Sender) (mask : BitVec 10) (s : State) : Host.Outcome State Fault Refusal :=
  serveClaim (.setNoticeMask q mask) q.port (setMaskClaim q.port mask) s

end Sys2Proof.Machine
end

