-- ==== Sys2Proof/Machine/PhaseEvents.lean ====
section
/-! DEFINITION. Meanings of the events of the Phase Unit, and of the cases of a step event that have rows of their
own (R81, R90 to R104, R113, R115, R125 to R131). -/

namespace Sys2Proof.Machine

/-- REFERENCE_CROSSING (R90). -/
def execReferenceCrossing (since : Nat) (s : State) : Host.Outcome State Fault Refusal :=
  powered (referenceCrossing since) s

/-- MISSED_CROSSING (R90). -/
def execMissedCrossing (s : State) : Host.Outcome State Fault Refusal := powered missedCrossing s

/-- PHASE_LOST: the missed crossing that takes the hold count above the hold limit (R102, R103). -/
def execPhaseLost (s : State) : Host.Outcome State Fault Refusal := powered (whenDue lossDue missedCrossing) s

/-- PHASE_STEP_EVENT (R92). -/
def execPhaseStepEvent (s : State) : Host.Outcome State Fault Refusal := powered stepEvent s

/-- PHASE_CORRECTION: the step event that carries a correction (R97). -/
def execPhaseCorrection (s : State) : Host.Outcome State Fault Refusal :=
  powered (whenDue phaseCorrectionDue stepEvent) s

/-- RECOVERY_COMPLETE: the cycle start at which the recovery count reaches its setting (R125). -/
def execRecoveryComplete (s : State) : Host.Outcome State Fault Refusal :=
  powered (whenDue recoveryDue stepEvent) s

/-- COMMUTATION_TRIP: the cycle start at which the commutation-failure run reaches its limit (R125, R133). -/
def execCommutationTrip (s : State) : Host.Outcome State Fault Refusal :=
  powered (whenDue commutationTripDue stepEvent) s

/-- RETARD_EXPIRY: the cycle start at which the retard count reaches its setting (R126, R128). -/
def execRetardExpiry (s : State) : Host.Outcome State Fault Refusal :=
  powered (whenDue retardExpiryDue stepEvent) s

/-- DEIONIZATION_END: the cycle start at which the deionization count reaches its setting (R126, R129). -/
def execDeionizationEnd (s : State) : Host.Outcome State Fault Refusal :=
  powered (whenDue deionizationEndDue stepEvent) s

/-- BYPASS_EXPIRY: the cycle start at which the bypass count reaches its setting (R126, R131). -/
def execBypassExpiry (s : State) : Host.Outcome State Fault Refusal :=
  powered (whenDue bypassExpiryDue stepEvent) s

/-- BYPASS_OCCASION: the step event that is a bypass occasion (R131, R147). -/
def execBypassOccasion (s : State) : Host.Outcome State Fault Refusal :=
  powered (whenDue bypassOccasionDue stepEvent) s

/-- SWEEP_OCCASION: the cycle start at which the sweep timer reaches the sweep interval (R81). -/
def execSweepOccasion (s : State) : Host.Outcome State Fault Refusal :=
  powered (whenDue sweepOccasionDue stepEvent) s

/-- DEFERRED_SWAP: the cycle start, or the loss of the phase, that makes the pending swap (R113 to R115). -/
def execDeferredSwap (occasion : SwapOccasion) (s : State) : Host.Outcome State Fault Refusal :=
  match occasion with
  | .cycleStart => powered (whenDue swapDueAtCycleStart stepEvent) s
  | .phaseLost => powered (whenDue swapDueAtLoss missedCrossing) s

end Sys2Proof.Machine
end

