-- ==== Sys2Proof/Machine/RecordRequests.lean ====
section
/-! DEFINITION. Meanings of the requests that change records, and of CHECK (R7 to R14, R80). -/

namespace Sys2Proof.Machine

/-- ADMIT: BAD KEY, then BAD VALUE for a tag of 0, then the claim (R7, R168, log entry 15). -/
def admitClaim (valve position : Byte) (cls : Option EmitClass) (tag : Option Word24) (s : State) :
    State × Option Reply :=
  match valveOf? valve, positionOf? position.toNat with
  | some v, some p =>
    if tag = some 0 then (s, some (plain .badValue)) else changeClaim v p none (admitChange cls tag) s
  | _, _ => (s, some (plain .badKey))

/-- ADMIT (R7). -/
def execAdmit (q : Sender) (valve position : Byte) (cls : Option EmitClass) (unitTag : Option Word24) (s : State) :
    Host.Outcome State Fault Refusal :=
  serveClaim (.admitLevel q valve position cls unitTag) q.port (admitClaim valve position cls unitTag) s

/-- AMEND without an action (R8). -/
def execAmend (q : Sender) (valve position : Byte) (cls : Option EmitClass) (tagChange : Option Word24)
    (expected : Option Word16) (s : State) : Host.Outcome State Fault Refusal :=
  serveClaim (.amend q valve position cls tagChange expected) q.port
    (keyedChange valve position expected (amendChange cls tagChange)) s

/-- AMEND with CLEAR (R9). -/
def execAmendClear (q : Sender) (valve position : Byte) (cls : Option EmitClass) (tagChange : Option Word24)
    (expected : Option Word16) (s : State) : Host.Outcome State Fault Refusal :=
  serveClaim (.amendClear q valve position cls tagChange expected) q.port
    (keyedChange valve position expected (clearChange cls tagChange)) s

/-- AMEND with REPROVE (R10). -/
def execAmendReprove (q : Sender) (valve position : Byte) (cls : Option EmitClass) (tagChange : Option Word24)
    (expected : Option Word16) (s : State) : Host.Outcome State Fault Refusal :=
  serveClaim (.amendReprove q valve position cls tagChange expected) q.port
    (keyedChange valve position expected (reproveChange cls tagChange)) s

/-- RETIRE (R11). -/
def execRetire (q : Sender) (valve position : Byte) (reason : RetireReason) (expected : Option Word16) (s : State) :
    Host.Outcome State Fault Refusal :=
  serveClaim (.retire q valve position reason expected) q.port
    (keyedChange valve position expected (retireChange reason)) s

/-- CHECK (R80). -/
def execCheck (q : Sender) (valve first count : Byte) (s : State) : Host.Outcome State Fault Refusal :=
  serveClaim (.check q valve first count) q.port (checkClaim valve first count) s

end Sys2Proof.Machine
end

