-- ==== Sys2Proof/Machine/SettingRequests.lean ====
section
/-! DEFINITION. Meanings of the thirty-three SET rows (R165). -/

namespace Sys2Proof.Machine

/-- SET_MISS_LIMIT (R165). -/
def execSetMissLimit (q : Sender) (value : Word16) (s : State) : Host.Outcome State Fault Refusal :=
  serveClaim (.setMissLimit q value) q.port (setClaim .missLimit 0 value) s

/-- SET_DARK_LIMIT (R165). -/
def execSetDarkLimit (q : Sender) (value : Word16) (s : State) : Host.Outcome State Fault Refusal :=
  serveClaim (.setDarkLimit q value) q.port (setClaim .darkLimit 0 value) s

/-- SET_PROVING_COUNT (R165). -/
def execSetProvingCount (q : Sender) (value : Word16) (s : State) : Host.Outcome State Fault Refusal :=
  serveClaim (.setProvingCount q value) q.port (setClaim .provingCount 0 value) s

/-- SET_CLEAR_COUNT (R165). -/
def execSetClearCount (q : Sender) (value : Word16) (s : State) : Host.Outcome State Fault Refusal :=
  serveClaim (.setClearCount q value) q.port (setClaim .clearCount 0 value) s

/-- SET_WINDOW_LOW (R165). -/
def execSetWindowLow (q : Sender) (value : Word16) (s : State) : Host.Outcome State Fault Refusal :=
  serveClaim (.setWindowLow q value) q.port (setClaim .windowLow 0 value) s

/-- SET_WINDOW_HIGH (R165). -/
def execSetWindowHigh (q : Sender) (value : Word16) (s : State) : Host.Outcome State Fault Refusal :=
  serveClaim (.setWindowHigh q value) q.port (setClaim .windowHigh 0 value) s

/-- SET_MINIMUM_SOUND (R165). -/
def execSetMinimumSound (q : Sender) (valve : Byte) (value : Word16) (s : State) : Host.Outcome State Fault Refusal :=
  serveClaim (.setMinimumSound q valve value) q.port (setClaim .minimumSound valve value) s

/-- SET_RESERVE (R165). -/
def execSetReserve (q : Sender) (valve : Byte) (value : Word16) (s : State) : Host.Outcome State Fault Refusal :=
  serveClaim (.setReserve q valve value) q.port (setClaim .reserve valve value) s

/-- SET_WORD_INTERVAL_CODE (R165). -/
def execSetWordIntervalCode (q : Sender) (value : Word16) (s : State) : Host.Outcome State Fault Refusal :=
  serveClaim (.setWordIntervalCode q value) q.port (setClaim .wordIntervalCode 0 value) s

/-- SET_CYCLE_PRIORITY (R165). -/
def execSetCyclePriority (q : Sender) (value : Word16) (s : State) : Host.Outcome State Fault Refusal :=
  serveClaim (.setCyclePriority q value) q.port (setClaim .cyclePriority 0 value) s

/-- SET_DIRECTED_PRIORITY (R165). -/
def execSetDirectedPriority (q : Sender) (value : Word16) (s : State) : Host.Outcome State Fault Refusal :=
  serveClaim (.setDirectedPriority q value) q.port (setClaim .directedPriority 0 value) s

/-- SET_SWEEP_PRIORITY (R165). -/
def execSetSweepPriority (q : Sender) (value : Word16) (s : State) : Host.Outcome State Fault Refusal :=
  serveClaim (.setSweepPriority q value) q.port (setClaim .sweepPriority 0 value) s

/-- SET_SWEEP_ENABLE (R165). -/
def execSetSweepEnable (q : Sender) (value : Word16) (s : State) : Host.Outcome State Fault Refusal :=
  serveClaim (.setSweepEnable q value) q.port (setClaim .sweepEnable 0 value) s

/-- SET_SWEEP_INTERVAL (R165). -/
def execSetSweepInterval (q : Sender) (value : Word16) (s : State) : Host.Outcome State Fault Refusal :=
  serveClaim (.setSweepInterval q value) q.port (setClaim .sweepInterval 0 value) s

/-- SET_PRE_EMPTION (R165). -/
def execSetPreEmption (q : Sender) (value : Word16) (s : State) : Host.Outcome State Fault Refusal :=
  serveClaim (.setPreEmption q value) q.port (setClaim .preEmption 0 value) s

/-- SET_REFERENCE_OFFSET (R165). -/
def execSetReferenceOffset (q : Sender) (value : Word16) (s : State) : Host.Outcome State Fault Refusal :=
  serveClaim (.setReferenceOffset q value) q.port (setClaim .referenceOffset 0 value) s

/-- SET_DISTURBANCE_GEAR (R165). -/
def execSetDisturbanceGear (q : Sender) (value : Word16) (s : State) : Host.Outcome State Fault Refusal :=
  serveClaim (.setDisturbanceGear q value) q.port (setClaim .disturbanceGear 0 value) s

/-- SET_HOLD_LIMIT (R165). -/
def execSetHoldLimit (q : Sender) (value : Word16) (s : State) : Host.Outcome State Fault Refusal :=
  serveClaim (.setHoldLimit q value) q.port (setClaim .holdLimit 0 value) s

/-- SET_ALPHA_MIN (R165). -/
def execSetAlphaMin (q : Sender) (value : Word16) (s : State) : Host.Outcome State Fault Refusal :=
  serveClaim (.setAlphaMin q value) q.port (setClaim .alphaMin 0 value) s

/-- SET_ALPHA_MAX (R165). -/
def execSetAlphaMax (q : Sender) (value : Word16) (s : State) : Host.Outcome State Fault Refusal :=
  serveClaim (.setAlphaMax q value) q.port (setClaim .alphaMax 0 value) s

/-- SET_RETARD_ANGLE (R165). -/
def execSetRetardAngle (q : Sender) (value : Word16) (s : State) : Host.Outcome State Fault Refusal :=
  serveClaim (.setRetardAngle q value) q.port (setClaim .retardAngle 0 value) s

/-- SET_RAMP_RATE (R165). -/
def execSetRampRate (q : Sender) (value : Word16) (s : State) : Host.Outcome State Fault Refusal :=
  serveClaim (.setRampRate q value) q.port (setClaim .rampRate 0 value) s

/-- SET_RETARD_CYCLES (R165). -/
def execSetRetardCycles (q : Sender) (value : Word16) (s : State) : Host.Outcome State Fault Refusal :=
  serveClaim (.setRetardCycles q value) q.port (setClaim .retardCycles 0 value) s

/-- SET_DEIONIZATION_CYCLES (R165). -/
def execSetDeionizationCycles (q : Sender) (value : Word16) (s : State) : Host.Outcome State Fault Refusal :=
  serveClaim (.setDeionizationCycles q value) q.port (setClaim .deionizationCycles 0 value) s

/-- SET_RESTART_LIMIT (R165). -/
def execSetRestartLimit (q : Sender) (value : Word16) (s : State) : Host.Outcome State Fault Refusal :=
  serveClaim (.setRestartLimit q value) q.port (setClaim .restartLimit 0 value) s

/-- SET_RECOVERY_CYCLES (R165). -/
def execSetRecoveryCycles (q : Sender) (value : Word16) (s : State) : Host.Outcome State Fault Refusal :=
  serveClaim (.setRecoveryCycles q value) q.port (setClaim .recoveryCycles 0 value) s

/-- SET_BYPASS_CYCLES (R165). -/
def execSetBypassCycles (q : Sender) (value : Word16) (s : State) : Host.Outcome State Fault Refusal :=
  serveClaim (.setBypassCycles q value) q.port (setClaim .bypassCycles 0 value) s

/-- SET_COMMUTATION_FAILURE_ADVANCE (R165). -/
def execSetCommutationFailureAdvance (q : Sender) (value : Word16) (s : State) : Host.Outcome State Fault Refusal :=
  serveClaim (.setCommutationFailureAdvance q value) q.port (setClaim .cfAdvance 0 value) s

/-- SET_COMMUTATION_FAILURE_HOLD (R165). -/
def execSetCommutationFailureHold (q : Sender) (value : Word16) (s : State) : Host.Outcome State Fault Refusal :=
  serveClaim (.setCommutationFailureHold q value) q.port (setClaim .cfHold 0 value) s

/-- SET_COMMUTATION_FAILURE_LIMIT (R165). -/
def execSetCommutationFailureLimit (q : Sender) (value : Word16) (s : State) : Host.Outcome State Fault Refusal :=
  serveClaim (.setCommutationFailureLimit q value) q.port (setClaim .cfLimit 0 value) s

/-- SET_STANDARD_ON_TIME (R165). -/
def execSetStandardOnTime (q : Sender) (value : Word16) (s : State) : Host.Outcome State Fault Refusal :=
  serveClaim (.setStandardOnTime q value) q.port (setClaim .standardOnTime 0 value) s

/-- SET_LONG_ON_TIME (R165). -/
def execSetLongOnTime (q : Sender) (value : Word16) (s : State) : Host.Outcome State Fault Refusal :=
  serveClaim (.setLongOnTime q value) q.port (setClaim .longOnTime 0 value) s

/-- SET_SPREAD_LIMIT (R165). -/
def execSetSpreadLimit (q : Sender) (value : Word16) (s : State) : Host.Outcome State Fault Refusal :=
  serveClaim (.setSpreadLimit q value) q.port (setClaim .spreadLimit 0 value) s

end Sys2Proof.Machine
end

