-- ==== Sys2Proof/Machine/StationLines.lean ====
section
/-! DEFINITION. Meanings of the station-line events (R128, R136, R155, R158, R167). -/

namespace Sys2Proof.Machine

def setLines (lines : Lines) (s : State) : State := { s with lines := lines }

/-- Every window is closed (R122, R136). -/
def closeWindows (s : State) : State :=
  { s with seq := { s.seq with windows := Vector.replicate 12 .closed } }

/-- The assertion of the BLOCK line as the sequencer and the lanes take it (R136, R145). -/
def takeBlockAssertion (s : State) : State := cutLanes (closeWindows (stopAtOnce s))

/-- The LINEFAULT edge as the sequencer takes it (R128). -/
def takeLineFault (s : State) : State :=
  match s.seq.conv with
  | .ramping | .running => enterRetarded .deionizing s
  | _ => s

/-- POWER_ON_RESET: the POR line is released and every block starts from its power-on values (R167). -/
def execPowerOnReset (s : State) : Host.Outcome State Fault Refusal :=
  .next (powerOn { s.lines with porLow := false } s)

/-- POR_ASSERTED: the POR line goes low and holds the part in power-on reset (R167). -/
def execPorAsserted (s : State) : Host.Outcome State Fault Refusal :=
  .next (powerOn { s.lines with porLow := true } s)

/-- RESTART_PULSE: one control reset (R167). -/
def execRestartPulse (s : State) : Host.Outcome State Fault Refusal := powered (controlReset none) s

/-- BLOCK_LINE_ASSERTED: the rising edge (R136). A line already high makes none (log entry 22); while POR is low
the level alone is followed (R167, log entry 10). -/
def execBlockLineAsserted (s : State) : Host.Outcome State Fault Refusal :=
  .next (if s.lines.block then s
    else
      let s1 := setLines { s.lines with block := true } s
      if s.lines.porLow then s1 else takeBlockAssertion s1)

/-- BLOCK_LINE_RELEASED: the falling edge changes no state but the level that DEBLOCK reads (R136, R167). -/
def execBlockLineReleased (s : State) : Host.Outcome State Fault Refusal :=
  .next (setLines { s.lines with block := false } s)

/-- LINEFAULT_EDGE: the rising edge (R128). A line already high makes none (log entry 22); while POR is low the
level alone is followed. -/
def execLinefaultEdge (s : State) : Host.Outcome State Fault Refusal :=
  .next (if s.lines.linefault then s
    else
      let s1 := setLines { s.lines with linefault := true } s
      if s.lines.porLow then s1 else takeLineFault s1)

/-- LINEFAULT_RELEASED: the level that LOOK CONVERTER reports falls (R138). -/
def execLinefaultReleased (s : State) : Host.Outcome State Fault Refusal :=
  .next (setLines { s.lines with linefault := false } s)

/-- AUTH_SEL_CHANGE: the line names a port; requests already begun are not touched (R155). -/
def execAuthSelChange (named : Port) (s : State) : Host.Outcome State Fault Refusal :=
  .next (setLines { s.lines with authSel := named } s)

end Sys2Proof.Machine
end

