-- ==== Sys2Proof/Machine/Transfers.lean ====
section
/-! DEFINITION. Meaning of a transfer on a request port (R151, R152). -/

namespace Sys2Proof.Machine

/-- TRANSFER (R151, R152). -/
def execTransfer (port : Port) (part : TransferPart) (s : State) : Host.Outcome State Fault Refusal :=
  powered (transferEvent port part) s

end Sys2Proof.Machine
end

