-- ==== Sys2Proof/Machine/Dispatch.lean ====
section
/-! DEFINITION. One arm per command: its meaning. -/

namespace Sys2Proof.Machine

def exec (i : Instr) (s : State) : Host.Outcome State Fault Refusal :=
  match i with
  | .powerOnReset => Sys2Proof.Machine.execPowerOnReset s
  | .restartPulse => Sys2Proof.Machine.execRestartPulse s
  | .blockLineAsserted => Sys2Proof.Machine.execBlockLineAsserted s
  | .linefaultEdge => Sys2Proof.Machine.execLinefaultEdge s
  | .authSelChange named => Sys2Proof.Machine.execAuthSelChange named s
  | .referenceCrossing since => Sys2Proof.Machine.execReferenceCrossing since s
  | .missedCrossing => Sys2Proof.Machine.execMissedCrossing s
  | .phaseLost => Sys2Proof.Machine.execPhaseLost s
  | .phaseStepEvent => Sys2Proof.Machine.execPhaseStepEvent s
  | .phaseCorrection => Sys2Proof.Machine.execPhaseCorrection s
  | .recoveryComplete => Sys2Proof.Machine.execRecoveryComplete s
  | .commutationTrip => Sys2Proof.Machine.execCommutationTrip s
  | .retardExpiry => Sys2Proof.Machine.execRetardExpiry s
  | .deionizationEnd => Sys2Proof.Machine.execDeionizationEnd s
  | .bypassExpiry => Sys2Proof.Machine.execBypassExpiry s
  | .bypassOccasion => Sys2Proof.Machine.execBypassOccasion s
  | .sweepOccasion => Sys2Proof.Machine.execSweepOccasion s
  | .sweepCut frame => Sys2Proof.Machine.execSweepCut frame s
  | .arbiterPollStart => Sys2Proof.Machine.execArbiterPollStart s
  | .replyHeader frame => Sys2Proof.Machine.execReplyHeader frame s
  | .resultWord frame => Sys2Proof.Machine.execResultWord frame s
  | .frameError frame => Sys2Proof.Machine.execFrameError frame s
  | .deferredHold frame => Sys2Proof.Machine.execDeferredHold frame s
  | .wordIntervalEnd => Sys2Proof.Machine.execWordIntervalEnd s
  | .replyTimeout => Sys2Proof.Machine.execReplyTimeout s
  | .wordTimeout => Sys2Proof.Machine.execWordTimeout s
  | .linkDown => Sys2Proof.Machine.execLinkDown s
  | .onTimeEnd lane => Sys2Proof.Machine.execOnTimeEnd lane s
  | .gapEnd lane => Sys2Proof.Machine.execGapEnd lane s
  | .stopFrameEnd lane => Sys2Proof.Machine.execStopFrameEnd lane s
  | .deferredSwap occasion => Sys2Proof.Machine.execDeferredSwap occasion s
  | .transfer port part => Sys2Proof.Machine.execTransfer port part s
  | .lookLevel q valve position => Sys2Proof.Machine.execLookLevel q valve position s
  | .lookLevels q valve first count => Sys2Proof.Machine.execLookLevels q valve first count s
  | .lookValve q valve => Sys2Proof.Machine.execLookValve q valve s
  | .lookConverter q => Sys2Proof.Machine.execLookConverter q s
  | .lookPage q selector => Sys2Proof.Machine.execLookPage q selector s
  | .lookSetting q code valve => Sys2Proof.Machine.execLookSetting q code valve s
  | .lookNotices q => Sys2Proof.Machine.execLookNotices q s
  | .admitLevel q valve position cls unitTag => Sys2Proof.Machine.execAdmit q valve position cls unitTag s
  | .amend q valve position cls tagChange expected => Sys2Proof.Machine.execAmend q valve position cls tagChange expected s
  | .amendClear q valve position cls tagChange expected => Sys2Proof.Machine.execAmendClear q valve position cls tagChange expected s
  | .amendReprove q valve position cls tagChange expected => Sys2Proof.Machine.execAmendReprove q valve position cls tagChange expected s
  | .retire q valve position reason expected => Sys2Proof.Machine.execRetire q valve position reason expected s
  | .check q valve first count => Sys2Proof.Machine.execCheck q valve first count s
  | .order q parts => Sys2Proof.Machine.execOrder q parts s
  | .swap q => Sys2Proof.Machine.execSwap q s
  | .deblock q => Sys2Proof.Machine.execDeblock q s
  | .block q => Sys2Proof.Machine.execBlock q s
  | .retard q => Sys2Proof.Machine.execRetard q s
  | .bypass q => Sys2Proof.Machine.execBypass q s
  | .clearTrip q => Sys2Proof.Machine.execClearTrip q s
  | .trim q insert suppress => Sys2Proof.Machine.execTrim q insert suppress s
  | .holdLink q => Sys2Proof.Machine.execHoldLink q s
  | .releaseLink q => Sys2Proof.Machine.execReleaseLink q s
  | .restart q => Sys2Proof.Machine.execRestart q s
  | .clearNotices q flags => Sys2Proof.Machine.execClearNotices q flags s
  | .setNoticeMask q mask => Sys2Proof.Machine.execSetNoticeMask q mask s
  | .setMissLimit q value => Sys2Proof.Machine.execSetMissLimit q value s
  | .setDarkLimit q value => Sys2Proof.Machine.execSetDarkLimit q value s
  | .setProvingCount q value => Sys2Proof.Machine.execSetProvingCount q value s
  | .setClearCount q value => Sys2Proof.Machine.execSetClearCount q value s
  | .setWindowLow q value => Sys2Proof.Machine.execSetWindowLow q value s
  | .setWindowHigh q value => Sys2Proof.Machine.execSetWindowHigh q value s
  | .setMinimumSound q valve value => Sys2Proof.Machine.execSetMinimumSound q valve value s
  | .setReserve q valve value => Sys2Proof.Machine.execSetReserve q valve value s
  | .setWordIntervalCode q value => Sys2Proof.Machine.execSetWordIntervalCode q value s
  | .setCyclePriority q value => Sys2Proof.Machine.execSetCyclePriority q value s
  | .setDirectedPriority q value => Sys2Proof.Machine.execSetDirectedPriority q value s
  | .setSweepPriority q value => Sys2Proof.Machine.execSetSweepPriority q value s
  | .setSweepEnable q value => Sys2Proof.Machine.execSetSweepEnable q value s
  | .setSweepInterval q value => Sys2Proof.Machine.execSetSweepInterval q value s
  | .setPreEmption q value => Sys2Proof.Machine.execSetPreEmption q value s
  | .setReferenceOffset q value => Sys2Proof.Machine.execSetReferenceOffset q value s
  | .setDisturbanceGear q value => Sys2Proof.Machine.execSetDisturbanceGear q value s
  | .setHoldLimit q value => Sys2Proof.Machine.execSetHoldLimit q value s
  | .setAlphaMin q value => Sys2Proof.Machine.execSetAlphaMin q value s
  | .setAlphaMax q value => Sys2Proof.Machine.execSetAlphaMax q value s
  | .setRetardAngle q value => Sys2Proof.Machine.execSetRetardAngle q value s
  | .setRampRate q value => Sys2Proof.Machine.execSetRampRate q value s
  | .setRetardCycles q value => Sys2Proof.Machine.execSetRetardCycles q value s
  | .setDeionizationCycles q value => Sys2Proof.Machine.execSetDeionizationCycles q value s
  | .setRestartLimit q value => Sys2Proof.Machine.execSetRestartLimit q value s
  | .setRecoveryCycles q value => Sys2Proof.Machine.execSetRecoveryCycles q value s
  | .setBypassCycles q value => Sys2Proof.Machine.execSetBypassCycles q value s
  | .setCommutationFailureAdvance q value => Sys2Proof.Machine.execSetCommutationFailureAdvance q value s
  | .setCommutationFailureHold q value => Sys2Proof.Machine.execSetCommutationFailureHold q value s
  | .setCommutationFailureLimit q value => Sys2Proof.Machine.execSetCommutationFailureLimit q value s
  | .setStandardOnTime q value => Sys2Proof.Machine.execSetStandardOnTime q value s
  | .setLongOnTime q value => Sys2Proof.Machine.execSetLongOnTime q value s
  | .setSpreadLimit q value => Sys2Proof.Machine.execSetSpreadLimit q value s
  | .blockLineReleased => Sys2Proof.Machine.execBlockLineReleased s
  | .linefaultReleased => Sys2Proof.Machine.execLinefaultReleased s
  | .porAsserted => Sys2Proof.Machine.execPorAsserted s

end Sys2Proof.Machine
end

