-- ==== Sys2Proof/Safety.lean ====
section
/-! DEFINITION. The vocabulary of the statements: what a request's execution leaves, and the invariants that every
step is to keep. -/

namespace Sys2Proof.Machine

/-! ### Executions of requests -/

/-- The part is powered and its request engine is executing exactly this request of this sender. -/
def Executing (i : Instr) (q : Sender) (s : State) : Prop := s.lines.porLow = false ∧ begun i q.port s = true

/-- The port holds this reply to the request that `s` holds in the port's slot, with the request's kind and tag, and
no request (R153, R156). -/
def Answered (q : Sender) (r : Reply) (s t : State) : Prop :=
  (t.port q.port).state = .answered ∧ (t.port q.port).request = none ∧
  (t.port q.port).answer.map (fun a => (a.tag, a.code, a.reason, a.payload)) = some (q.tag, r.code, r.reason, r.payload) ∧
  (t.port q.port).answer.map Answer.kind = (s.port q.port).request.map Frame.kind

/-- Everything of the state but the ports, the engine and the model's counter of free values. -/
structure Blocks where
  table    : Vector (Vector LevelRecord 96) 12
  tallies  : Vector Tally 12
  settings : Settings
  link     : Link
  sources  : Sources
  phase    : Phase
  schedule : Schedule
  seq      : Sequencer
  lanes    : Vector Lane 12
  building : ImageBuild
  lines    : Lines
  pending  : List Instr
  deriving DecidableEq, Repr

/-- The blocks of a state. -/
def State.blocks (s : State) : Blocks :=
  { table := s.table, tallies := s.tallies, settings := s.settings, link := s.link, sources := s.sources,
    phase := s.phase, schedule := s.schedule, seq := s.seq, lanes := s.lanes, building := s.building,
    lines := s.lines, pending := s.pending }

/-- What of a port the execution of a request leaves but for its notices: everything outside the slots. -/
structure PortRest where
  refused    : Bool
  transfer   : Option Transfer
  flags      : BitVec 10
  mask       : BitVec 10
  shiftedOut : List Byte
  deriving DecidableEq, Repr

def PortUnit.rest (u : PortUnit) : PortRest :=
  { refused := u.refused, transfer := u.transfer, flags := u.flags, mask := u.mask, shiftedOut := u.shiftedOut }

/-- `t` has the blocks of `u`, and of the ports everything outside the slots: what a claim changed is what `u` shows. -/
def SameBlocks (u t : State) : Prop := t.blocks = u.blocks ∧ t.portA.rest = u.portA.rest ∧ t.portB.rest = u.portB.rest

/-- The request engine is free, and no other request waits for it, in `t`; the other port is as in `u` (R153). -/
def EngineFree (q : Sender) (u t : State) : Prop :=
  t.engine = { busy := false, last := q.port } ∧ t.port (otherPort q.port) = u.port (otherPort q.port)

/-- The execution of a request by its sender answers `r` and leaves the part as `u` shows it; where no request of the
other port waits, the engine is then free and the other port untouched (R153, R156). -/
def Completes (c : Instr) (q : Sender) (u : State) (r : Reply) (s : State) : Prop :=
  ∃ t, exec c s = .next t ∧ SameBlocks u t ∧ Answered q r s t ∧ (waits (otherPort q.port) s = false → EngineFree q u t)

/-- The execution of a request ends without an answer: its port goes on holding it (R153). -/
def LeftWaiting (c : Instr) (q : Sender) (u : State) (s : State) : Prop :=
  ∃ t, exec c s = .next t ∧ SameBlocks u t ∧ t.port q.port = s.port q.port ∧
    (waits (otherPort q.port) s = false → EngineFree q u t)

/-- An answer is placed on a port outside any execution: the request that the port held is answered (R153). -/
def OwnerAnswered (p : Port) (s t : State) : Prop :=
  ∀ f g, (s.port p).request = some f → f.tag = some g → Answered { port := p, tag := g } (plain .done) s t

/-! ### Changes of the converter state, spelled out (R120, R122, R128, R131, R132) -/

/-- The commutation-failure items at 0, clear and absent. -/
def withoutFailures (q : Sequencer) : Sequencer :=
  { q with cfHold := 0, cfRun := 0, cfMark := false, lastFailure := none, freshTrip := false, recovery := 0 }

/-- Every window CLOSED. -/
def allClosed (q : Sequencer) : Sequencer := { q with windows := Vector.replicate 12 .closed }

/-- RETARDED with an exit target and retard count 0; the windows stay. -/
def retardedWith (x : ExitTarget) (q : Sequencer) : Sequencer :=
  { withoutFailures q with conv := .retarded, exitTarget := some x, retardCount := 0 }

/-- BYPASSING with an exit target, bypass count 0 and bypass spacing 0; the windows closed. -/
def bypassingWith (x : ExitTarget) (q : Sequencer) : Sequencer :=
  { allClosed (withoutFailures q) with
      conv := .bypassing, exitTarget := some x, bypassCount := 0, bypassSpacing := 0, bypassEntry := true }

/-- DEIONIZING with deionization count 0; the windows closed. -/
def deionizingFrom (q : Sequencer) : Sequencer :=
  { allClosed (withoutFailures q) with conv := .deionizing, exitTarget := none, deionCount := 0 }

/-- BLOCKED or TRIPPED, with attempts used 0; the windows closed. -/
def stoppedAs (c : Conv) (q : Sequencer) : Sequencer :=
  { allClosed (withoutFailures q) with conv := c, exitTarget := none, attempts := 0 }

/-- A change of the sequencer that is a change of converter state or exit target: CONVERTER is set (R120). -/
def converterChange (f : Sequencer → Sequencer) (s : State) : State :=
  setNotice .converter { s with seq := f s.seq }

/-- Such a change out of the firing states: the lanes are cut with it (R145). -/
def converterStop (f : Sequencer → Sequencer) (s : State) : State :=
  converterChange f { s with lanes := mapEntries cutLane s.lanes }

/-- The trip latched with its cause, as a stop toward TRIPPED finds it (R133). -/
def latched (cause : TripCause) (q : Sequencer) : Sequencer :=
  { q with tripLatch := true, tripCause := some cause }

/-- A PENDING converter is BLOCKED by a lock state change out of LOCKED; any other stays (R127, R137). -/
def stopPending (s : State) : State :=
  if s.seq.conv = .pending then converterChange (stoppedAs .blocked) s else s

/-- A firing lane's valve takes one burst request (R141, R142): a busy lane raises its drop count, an idle one lights
the lowest active bank of the composition latched now, if there is one. -/
def laneTakes (v : Valve) (s : State) (l : Lane) : Lane :=
  match l.state with
  | .idle =>
    match activeFrom (compose v s) 0 with
    | some b => lightBank (compose v s) b l
    | none => l
  | .lit | .gap | .stopping => { l with drops := min (l.drops + 1) 255 }

/-- A valve's check point is passed by the next step event (R75). -/
def checkPassed (v : Valve) (s : State) : Bool := decide (checkValue s.sources.armed v ∈ passedNext s.phase)

/-- The next step event raises a cycle request for a valve (R76). -/
def requestRaised (v : Valve) (s : State) : Bool :=
  checkPassed v s && chainRuns s.phase.lock && decide (0 < (s.tally v).top)

/-- The valves that join the cycle queue at the next step event, in order (R75, R76). -/
def joining (s : State) : List Valve :=
  (passedNext s.phase).flatMap fun x => allValves.filter fun v =>
    decide (checkValue s.sources.armed v = x) && requestRaised v s && !decide (v ∈ s.sources.cycleQueue)

/-- The commutation-failure hold and run after a cycle start's first work (R125, steps 1 and 2). -/
def failuresCounted (q : Sequencer) : Sequencer :=
  { q with cfHold := q.cfHold - 1, cfRun := if q.cfMark then min (q.cfRun + 1) 15 else 0, cfMark := false }

/-- What no phase step event touches. -/
def StepFrame (s t : State) : Prop :=
  t.table = s.table ∧ t.tallies = s.tallies ∧ t.settings = s.settings ∧ t.building = s.building ∧ t.lines = s.lines ∧
  t.pending = s.pending ∧ t.phase.lock = s.phase.lock ∧ t.phase.interval = s.phase.interval ∧ t.phase.mark = s.phase.mark ∧
  t.phase.saved = s.phase.saved ∧ t.phase.prevAccepted = s.phase.prevAccepted ∧ t.phase.good = s.phase.good ∧
  t.phase.hold = s.phase.hold ∧ t.phase.lastError = s.phase.lastError ∧
  (∀ p, (t.port p).mask = (s.port p).mask ∧ (t.port p).transfer = (s.port p).transfer ∧
    (t.port p).refused = (s.port p).refused ∧ (t.port p).shiftedOut = (s.port p).shiftedOut)

/-- A sequencer but for its windows. -/
def apartWindows (q : Sequencer) : Sequencer := allClosed q

/-! ### Polls, spelled out (R58, R60, R63) -/

/-- The order in which the arbiter takes sources of equal priority (R84). -/
def sourceRank : PollSource → Nat
  | .cycle => 0
  | .directed => 1
  | .sweep => 2

/-- The link after the header pair of a poll is sent (R58, R71); the 1,760 ticks are the two frames and the 40 µs of the
reply timeout. -/
def telegram (source : PollSource) (kind : PollKind) (v : Valve) (first last : Nat) (l : Link) : Link :=
  { l with
    state := .header,
    poll := some { source := source, kind := kind, valve := v, first := first, last := last, next := first,
                   superseded := false },
    timer := some 1760,
    sent := [linkFrame true (firstHeaderWord kind v), linkFrame false (secondHeaderWord first (last - first + 1))] }

/-- The link on its way to the expectation word of a poll's next position (R60, R63): with word interval code 0 the word
is sent at once, its skip flag set when the record is not monitored; the 400 ticks are the frame and the 8 µs of the
word timeout. -/
def towardWord (p : Poll) (s : State) (l : Link) : Link :=
  if s.settings.wordIntervalCode = 0 then
    { l with state := .exchange, poll := some p, timer := some 400,
             sent := [linkFrame false (expectationWord p.next (skipsPosition p.valve p.next s))] }
  else { l with state := .interval, poll := some p, timer := some (intervalTicks s.settings.wordIntervalCode) }

/-- The link with a poll at its end, or held: no poll or the poll kept, nothing pending, no timer (R57). -/
def atRest (state : LinkState) (kept : Option Poll) (l : Link) : Link :=
  { l with state := state, poll := kept, holdPending := none, cutPending := false, timer := none }

/-- HELD where a hold is pending, IDLE otherwise (R64, R65, R68, R69). -/
def restState (l : Link) : LinkState := if l.holdPending.isSome then .held else .idle

/-- The pending HOLD LINK, if any, is answered DONE (R69). -/
def HoldAnswered (s t : State) : Prop := ∀ q, s.link.holdPending = some q → OwnerAnswered q s t

/-- Everything but link, sources and the ports is as it was. -/
def OffLink (s t : State) : Prop :=
  t.table = s.table ∧ t.tallies = s.tallies ∧ t.settings = s.settings ∧ t.phase = s.phase ∧
  t.schedule = s.schedule ∧ t.seq = s.seq ∧ t.lanes = s.lanes ∧ t.building = s.building ∧ t.lines = s.lines ∧
  t.pending = s.pending

/-! ### Record changes, spelled out (R4, R15) -/

/-- The flag of a notice is set in the sets of both ports. -/
def NoticeSet (n : Notice) (t : State) : Prop :=
  t.portA.flags &&& noticeBit n ≠ 0 ∧ t.portB.flags &&& noticeBit n ≠ 0

/-! ### Settings and tallies -/

/-- Every setting in its range (R164). -/
structure SettingsOk (s : State) : Prop where
  range  : ∀ σ v, σ.range.1 ≤ getSetting s.settings v σ ∧ getSetting s.settings v σ ≤ σ.range.2
  window : s.settings.windowLow < s.settings.windowHigh
  onTime : s.settings.standardOnTime ≤ s.settings.longOnTime

/-! ### The settings of R164, row by row -/

/-- A row of the table of R164. -/
structure SettingRow where
  setting  : Setting
  code     : Byte
  least    : Nat
  greatest : Nat
  default  : Nat
  perValve : Bool
  anyTime  : Bool
  deriving DecidableEq, Repr

/-- Rows 01h to 11h. -/
def settingRowsLow : List SettingRow :=
  [⟨.missLimit, 0x01, 2, 15, 3, false, true⟩,
   ⟨.darkLimit, 0x02, 2, 15, 4, false, true⟩,
   ⟨.provingCount, 0x03, 4, 31, 8, false, true⟩,
   ⟨.clearCount, 0x04, 1, 15, 4, false, true⟩,
   ⟨.windowLow, 0x05, 0, 255, 20, false, true⟩,
   ⟨.windowHigh, 0x06, 0, 255, 120, false, true⟩,
   ⟨.minimumSound, 0x07, 1, 96, 1, true, false⟩,
   ⟨.reserve, 0x08, 0, 15, 0, true, false⟩,
   ⟨.wordIntervalCode, 0x09, 0, 7, 0, false, true⟩,
   ⟨.cyclePriority, 0x0A, 0, 3, 3, false, true⟩,
   ⟨.directedPriority, 0x0B, 0, 3, 2, false, true⟩,
   ⟨.sweepPriority, 0x0C, 0, 3, 1, false, true⟩,
   ⟨.sweepEnable, 0x0D, 0, 1, 1, false, true⟩,
   ⟨.sweepInterval, 0x0E, 1, 255, 10, false, true⟩,
   ⟨.preEmption, 0x0F, 0, 1, 1, false, true⟩,
   ⟨.referenceOffset, 0x10, 0, 3599, 0, false, false⟩,
   ⟨.disturbanceGear, 0x11, 0, 3, 1, false, true⟩]

/-- Rows 12h to 21h. -/
def settingRowsHigh : List SettingRow :=
  [⟨.holdLimit, 0x12, 1, 15, 5, false, true⟩,
   ⟨.alphaMin, 0x13, 50, 900, 50, false, false⟩,
   ⟨.alphaMax, 0x14, 900, 1650, 1600, false, false⟩,
   ⟨.retardAngle, 0x15, 900, 1650, 1400, false, false⟩,
   ⟨.rampRate, 0x16, 1, 200, 20, false, false⟩,
   ⟨.retardCycles, 0x17, 1, 15, 2, false, false⟩,
   ⟨.deionizationCycles, 0x18, 2, 60, 10, false, false⟩,
   ⟨.restartLimit, 0x19, 0, 3, 2, false, false⟩,
   ⟨.recoveryCycles, 0x1A, 10, 250, 50, false, false⟩,
   ⟨.bypassCycles, 0x1B, 1, 15, 3, false, false⟩,
   ⟨.cfAdvance, 0x1C, 0, 300, 100, false, false⟩,
   ⟨.cfHold, 0x1D, 1, 15, 4, false, false⟩,
   ⟨.cfLimit, 0x1E, 2, 15, 5, false, false⟩,
   ⟨.standardOnTime, 0x1F, 1, 16, 3, false, false⟩,
   ⟨.longOnTime, 0x20, 2, 32, 6, false, false⟩,
   ⟨.spreadLimit, 0x21, 4, 64, 24, false, false⟩]

/-- The table of R164. -/
def settingRows : List SettingRow := settingRowsLow ++ settingRowsHigh

/-- How many of some records satisfy a test. -/
def countOf (test : LevelRecord → Bool) (rs : List LevelRecord) : Nat := (rs.filter test).length

/-- The highest position whose record is not EMPTY, or 0 (R6). -/
def topOf (rs : List LevelRecord) : Nat :=
  (List.range rs.length).foldl (fun t k => if (rs[k]?.map LevelRecord.life).getD .empty = .empty then t else k + 1) 0

/-- The tally as a full count of the valve's 96 records gives it (R24, R27, R31). -/
def recounted (v : Valve) (s : State) : Tally :=
  let rs := s.table[v].toList
  let life (x : Life) := countOf (fun r => decide (r.life = x)) rs
  let inBank (test : LevelRecord → Bool) (b : Bank) := countOf test (bankRecords v b s)
  let emitting := #v[inBank countsEmitting 0, inBank countsEmitting 1, inBank countsEmitting 2,
    inBank countsEmitting 3]
  let long := #v[inBank countsLong 0, inBank countsLong 1, inBank countsLong 2, inBank countsLong 3]
  { counts := #v[life .empty, life .proving, life .serving, life .suspect, life .shorted, life .dark, life .retired],
    sound := life .serving + life .suspect,
    failed := life .shorted + life .dark,
    top := topOf rs,
    bankEmitting := emitting,
    bankLong := long,
    spread := spreadOf emitting long s.settings.standardOnTime s.settings.longOnTime,
    grade := gradeOf (life .serving + life .suspect) (life .shorted + life .dark) s.settings.minimumSound[v]
      s.settings.reserve[v] }

/-! ### Record claims (R4, R15, R25) -/

/-- Of the table and the tallies only the record of one key and the tally of its valve may differ. -/
def OnlyRecord (v : Valve) (p : Position) (s t : State) : Prop :=
  (∀ w x, (w, x) ≠ (v, p) → t.record w x = s.record w x) ∧ (∀ w, w ≠ v → t.tally w = s.tally w) ∧
  t.settings = s.settings ∧ t.link = s.link ∧ t.phase = s.phase ∧ t.schedule = s.schedule ∧ t.building = s.building ∧
  t.lines = s.lines ∧ t.pending = s.pending

/-- An accepted record-change request: the record becomes `new`, its tally is a recount, the answer is DONE with the
record's revision, LEVEL is set exactly when `moved`, and nothing else of the part changes (R4, R12, R15, R25, R156). -/
def ChangeMade (c : Instr) (q : Sender) (v : Valve) (p : Position) (new : LevelRecord) (moved : Bool) (s : State) :
    Prop :=
  ∃ t, exec c s = .next t ∧ t.record v p = new ∧ OnlyRecord v p s t ∧ t.tally v = recounted v t ∧
    t.sources = s.sources ∧ t.seq = s.seq ∧ t.lanes = s.lanes ∧ Answered q (withRevision .done new) s t ∧
    (moved = true → NoticeSet .level t) ∧
    (moved = false → t.portA.flags = s.portA.flags ∧ t.portB.flags = s.portB.flags) ∧
    ((t.tally v).grade ≠ (s.tally v).grade → NoticeSet .grade t)

/-- The spread that a valve would have with a record changed (R31, R32). -/
def spreadWith (v : Valve) (p : Position) (new : LevelRecord) (s : State) : Nat :=
  (recounted v (s.setRecord v p new)).spread

/-- MARGIN refuses the change of a sound record of a valve (R13, R34). -/
def marginRefuses (v : Valve) (s : State) : Bool :=
  checksMargin s.seq.conv && decide ((s.tally v).sound ≤ s.settings.minimumSound[v])

/-- A record with class and tag as an AMEND carries them (R8); a tag change of 0 is a removal (R168). -/
def amended (cls : Option EmitClass) (tagChange : Option Word24) (r : LevelRecord) : LevelRecord :=
  { r with emitClass := cls.getD r.emitClass,
           unitTag := if tagChange = none then r.unitTag else if tagChange = some 0 then none else tagChange }

/-- Cleared evidence (R3). -/
def withoutEvidence (r : LevelRecord) : LevelRecord :=
  { r with missRun := 0, pfRun := 0, pfTotal := 0, progress := 0, window := [], mean := none, lastCycle := none }

/-- The record with its revision advanced by one when a test says so (R4). -/
def advanced (moved : Bool) (r : LevelRecord) : LevelRecord :=
  { r with revision := if moved then r.revision + 1 else r.revision }

/-- A record is written and nothing else but the directed queue and the notices (R16): the claim of a result without a
verdict. -/
def WrittenOnly (v : Valve) (p : Position) (new : LevelRecord) (s t : State) : Prop :=
  t.record v p = new ∧ OnlyRecord v p s t ∧ t.tallies = s.tallies ∧ t.seq = s.seq ∧ t.lanes = s.lanes

/-- A result makes a verdict: the record becomes `new` and LEVEL is set; of the rest only the valve's tally, the
sequencer with the lanes and the directed queue may change (R15, R52). -/
def Verdict (v : Valve) (p : Position) (new : LevelRecord) (s t : State) : Prop :=
  t.record v p = new ∧ OnlyRecord v p s t ∧ NoticeSet .level t

/-- Every tally agrees with its valve's records and settings (R24). -/
def TalliesOk (s : State) : Prop := ∀ v, s.tally v = recounted v s

/-- Every valve's spread is at most the spread limit (R32). -/
def SpreadsOk (s : State) : Prop := ∀ v, (s.tally v).spread ≤ s.settings.spreadLimit

/-- PENDING, RAMPING or RUNNING. -/
def needsFitValves : Conv → Bool
  | .pending | .ramping | .running => true
  | _ => false

/-- No valve is UNFIT while the converter is PENDING, RAMPING or RUNNING (R127). -/
def FitOk (s : State) : Prop := needsFitValves s.seq.conv = true → ∀ v, (s.tally v).grade ≠ .unfit

/-! ### Records -/

/-- The life states in which a record carries a cause (R3). -/
def hasCause : Life → Bool
  | .suspect | .shorted | .dark => true
  | _ => false

/-- A record's fields in range, and its optional fields present as R2 and R3 state. -/
structure RecordOk (r : LevelRecord) : Prop where
  missRun  : r.missRun ≤ 15
  pfRun    : r.pfRun ≤ 15
  pfTotal  : r.pfTotal ≤ 255
  progress : r.progress ≤ 31
  idle     : r.life ≠ .proving → r.life ≠ .suspect → r.progress = 0
  window   : r.window.length ≤ 3
  cause    : hasCause r.life = true → r.cause.isSome = true
  noCause  : hasCause r.life = false → r.life ≠ .retired → r.cause = none
  retire   : r.retireReason.isSome = true ↔ r.life = .retired
  tag      : r.unitTag ≠ some 0

def RecordsOk (s : State) : Prop := ∀ v p, RecordOk (s.record v p)

/-! ### Queues and link -/

/-- The cycle queue holds no valve twice; the directed queue holds at most four entries of one to eight positions,
and none but its head is in progress (R77, R79). -/
structure QueuesOk (s : State) : Prop where
  cycle    : s.sources.cycleQueue.Nodup
  room     : s.sources.directed.length ≤ 4
  entries  : ∀ e ∈ s.sources.directed, 1 ≤ e.first ∧ 1 ≤ e.count ∧ e.count ≤ 8 ∧ e.first + e.count ≤ 97
  headOnly : ∀ e ∈ s.sources.directed.tail, e.inProgress = false

/-- The engine awaits a word or its interval. -/
def isPolling : LinkState → Bool
  | .header | .exchange | .interval => true
  | .idle | .held => false

/-- The current poll, the pending marks and the timer stand as the engine state asks (R57), the sources' marks as the
current poll asks (R79, R81), and every range lies in the valve (R58, R84). -/
structure LinkOk (s : State) : Prop where
  poll       : isPolling s.link.state = true → s.link.poll.isSome = true
  idle       : s.link.state = .idle → s.link.poll = none
  timer      : s.link.timer.isSome = isPolling s.link.state
  hold       : s.link.holdPending.isSome = true → s.link.state = .exchange
  cut        : s.link.cutPending = true → s.link.state = .header ∨ s.link.state = .exchange
  cutSweep   : s.link.cutPending = true → ∀ p, s.link.poll = some p → p.source = .sweep
  range      : ∀ p, s.link.poll = some p → 1 ≤ p.first ∧ p.first ≤ p.next ∧ p.next ≤ p.last ∧ p.last ≤ 96
  superseded : ∀ p, s.link.poll = some p → p.superseded = true → p.source = .cycle
  sweepMark  : s.sources.sweepInProgress = s.link.poll.any fun p => decide (p.source = .sweep)
  headMark   : (s.sources.directed.head?.any fun e => e.inProgress)
                 = s.link.poll.any fun p => decide (p.source = .directed)
  sweepTop   : ∀ p, s.link.poll = some p → p.source = .sweep → p.last ≤ (s.tally p.valve).top
  tops       : ∀ v, (s.tally v).top ≤ 96
  cycleTop   : ∀ v ∈ s.sources.cycleQueue, 1 ≤ (s.tally v).top
  request    : ∀ v, s.sources.sweepRequest = some v → 1 ≤ (s.tally v).top
  remainder  : ∀ v n, s.sources.remainder = some (v, n) → 1 ≤ n ∧ n ≤ (s.tally v).top

/-! ### Phase -/

/-- A period in the accepted range (R91). -/
def inAcceptedRange (period : Nat) : Prop := 560000 ≤ period ∧ period ≤ 940000

/-- The Phase Unit's items in range and as the lock state asks (R90 to R103). -/
structure PhaseOk (s : State) : Prop where
  interval   : s.phase.interval ≤ 940000
  phase      : s.phase.phase < 3600
  spread     : s.phase.spreadAcc < 3600
  loaded     : s.phase.counting = true → s.phase.loaded.isSome = true
  runs       : chainRuns s.phase.lock = true → s.phase.counting = true
  stopped    : s.phase.lock = .unlocked ∨ s.phase.lock = .lost → s.phase.counting = false
  saved      : s.phase.pendingLoad = true → s.phase.saved.isSome = true
  savedIn    : ∀ p, s.phase.saved = some p → inAcceptedRange p
  loadedIn   : ∀ p, s.phase.loaded = some p → inAcceptedRange p
  correction : -50 ≤ s.phase.correction ∧ s.phase.correction ≤ 50
  steered    : chainRuns s.phase.lock = false → s.phase.correction = 0
  spacing    : s.phase.spacing ≤ 9
  good       : s.phase.good ≤ 3
  hold       : s.phase.hold ≤ 16
  holding    : s.phase.lock ≠ .holding → s.phase.hold = 0
  error      : ∀ e, s.phase.lastError = some e → -1800 ≤ e ∧ e ≤ 1799
  crossed    : s.phase.lock = .locked ∨ s.phase.lock = .disturbed → s.phase.mark = .crossing

/-! ### Sequencer, lanes, schedule -/

/-- RAMPING or RUNNING: the states that count commutation failures (R132). -/
def countsFailures : Conv → Bool
  | .ramping | .running => true
  | _ => false

/-- RETARDED or BYPASSING: the states with an exit target (R120). -/
def hasExit : Conv → Bool
  | .retarded | .bypassing => true
  | _ => false

/-- The sequencer's items as the converter state asks (R120, R122, R132, R133; the recovery count by log entry 13). -/
structure SequencerOk (s : State) : Prop where
  exit     : s.seq.exitTarget.isSome = hasExit s.seq.conv
  bypass   : s.seq.conv = .bypassing → s.seq.exitTarget ≠ some .deionizing
  latch    : s.seq.tripLatch = true ↔ s.seq.conv = .tripped ∨ s.seq.exitTarget = some .tripped
  cause    : s.seq.tripCause.isSome = s.seq.tripLatch
  windows  : hasWindows s.seq.conv = false → ∀ v : Valve, s.seq.windows[v] = .closed
  failures : countsFailures s.seq.conv = false →
    s.seq.cfHold = 0 ∧ s.seq.cfRun = 0 ∧ s.seq.cfMark = false ∧ s.seq.lastFailure = none
  failed   : s.seq.cfMark = true ∨ 0 < s.seq.cfRun → s.seq.lastFailure.isSome = true
  attempts : s.seq.attempts ≤ s.settings.restartLimit
  recovery : s.seq.conv ≠ .running → s.seq.recovery = 0
  fresh    : isStopped s.seq.conv = true → s.seq.attempts = 0
  trip     : s.seq.freshTrip = true →
    (s.seq.conv = .retarded ∨ s.seq.conv = .bypassing) ∧ s.seq.exitTarget = some .tripped

/-- The converter fires or counts only while the phase chain runs, and waits for its start only in LOCKED (R127). -/
structure ConverterOk (s : State) : Prop where
  pending : s.seq.conv = .pending → s.phase.lock = .locked
  running : isStopped s.seq.conv = false → chainRuns s.phase.lock = true

/-- LIT or GAP: a burst is in progress (R140). -/
def hasBurst : LaneState → Bool
  | .lit | .gap => true
  | _ => false

/-- A lane's burst is present in LIT and GAP and nowhere else, and its present bank is active (R140, R142). -/
structure LaneOk (l : Lane) : Prop where
  composition : l.composition.isSome = hasBurst l.state
  bank        : l.bank.isSome = hasBurst l.state
  active      : ∀ c b, l.composition = some c → l.bank = some b → isActive c b = true
  drops       : l.drops ≤ 255

/-- Every lane is in order, and a burst is in progress only while the converter is in a firing state (R145, R146). -/
structure LanesOk (s : State) : Prop where
  lane   : ∀ v, LaneOk (s.lane v)
  firing : ∀ v, hasBurst (s.lane v).state = true → isFiring s.seq.conv = true

/-- The live page of a converter that is not stopped is valid; both pages' alpha lies within the limits; a pending
swap waits only while the chain runs, for a valid page (R108, R113 to R115). -/
structure ScheduleOk (s : State) : Prop where
  live   : isStopped s.seq.conv = false → s.livePage.valid = true
  alphaA : s.settings.alphaMin ≤ s.schedule.pageA.alpha ∧ s.schedule.pageA.alpha ≤ s.settings.alphaMax
  alphaB : s.settings.alphaMin ≤ s.schedule.pageB.alpha ∧ s.schedule.pageB.alpha ≤ s.settings.alphaMax
  swap   : s.schedule.swapPending.isSome = true →
    chainRuns s.phase.lock = true ∧ s.stagedPage.valid = true ∧ s.stagedPage.role = s.livePage.role

/-! ### Ports and engine -/

/-- A port's slots as its state asks (R151), and a transfer in progress that agrees with the port (R151, R152). -/
structure PortOk (u : PortUnit) : Prop where
  idle     : u.state = .idle → u.request = none ∧ u.answer = none ∧ u.begun = false
  working  : u.state = .working → u.request.isSome = true ∧ u.answer = none
  answered : u.state = .answered → u.request = none ∧ u.answer.isSome = true ∧ u.begun = false
  transfer : ∀ x, u.transfer = some x → x.discard = false →
    (x.found = .idle → u.state = .idle) ∧ (x.found = .answered → u.state = .answered ∧ x.answer = u.answer)

/-- The owner that holds the begun request of a port: the engine, the schedule for a pending SWAP, or the link for a
pending HOLD LINK (R153). -/
def ownedBy (p : Port) (s : State) : Nat :=
  (if s.engine.busy = true ∧ s.engine.last = p then 1 else 0) + (if s.schedule.swapPending = some p then 1 else 0)
    + (if s.link.holdPending = some p then 1 else 0)

/-- Each port in order; a begun request has exactly one owner and no other port has one; an idle engine leaves no
request waiting (R153). An image is being built only while a LOOK CONVERTER is being executed; a part is still missing,
and each part taken opens with its code and its length (R157, R169). -/
structure PortsOk (s : State) : Prop where
  port    : ∀ p, PortOk (s.port p)
  owner   : ∀ p, ownedBy p s = if (s.port p).begun then 1 else 0
  prompt  : s.engine.busy = false → ∀ p, waits p s = false
  lookup  : s.building ≠ ImageBuild.empty → ∃ q, begun (.lookConverter q) q.port s = true
  missing : missingParts s.building ≠ []
  parts   : ∀ (k : Fin 6) bytes, s.building.parts[k] = some bytes → ∃ fields, bytes = imagePart (byte (k.val + 1)) fields

/-! ### The invariant -/

/-- Every part of the invariant. -/
structure Inv (s : State) : Prop where
  settings  : SettingsOk s
  tallies   : TalliesOk s
  spreads   : SpreadsOk s
  fit       : FitOk s
  records   : RecordsOk s
  queues    : QueuesOk s
  link      : LinkOk s
  phase     : PhaseOk s
  sequencer : SequencerOk s
  converter : ConverterOk s
  lanes     : LanesOk s
  schedule  : ScheduleOk s
  ports     : PortsOk s

end Sys2Proof.Machine
end

