-- ==== Sys2Proof/WellFormed.lean ====
section
/-! DEFINITION. The commands whose operands the part's rules allow. -/

namespace Sys2Proof

open Machine

/-- The frame of a reply header and of a result word passes its checks and has that type mark, and the frame of a frame
error fails its checks (R56, R170); an ORDER names at most twelve valves (R110). The operands of the other commands are
in range by their types. -/
def Instr.wellFormed : Instr → Bool
  | .replyHeader frame => isReplyHeader frame
  | .resultWord frame => isResultWord frame
  | .sweepCut frame => frameOk frame
  | .deferredHold frame => frame.all isResultWord
  | .frameError frame => !frameOk frame
  | .order _ parts => decide (parts.entries.length ≤ 12)
  | _ => true

end Sys2Proof
end

