-- ==== Sys2Proof/Certificates/Slice0/Obligations.lean ====
section
/-! DEFINITION. The statements for the provers. -/

open Sys2Proof Sys2Proof.Machine

/-! ### Steps and resets -/

/-- A step with a command in the queue is the command at its front, with the queue's rest left. -/
def Obligations.StepRunsFrontCommand : Prop :=
  ∀ (c : Instr) (rest : List Instr) (s : State), s.pending = c :: rest → step s = exec c { s with pending := rest }

/-- A step with an empty queue (the model's choice, log entries 1, 2, 8, 10 and 19): nothing under power-on reset; else one
of the steps that are ready at this moment joins the queue, where there are several a free one; else one base tick
passes. Ready are the begun request (a converter image only where no part of it was taken at this moment, R157, log entry
18), the arbiter with a source pending, the expiry of the interval at 940,000 base ticks
(R90), the end of a phase step (R92), and the ends of the link's timer and of the lanes' times. -/
def Obligations.EmptyQueueStepTakesTime : Prop :=
  (∀ s : State, s.pending = [] →
    (s.lines.porLow = true → step s = .next s) ∧
    (s.lines.porLow = false →
      (readySteps s = [] → step s = .next (countTick s)) ∧
      (readySteps s ≠ [] → ∃ c ∈ readySteps s, step s = .next { s with
        pending := [c], freeCount := if (readySteps s).length = 1 then s.freeCount else s.freeCount + 1 }))) ∧
  (∀ (s : State) (c : Instr), c ∈ readySteps s ↔
    begun c s.engine.last s = true ∧ s.building.taken = false ∨
    c = .arbiterPollStart ∧ s.link.state = .idle ∧ (∃ x, sourcePending s x = true) ∨
    c = .missedCrossing ∧ 940000 ≤ s.phase.interval ∨
    c = .phaseStepEvent ∧ s.phase.counting = true ∧
      (s.phase.loaded.any fun p => decide (p / 3600 + (if s.phase.longStep then 1 else 0) ≤ s.phase.tick)) = true ∨
    s.link.timer = some 0 ∧ (c = .replyTimeout ∧ s.link.state = .header ∨ c = .wordTimeout ∧ s.link.state = .exchange ∨
      c = .wordIntervalEnd ∧ s.link.state = .interval) ∨
    (∃ v, (s.lane v).timer = 0 ∧ (c = .onTimeEnd v ∧ (s.lane v).state = .lit ∨ c = .gapEnd v ∧ (s.lane v).state = .gap ∨
      c = .stopFrameEnd v ∧ (s.lane v).state = .stopping))) ∧
  (∀ s : State, countTick s = { s with
      phase := { s.phase with
        interval := s.phase.interval + 1, tick := if s.phase.counting then s.phase.tick + 1 else s.phase.tick },
      link := { s.link with timer := s.link.timer.map fun n => n - 1 },
      seq := { s.seq with freshTrip := false }, lanes := (countTick s).lanes,
      building := { s.building with taken := false } } ∧
    ∀ v, (countTick s).lane v =
      if (s.lane v).state = .idle then s.lane v else { s.lane v with timer := (s.lane v).timer - 1 })

/-- The power-on reset gives every block its power-on values; the POR line's fall holds the part there (R167); the
power-on values of the records, the tallies, the settings, the link, the sources, the Phase Unit, the schedule, the
sequencer, the lanes, the ports and the engine (R22, R36, R74, R89, R107, R119, R139, R150, R162 to R164). The queue and
the count of free values stay (the model's choice, log entries 10 and 30); the values of items that no rule lists are the
model's (log entries 18, 20 and 21). -/
def Obligations.PowerOnResetGivesPowerOnValues : Prop :=
  (∀ s : State, exec .powerOnReset s = .next { State.reset with
      lines := { s.lines with porLow := false }, freeCount := s.freeCount, pending := s.pending }) ∧
  (∀ s : State, exec .porAsserted s = .next { State.reset with
      lines := { s.lines with porLow := true }, freeCount := s.freeCount, pending := s.pending }) ∧
  (∀ v p, State.reset.record v p =
    { life := .empty, revision := 0, unitTag := none, emitClass := .standard, missRun := 0, pfRun := 0, pfTotal := 0,
      progress := 0, window := [], mean := none, lastCycle := none, cause := none, retireReason := none }) ∧
  (∀ v, State.reset.tally v =
    { counts := #v[96, 0, 0, 0, 0, 0, 0], sound := 0, failed := 0, top := 0, bankEmitting := #v[0, 0, 0, 0],
      bankLong := #v[0, 0, 0, 0], spread := 0, grade := .unfit }) ∧
  unfitCount State.reset = 12 ∧
  (∀ v σ, getSetting State.reset.settings v σ = σ.default) ∧
  (∀ v, (State.reset.lane v).state = .idle ∧ (State.reset.lane v).composition = none ∧
    (State.reset.lane v).bank = none ∧ (State.reset.lane v).drops = 0 ∧ (State.reset.lane v).timer = 0) ∧
  State.reset.link = {
    state := .idle, poll := none, holdPending := none, cutPending := false, failures := 0, down := false,
    timeouts := 0, mismatches := 0, overruns := 0, vmuFault := Vector.replicate 12 false, timer := none, sent := [] } ∧
  State.reset.sources = {
    cycleQueue := [], armed := Vector.replicate 12 none, skip := Vector.replicate 12 0,
    directed := [], cursor := 11, sweepTimer := 0, sweepRequest := none, sweepInProgress := false, remainder := none } ∧
  State.reset.phase = {
    lock := .unlocked, interval := 0, mark := .missed, saved := none, loaded := none,
    prevAccepted := none, pendingLoad := false, phase := 0, cycle := 0, spreadAcc := 0, tick := 0, longStep := false,
    counting := false, correction := 0, spacing := 0, good := 0, hold := 0, lastError := none } ∧
  (State.reset.schedule.live = .a ∧ State.reset.schedule.swapPending = none ∧
    State.reset.schedule.pageA = State.reset.schedule.pageB ∧
    State.reset.schedule.pageA = {
      valid := false, alpha := 1400, role := .rectifier, leg := 0, trims := Vector.replicate 12 0, pairs := Vector.replicate 12 false }) ∧
  State.reset.seq = {
    conv := .blocked, exitTarget := none, tripLatch := false, tripCause := none, attempts := 0,
    ramp := 1400, retardCount := 0, deionCount := 0, bypassCount := 0, bypassSpacing := 0, bypassEntry := false,
    freshTrip := false, recovery := 0, cfHold := 0, cfRun := 0, cfMark := false, lastFailure := none,
    windows := Vector.replicate 12 .closed } ∧
  State.reset.engine = { busy := false, last := .b } ∧
  State.reset.building = { parts := Vector.replicate 6 none, taken := false } ∧
  (∀ p, State.reset.port p = {
    state := .idle, request := none, begun := false, answer := none, refused := false,
    transfer := none, flags := 0x200, mask := 0x3FF, shiftedOut := [] })

/-- A RESTART pulse sets link, sources, Phase Unit, schedule, sequencer, lanes, ports and engine to their control-reset
values and keeps the table, the tallies, the settings, the trip latch with its cause, and the masks (R23, R36, R74, R89,
R107, R119, R139, R150, R162, R163). A RESTART request is answered DONE, the same control reset takes effect, and the
requesting port keeps its answer through it (R158). The reset values of items that no rule lists are the model's (log
entries 18 and 20). -/
def Obligations.ControlResetKeepsTheTable : Prop :=
  (∀ s : State, s.lines.porLow = false → ∃ t, exec .restartPulse s = .next t ∧
    t.table = s.table ∧ t.tallies = s.tallies ∧ t.settings = s.settings ∧ t.lines = s.lines ∧ t.pending = s.pending ∧
    t.link = { state := .idle, poll := none, holdPending := none, cutPending := false, failures := 0, down := false,
               timeouts := 0, mismatches := 0, overruns := 0, vmuFault := Vector.replicate 12 false, timer := none,
               sent := [] } ∧
    t.sources = { cycleQueue := [], armed := Vector.replicate 12 none, skip := Vector.replicate 12 0, directed := [],
                  cursor := 11, sweepTimer := 0, sweepRequest := none, sweepInProgress := false, remainder := none } ∧
    t.phase = { lock := .unlocked, interval := 0, mark := .missed, saved := none, loaded := none, prevAccepted := none,
                pendingLoad := false, phase := 0, cycle := 0, spreadAcc := 0, tick := 0, longStep := false,
                counting := false, correction := 0, spacing := 0, good := 0, hold := 0, lastError := none } ∧
    t.schedule.live = .a ∧ t.schedule.swapPending = none ∧ t.schedule.pageA = t.schedule.pageB ∧
    t.schedule.pageA = { valid := false, alpha := clampNat s.settings.alphaMin s.settings.alphaMax 1400,
                         role := .rectifier, leg := 0, trims := Vector.replicate 12 0,
                         pairs := Vector.replicate 12 false } ∧
    t.seq = { conv := if s.seq.tripLatch then .tripped else .blocked, exitTarget := none, tripLatch := s.seq.tripLatch,
              tripCause := s.seq.tripCause, attempts := 0, ramp := s.settings.retardAngle, retardCount := 0,
              deionCount := 0, bypassCount := 0, bypassSpacing := 0, bypassEntry := false,
              freshTrip := false, recovery := 0, cfHold := 0, cfRun := 0, cfMark := false, lastFailure := none, windows := Vector.replicate 12 .closed } ∧
    (∀ v, t.lane v = { cutLane (s.lane v) with drops := 0 }) ∧
    t.engine = { busy := false, last := .b } ∧ t.building = { parts := Vector.replicate 6 none, taken := false } ∧
    (∀ p, (t.port p).state = .idle ∧ (t.port p).request = none ∧ (t.port p).answer = none ∧
      (t.port p).refused = false ∧ (t.port p).flags = noticeBit .reset ∧ (t.port p).mask = (s.port p).mask ∧
      (∀ x, (t.port p).transfer = some x → x.discard = true))) ∧
  (∀ (q : Sender) (s : State), Executing (.restart q) q s →
    ∃ t r, exec (.restart q) s = .next t ∧ exec .restartPulse s = .next r ∧ Answered q (plain .done) s t ∧
      t.blocks = r.blocks ∧ t.engine = r.engine ∧ t.port (otherPort q.port) = r.port (otherPort q.port) ∧
      (t.port q.port).rest = (r.port q.port).rest)

/-- The notice sets, the masks and the NOTICE lines after each reset (R163). -/
def Obligations.NoticesAfterResets : Prop :=
  (∀ s t : State, exec .powerOnReset s = .next t → ∀ p,
    (t.port p).flags = noticeBit .reset ∧ (t.port p).mask = 0x3FF ∧ noticeLine (t.port p) = true) ∧
  (∀ s t : State, s.lines.porLow = false → exec .restartPulse s = .next t → ∀ p,
    (t.port p).flags = noticeBit .reset ∧ (t.port p).mask = (s.port p).mask ∧
    (noticeLine (t.port p) = true ↔ (s.port p).mask &&& noticeBit .reset ≠ 0)) ∧
  (∀ (q : Sender) (s t : State), Executing (.restart q) q s → exec (.restart q) s = .next t → ∀ p,
    (t.port p).flags = noticeBit .reset ∧ (t.port p).mask = (s.port p).mask ∧
    (noticeLine (t.port p) = true ↔ (s.port p).mask &&& noticeBit .reset ≠ 0)) ∧
  (∀ s : State, ∃ t, exec .powerOnReset s = .next t) ∧ noticeBit .reset = 0x200

/-! ### Station lines -/

/-- The BLOCK line (R136): its assertion stops a converter that is not stopped, to TRIPPED with the latch set and to
BLOCKED otherwise, closes the windows and cuts the lanes; a stopped converter stays, with the lanes cut; its release
changes the level alone; while it is high, DEBLOCK is NOT READY with reason BLOCK LINE. The recovery count of a stopped
converter is 0 and the counts of the state it leaves are kept (the model's choices, log entries 13 and 29). An assertion
on a line already high has no effect (the model's choice, log entry 22). While POR is low the levels of the lines alone
are followed, and no crossing, edge, transfer, request or event of the part's own acts (R167; DEDUCED, log entry 10). -/
def Obligations.BlockLineStopsTheConverter : Prop :=
  (∀ s : State, s.lines.porLow = false → s.lines.block = false → isStopped s.seq.conv = false →
    exec .blockLineAsserted s = .next (converterStop (stoppedAs (if s.seq.tripLatch then .tripped else .blocked))
      { s with lines := { s.lines with block := true } })) ∧
  (∀ s : State, s.lines.porLow = false → s.lines.block = false → isStopped s.seq.conv = true →
    exec .blockLineAsserted s = .next { s with
      lines := { s.lines with block := true }, seq := allClosed s.seq, lanes := mapEntries cutLane s.lanes }) ∧
  (∀ s : State, exec .blockLineReleased s = .next { s with lines := { s.lines with block := false } }) ∧
  (∀ (q : Sender) (s : State), Executing (.deblock q) q s → s.seq.conv = .blocked → s.lines.block = true →
    Completes (.deblock q) q s (notReady .blockLine) s) ∧
  (∀ s : State, s.lines.block = true → exec .blockLineAsserted s = .next s) ∧
  (∀ s : State, s.lines.porLow = true →
    (s.lines.block = false → exec .blockLineAsserted s = .next { s with lines := { s.lines with block := true } }) ∧
    (s.lines.linefault = false → exec .linefaultEdge s = .next { s with lines := { s.lines with linefault := true } }) ∧
    (∀ c : Instr, c ≠ .powerOnReset → c ≠ .porAsserted → c ≠ .blockLineAsserted → c ≠ .blockLineReleased →
      c ≠ .linefaultEdge → c ≠ .linefaultReleased → (∀ p, c ≠ .authSelChange p) → exec c s = .next s))

/-- The LINEFAULT edge and RETARD take a RAMPING or RUNNING converter to RETARDED with exit DEIONIZING and retard count
0; elsewhere the edge has no effect on the sequencer and RETARD is WRONG STATE (R128). The line's levels are followed; an
edge command on a line already high has no effect (the model's choice, log entry 22), and the recovery count becomes 0
when RUNNING is left (the model's choice, log entry 13). -/
def Obligations.LineFaultAndRetard : Prop :=
  (∀ s : State, s.lines.porLow = false → s.lines.linefault = false → s.seq.conv = .ramping ∨ s.seq.conv = .running →
    exec .linefaultEdge s = .next (converterChange (retardedWith .deionizing)
      { s with lines := { s.lines with linefault := true } })) ∧
  (∀ s : State, s.lines.porLow = false → s.lines.linefault = false → s.seq.conv ≠ .ramping → s.seq.conv ≠ .running →
    exec .linefaultEdge s = .next { s with lines := { s.lines with linefault := true } }) ∧
  (∀ s : State, s.lines.linefault = true → exec .linefaultEdge s = .next s) ∧
  (∀ s : State, exec .linefaultReleased s = .next { s with lines := { s.lines with linefault := false } }) ∧
  (∀ (q : Sender) (s : State), Executing (.retard q) q s → s.seq.conv = .ramping ∨ s.seq.conv = .running →
    Completes (.retard q) q (converterChange (retardedWith .deionizing) s) (plain .done) s) ∧
  (∀ (q : Sender) (s : State), Executing (.retard q) q s → s.seq.conv ≠ .ramping → s.seq.conv ≠ .running →
    Completes (.retard q) q s (plain .wrongState) s)

/-! ### Requests on the converter -/

/-- DEBLOCK: the four checks in their order, PENDING with CONVERTER when all pass, WRONG STATE outside BLOCKED (R127).
BYPASS: BYPASSING with exit BLOCKED from RAMPING or RUNNING in role INVERTER, WRONG STATE otherwise (R131). The recovery
count becomes 0 when RUNNING is left, and the entry into BYPASSING is marked (the model's choices, log entries 13 and
20). -/
def Obligations.DeblockAndBypass : Prop :=
  (∀ (q : Sender) (s : State), Executing (.deblock q) q s → SequencerOk s →
    (s.seq.conv ≠ .blocked → Completes (.deblock q) q s (plain .wrongState) s) ∧
    (s.seq.conv = .blocked →
      (s.lines.block = true → Completes (.deblock q) q s (notReady .blockLine) s) ∧
      (s.lines.block = false →
        (s.phase.lock ≠ .locked → Completes (.deblock q) q s (notReady .phase) s) ∧
        (s.phase.lock = .locked →
          (s.livePage.valid = false → Completes (.deblock q) q s (notReady .pageInvalid) s) ∧
          (s.livePage.valid = true →
            (0 < unfitCount s → Completes (.deblock q) q s (notReady .valveUnfit) s) ∧
            (unfitCount s = 0 →
              Completes (.deblock q) q (converterChange (fun x => { x with conv := .pending }) s) (plain .done) s)))))) ∧
  (∀ (q : Sender) (s : State), Executing (.bypass q) q s →
    ((s.seq.conv = .ramping ∨ s.seq.conv = .running) ∧ s.livePage.role = .inverter →
      Completes (.bypass q) q (converterChange (bypassingWith .blocked) s) (plain .done) s) ∧
    (s.seq.conv ≠ .ramping ∧ s.seq.conv ≠ .running ∨ s.livePage.role = .rectifier →
      Completes (.bypass q) q s (plain .wrongState) s))

/-- BLOCK by converter state (R130). The recovery count becomes 0 when RUNNING is left, the counts of a state that is left
are kept, and the entry into BYPASSING is marked (the model's choices, log entries 13, 29 and 20). -/
def Obligations.BlockRequestByState : Prop :=
  ∀ (q : Sender) (s : State), Executing (.block q) q s →
    (s.seq.conv = .blocked → Completes (.block q) q s (plain .done) s) ∧
    (s.seq.conv = .pending ∨ s.seq.conv = .deionizing →
      Completes (.block q) q (converterChange (stoppedAs .blocked) s) (plain .done) s) ∧
    (s.seq.conv = .ramping ∨ s.seq.conv = .running →
      (s.livePage.role = .rectifier →
        Completes (.block q) q (converterChange (retardedWith .blocked) s) (plain .done) s) ∧
      (s.livePage.role = .inverter →
        Completes (.block q) q (converterChange (bypassingWith .blocked) s) (plain .done) s)) ∧
    (s.seq.conv = .retarded ∨ s.seq.conv = .bypassing →
      (s.seq.exitTarget = some .deionizing →
        Completes (.block q) q (converterChange (fun x => { x with exitTarget := some .blocked }) s) (plain .done) s) ∧
      (s.seq.exitTarget = some .blocked ∨ s.seq.exitTarget = some .tripped →
        Completes (.block q) q s (plain .done) s)) ∧
    (s.seq.conv = .tripped → Completes (.block q) q s (plain .wrongState) s)

/-- CLEAR TRIP (R135): in TRIPPED with no valve UNFIT the converter is BLOCKED, the latch cleared, the cause removed,
TRIP released and CONVERTER set, with no TRIP notice; the two refusals change nothing. -/
def Obligations.ClearTripByState : Prop :=
  (∀ (q : Sender) (s : State), Executing (.clearTrip q) q s →
    (s.seq.conv = .tripped → unfitCount s = 0 →
      Completes (.clearTrip q) q
        (converterChange (fun x => { stoppedAs .blocked x with tripLatch := false, tripCause := none }) s)
        (plain .done) s) ∧
    (s.seq.conv = .tripped → 0 < unfitCount s → Completes (.clearTrip q) q s (notReady .valveUnfit) s) ∧
    (s.seq.conv ≠ .tripped → Completes (.clearTrip q) q s (plain .wrongState) s)) ∧
  (∀ s : State, tripLine s = s.seq.tripLatch)

/-- TRIM (R98): the pending correction moved by one, kept at its limit with CLAMPED, DONE without a change for both
flags, BAD VALUE for neither, WRONG STATE while the chain does not run. The spacing count is 0 whenever the correction
is (R97). That BAD VALUE comes before WRONG STATE is the model's choice (log entry 15). -/
def Obligations.TrimMovesTheCorrection : Prop :=
  ∀ (q : Sender) (insert suppress : Bool) (s : State), Executing (.trim q insert suppress) q s → PhaseOk s →
    (insert = false → suppress = false → Completes (.trim q insert suppress) q s (plain .badValue) s) ∧
    (insert = true ∨ suppress = true → chainRuns s.phase.lock = false →
      Completes (.trim q insert suppress) q s (plain .wrongState) s) ∧
    (insert = true → suppress = true → chainRuns s.phase.lock = true →
      Completes (.trim q insert suppress) q s (plain .done) s) ∧
    (insert = true → suppress = false → chainRuns s.phase.lock = true →
      (s.phase.correction = 50 → Completes (.trim q insert suppress) q s (plain .clamped) s) ∧
      (s.phase.correction < 50 → Completes (.trim q insert suppress) q
        { s with phase := { s.phase with
            correction := s.phase.correction + 1,
            spacing := if s.phase.correction = -1 then 0 else s.phase.spacing } } (plain .done) s)) ∧
    (insert = false → suppress = true → chainRuns s.phase.lock = true →
      (s.phase.correction = -50 → Completes (.trim q insert suppress) q s (plain .clamped) s) ∧
      (-50 < s.phase.correction → Completes (.trim q insert suppress) q
        { s with phase := { s.phase with
            correction := s.phase.correction - 1,
            spacing := if s.phase.correction = 1 then 0 else s.phase.spacing } } (plain .done) s))

/-- The two trip causes by converter state, and the latching of a trip (R133): cause and TRIP only where the latch was
clear. An unfit entry of origin EVIDENCE is the trip cause VALVE UNFIT, with the model's mark that R134 implies (log
entry 32). The recovery count becomes 0 when RUNNING is left, the counts of a state that is left are kept, and the entry
into BYPASSING is marked (the model's choices, log entries 13, 29 and 20). -/
def Obligations.TripCausesByState : Prop :=
  ∀ (cause : TripCause) (s : State),
    (s.seq.tripLatch = false →
      (s.seq.conv = .ramping ∨ s.seq.conv = .running →
        (s.livePage.role = .rectifier → raiseTrip cause s =
          converterChange (fun x => retardedWith .tripped (latched cause x)) (setNotice .trip s)) ∧
        (s.livePage.role = .inverter → raiseTrip cause s =
          converterChange (fun x => bypassingWith .tripped (latched cause x)) (setNotice .trip s))) ∧
      (s.seq.conv = .retarded ∨ s.seq.conv = .bypassing →
        s.seq.exitTarget = some .deionizing ∨ s.seq.exitTarget = some .blocked → raiseTrip cause s =
          converterChange (fun x => { latched cause x with exitTarget := some .tripped }) (setNotice .trip s)) ∧
      (s.seq.conv = .deionizing → raiseTrip cause s =
          converterChange (fun x => stoppedAs .tripped (latched cause x)) (setNotice .trip s))) ∧
    (s.seq.conv = .retarded ∨ s.seq.conv = .bypassing → s.seq.tripLatch = true →
      s.seq.exitTarget = some .tripped → raiseTrip cause s = s) ∧
    (s.seq.conv = .pending → raiseTrip cause s = converterChange (stoppedAs .blocked) s) ∧
    (s.seq.conv = .blocked ∨ s.seq.conv = .tripped → raiseTrip cause s = s) ∧
    (∀ v, s.seq.conv = .ramping ∨ s.seq.conv = .running →
      (unfitEntry v .evidence s).seq = { (raiseTrip (.valveUnfit v) s).seq with freshTrip := true } ∧
      (unfitEntry v .evidence s).lanes = (raiseTrip (.valveUnfit v) s).lanes) ∧
    (∀ v, s.seq.conv ≠ .ramping → s.seq.conv ≠ .running →
      unfitEntry v .evidence s = raiseTrip (.valveUnfit v) s) ∧
    (∀ v, unfitEntry v .change s =
      if s.seq.conv = .pending then converterChange (stoppedAs .blocked) s else s) ∧
    tripLine s = s.seq.tripLatch

/-! ### The phase step event -/

/-- A phase step event moves the phase section by one, by two with an inserted step and by none with a suppressed one,
counts the cycle at the passing of 0, and starts the next step, on the saved period where a load is pending at a cycle
start; a stopped chain makes none. PHASE_CORRECTION is the step event that carries a correction (log entry 4; R92 to
R94, R97). -/
def Obligations.PhaseStepMovesTheChain : Prop :=
  ∀ s : State, s.lines.porLow = false →
    (s.phase.counting = false → exec .phaseStepEvent s = .next s) ∧
    (s.phase.counting = true → ∃ t, exec .phaseStepEvent s = .next t ∧ StepFrame s t ∧ t.phase.counting = true ∧
      (s.phase.correction = 0 ∨ chainRuns s.phase.lock = false ∨ s.phase.spacing < 9 →
        t.phase.phase = (s.phase.phase + 1) % 3600 ∧ t.phase.correction = s.phase.correction ∧
        t.phase.spacing =
          (if s.phase.correction ≠ 0 ∧ chainRuns s.phase.lock = true then s.phase.spacing + 1 else s.phase.spacing) ∧
        passedNext s.phase = [(s.phase.phase + 1) % 3600]) ∧
      (chainRuns s.phase.lock = true → 9 ≤ s.phase.spacing →
        (0 < s.phase.correction → exec .phaseCorrection s = .next t ∧
          t.phase.phase = (s.phase.phase + 2) % 3600 ∧ t.phase.correction = s.phase.correction - 1 ∧
          t.phase.spacing = 0 ∧ passedNext s.phase = [(s.phase.phase + 1) % 3600, (s.phase.phase + 2) % 3600]) ∧
        (s.phase.correction < 0 → exec .phaseCorrection s = .next t ∧
          t.phase.phase = s.phase.phase % 3600 ∧ t.phase.correction = s.phase.correction + 1 ∧
          t.phase.spacing = 0 ∧ passedNext s.phase = [])) ∧
      t.phase.cycle = (if 0 ∈ passedNext s.phase then s.phase.cycle + 1 else s.phase.cycle) ∧
      (∀ p, 0 ∈ passedNext s.phase → s.phase.pendingLoad = true → s.phase.saved = some p →
        t.phase.loaded = some p ∧ t.phase.pendingLoad = false ∧ t.phase.tick = 0 ∧ t.phase.longStep = false ∧
        t.phase.spreadAcc = p % 3600) ∧
      (∀ p, 0 ∉ passedNext s.phase ∨ s.phase.pendingLoad = false → s.phase.loaded = some p →
        t.phase.loaded = some p ∧ t.phase.pendingLoad = s.phase.pendingLoad ∧ t.phase.tick = 0 ∧
        t.phase.longStep = decide (3600 ≤ s.phase.spreadAcc + p % 3600) ∧
        t.phase.spreadAcc = (if 3600 ≤ s.phase.spreadAcc + p % 3600 then s.phase.spreadAcc + p % 3600 - 3600
          else s.phase.spreadAcc + p % 3600)))

/-- The 3,600 steps that follow a load take exactly the loaded period, and its remainder many of them are long (R92). -/
def Obligations.PeriodTakesItsTicks : Prop :=
  ∀ (p : Nat) (f : Phase),
    ((List.range 3600).map fun k => (presentLength ((nextStep false)^[k] (loadPeriod p f))).getD 0).sum = p ∧
    ((List.range 3600).filter fun k => ((nextStep false)^[k] (loadPeriod p f)).longStep).length = p % 3600

/-- The firing windows at a step event, a cycle start or not (R121 to R123): opening, firing and closing by the effective
base angle of the state and the live page as the cycle-start work leaves them (R122, R114), the armed points (R75), and
the burst requests to the lanes of the fired valves and of their pair valves; outside RAMPING, RUNNING and RETARDED every
window is CLOSED and nothing is armed. The rest of the sequencer stays at a step event that is no cycle start, but for the
mark of an unfit entry, which ends (the model's own field freshTrip, log entry 32). -/
def Obligations.FiringWindowsOpenFireClose : Prop :=
  ∀ s : State, s.lines.porLow = false → s.phase.counting = true → ∃ t, exec .phaseStepEvent s = .next t ∧
    (0 ∉ passedNext s.phase → s.seq.conv ≠ .bypassing →
      apartWindows t.seq = apartWindows { s.seq with freshTrip := false }) ∧
    (∀ base : Nat,
      t.seq.conv = .ramping ∧ base = t.seq.ramp ∨
      t.seq.conv = .running ∧ t.seq.cfHold = 0 ∧ base = t.livePage.alpha ∨
      t.seq.conv = .running ∧ 0 < t.seq.cfHold ∧ base = max (t.livePage.alpha - s.settings.cfAdvance) s.settings.alphaMin ∨
      t.seq.conv = .retarded ∧ base = s.settings.retardAngle →
      (∀ v : Valve, t.seq.windows[v] =
        let fires := decide (max 0 (min 1790 ((base : Int) + t.livePage.trims[v]))
          ≤ ((t.phase.phase + 3600 - v.val * 300) % 3600 : Nat))
        match s.seq.windows[v] with
        | .closed =>
          if v.val * 300 ∈ passedNext s.phase then (if fires then .fired else .opened) else .closed
        | .opened => if fires then .fired else .opened
        | .fired => if 1800 ≤ (t.phase.phase + 3600 - v.val * 300) % 3600 then .closed else .fired) ∧
      (∀ v : Valve,
        let fired := s.seq.windows[v] ≠ .fired ∧ t.seq.windows[v] = .fired
        (fired → t.sources.armed[v] = some ((t.phase.phase + 1800) % 3600)) ∧
        (¬ fired → t.sources.armed[v] = if checkPassed v s then none else s.sources.armed[v])) ∧
      (∀ v : Valve,
        let fired := fun w : Valve => s.seq.windows[w] ≠ .fired ∧ t.seq.windows[w] = .fired
        let paired := fired (v + 2) ∧ t.livePage.pairs[v + 2] = true
        (¬ fired v → ¬ paired → t.lane v = s.lane v) ∧
        ((fired v ∧ ¬ paired) ∨ (¬ fired v ∧ paired) → t.lane v = laneTakes v s (s.lane v)) ∧
        (fired v → paired → t.lane v = laneTakes v s (laneTakes v s (s.lane v))))) ∧
    (t.seq.conv ≠ .ramping → t.seq.conv ≠ .running → t.seq.conv ≠ .retarded → SequencerOk s → ∀ v : Valve,
      t.seq.windows[v] = .closed ∧ t.sources.armed[v] = if checkPassed v s then none else s.sources.armed[v])

/-- Check points at a step event (R75, R76): a valve whose point is passed while the chain runs and whose top position is
above 0 joins the queue's tail, or has its skip count raised when it waits already; a held cycle poll of it is marked
superseded. -/
def Obligations.CheckPointsJoinTheQueue : Prop :=
  (∀ (v : Valve) (armed : Vector (Option Nat) 12),
    checkValue armed v = (armed[v]).getD ((v.val * 300 + 1800) % 3600)) ∧
  (∀ s : State, s.lines.porLow = false → s.phase.counting = true → ∃ t, exec .phaseStepEvent s = .next t ∧
    t.sources.cycleQueue = s.sources.cycleQueue ++ joining s ∧
    (∀ v : Valve, t.sources.skip[v] =
      if requestRaised v s = true ∧ v ∈ s.sources.cycleQueue then min (s.sources.skip[v] + 1) 255
      else s.sources.skip[v]) ∧
    (∀ p : Poll, s.link.state = .held → s.link.poll = some p → p.source = .cycle →
      t.link = { s.link with poll := some { p with superseded := p.superseded || requestRaised p.valve s } }) ∧
    (∀ p : Poll, s.link.state ≠ .held → s.link.poll = some p → p.source ≠ .sweep → t.link = s.link) ∧
    (s.link.poll = none → t.link = s.link))

/-- A cycle request that joins asks for a cut of the sweep poll (R68, R85): pending in HEADER and EXCHANGE, made at once
in INTERVAL and in HELD, with the remainder kept by the sweep source unless sweep enable is off (R86). -/
def Obligations.CutRequestedByACycleRequest : Prop :=
  ∀ (s : State) (p : Poll), s.lines.porLow = false → s.phase.counting = true → LinkOk s →
    s.link.poll = some p → p.source = .sweep → ∃ t, exec .phaseStepEvent s = .next t ∧
      (joining s = [] ∨ s.settings.preEmption = false ∨ s.settings.cyclePriority ≤ s.settings.sweepPriority ∨
          s.link.cutPending = true →
        t.link = s.link ∧ t.sources.sweepInProgress = s.sources.sweepInProgress ∧
        t.sources.remainder = s.sources.remainder) ∧
      (joining s ≠ [] → s.settings.preEmption = true → s.settings.sweepPriority < s.settings.cyclePriority →
        s.link.cutPending = false →
        (s.link.state = .header ∨ s.link.state = .exchange →
          t.link = { s.link with cutPending := true } ∧ t.sources.sweepInProgress = s.sources.sweepInProgress ∧
          t.sources.remainder = s.sources.remainder) ∧
        (s.link.state = .interval ∨ s.link.state = .held →
          t.link = { s.link with state := if s.link.state = .held then .held else .idle, poll := none, timer := none } ∧
          t.sources.sweepInProgress = false ∧
          t.sources.remainder = if s.settings.sweepEnable then some (p.valve, p.next) else none))

/-! ### Cycle starts -/

/-- A cycle start in RAMPING or RUNNING (R125): the commutation-failure work with its trip, the ramp toward the live
alpha, the recovery count. RECOVERY_COMPLETE and COMMUTATION_TRIP are the cycle starts that hold these cases (log entry
4). The windows are apart (FiringWindowsOpenFireClose states them); the live page is the one after a swap made at this
cycle start (R114). The recovery count becomes 0 when RUNNING is left, and the entry into BYPASSING is marked (the model's
choices, log entries 13 and 20). -/
def Obligations.RampingAndRunning : Prop :=
  ∀ s : State, s.lines.porLow = false → s.phase.counting = true → 0 ∈ passedNext s.phase → SequencerOk s →
    s.seq.conv = .ramping ∨ s.seq.conv = .running →
    ∃ t, exec .phaseStepEvent s = .next t ∧
      (s.settings.cfLimit ≤ (failuresCounted s.seq).cfRun → ∀ v, s.seq.lastFailure = some v →
        exec .commutationTrip s = .next t ∧ NoticeSet .trip t ∧ NoticeSet .converter t ∧
        apartWindows t.seq = apartWindows
          (match t.livePage.role with
           | .rectifier => retardedWith .tripped (latched (.commutation v) (failuresCounted s.seq))
           | .inverter => bypassingWith .tripped (latched (.commutation v) (failuresCounted s.seq)))) ∧
      ((failuresCounted s.seq).cfRun < s.settings.cfLimit → s.seq.conv = .ramping →
        ∃ r : Nat, apartWindows t.seq = apartWindows { failuresCounted s.seq with
            ramp := r, conv := if r = t.livePage.alpha then .running else .ramping } ∧
          (s.seq.ramp < t.livePage.alpha → r = min (s.seq.ramp + s.settings.rampRate) t.livePage.alpha) ∧
          (t.livePage.alpha ≤ s.seq.ramp →
            (r : Int) = max ((s.seq.ramp : Int) - s.settings.rampRate) t.livePage.alpha) ∧
          (r = t.livePage.alpha → NoticeSet .converter t)) ∧
      ((failuresCounted s.seq).cfRun < s.settings.cfLimit → s.seq.conv = .running →
        (s.seq.recovery + 1 = s.settings.recoveryCycles →
          exec .recoveryComplete s = .next t ∧
          apartWindows t.seq = apartWindows { failuresCounted s.seq with
            recovery := s.settings.recoveryCycles, attempts := 0 }) ∧
        (s.seq.recovery + 1 < s.settings.recoveryCycles →
          apartWindows t.seq = apartWindows { failuresCounted s.seq with recovery := s.seq.recovery + 1 }) ∧
        (s.settings.recoveryCycles ≤ s.seq.recovery →
          apartWindows t.seq = apartWindows (failuresCounted s.seq)))

/-- A cycle start in PENDING, RETARDED, DEIONIZING or BYPASSING (R126, R128, R129, R131). RETARD_EXPIRY,
DEIONIZATION_END and BYPASS_EXPIRY are the cycle starts that end these states (log entry 4). A count keeps its value
when its state is left, and the recovery count is 0 outside RUNNING (the model's choices, log entries 29 and 13). A cycle
start that comes together with the unfit entry that
made the state is not counted (R134, log entry 32). -/
def Obligations.StagesEndAtACycleStart : Prop :=
  ∀ s : State, s.lines.porLow = false → s.phase.counting = true → 0 ∈ passedNext s.phase → SequencerOk s →
    ∃ t, exec .phaseStepEvent s = .next t ∧
      (s.seq.conv = .pending → NoticeSet .converter t ∧
        apartWindows t.seq = apartWindows { s.seq with conv := .ramping, ramp := s.settings.retardAngle, attempts := 0 }) ∧
      (s.seq.conv = .retarded → s.seq.freshTrip = true →
        apartWindows t.seq = apartWindows { s.seq with freshTrip := false }) ∧
      (s.seq.conv = .retarded → s.seq.freshTrip = false → s.seq.retardCount + 1 < s.settings.retardCycles →
        apartWindows t.seq = apartWindows { s.seq with retardCount := s.seq.retardCount + 1 }) ∧
      (s.seq.conv = .retarded → s.seq.freshTrip = false → s.settings.retardCycles ≤ s.seq.retardCount + 1 →
        exec .retardExpiry s = .next t ∧ NoticeSet .converter t ∧ t.lanes = mapEntries cutLane s.lanes ∧
        (s.seq.exitTarget = some .deionizing →
          t.seq = deionizingFrom { s.seq with retardCount := s.seq.retardCount + 1 }) ∧
        (s.seq.exitTarget = some .blocked →
          t.seq = stoppedAs .blocked { s.seq with retardCount := s.seq.retardCount + 1 }) ∧
        (s.seq.exitTarget = some .tripped →
          t.seq = stoppedAs .tripped { s.seq with retardCount := s.seq.retardCount + 1 })) ∧
      (s.seq.conv = .bypassing → s.seq.freshTrip = true →
        t.seq.conv = .bypassing ∧ t.seq.exitTarget = s.seq.exitTarget ∧ t.seq.bypassCount = s.seq.bypassCount ∧
        t.seq.freshTrip = false) ∧
      (s.seq.conv = .bypassing → s.seq.freshTrip = false → s.seq.bypassCount + 1 < s.settings.bypassCycles →
        t.seq.conv = .bypassing ∧ t.seq.exitTarget = s.seq.exitTarget ∧ t.seq.bypassCount = s.seq.bypassCount + 1) ∧
      (s.seq.conv = .bypassing → s.seq.freshTrip = false → s.settings.bypassCycles ≤ s.seq.bypassCount + 1 →
        exec .bypassExpiry s = .next t ∧ NoticeSet .converter t ∧ t.lanes = mapEntries cutLane s.lanes ∧
        (s.seq.exitTarget = some .blocked →
          t.seq = stoppedAs .blocked { s.seq with bypassCount := s.seq.bypassCount + 1 }) ∧
        (s.seq.exitTarget = some .tripped →
          t.seq = stoppedAs .tripped { s.seq with bypassCount := s.seq.bypassCount + 1 })) ∧
      (s.seq.conv = .deionizing → s.seq.deionCount + 1 < s.settings.deionizationCycles →
        t.seq = { s.seq with deionCount := s.seq.deionCount + 1 }) ∧
      (s.seq.conv = .deionizing → s.settings.deionizationCycles ≤ s.seq.deionCount + 1 →
        exec .deionizationEnd s = .next t ∧ NoticeSet .converter t ∧
        (s.settings.restartLimit < s.seq.attempts + 1 → NoticeSet .restarts t ∧
          t.seq = stoppedAs .blocked { s.seq with deionCount := s.seq.deionCount + 1 }) ∧
        (s.seq.attempts + 1 ≤ s.settings.restartLimit →
          (0 < unfitCount s → t.seq = stoppedAs .blocked { s.seq with deionCount := s.seq.deionCount + 1 }) ∧
          (unfitCount s = 0 → apartWindows t.seq = apartWindows { s.seq with
            conv := .ramping, ramp := s.settings.retardAngle, attempts := s.seq.attempts + 1,
            deionCount := s.seq.deionCount + 1 }))) ∧
      (isStopped s.seq.conv = true → t.seq = s.seq)

/-- A bypass occasion hands one burst request to each of the four bypass valves of the live leg and to no other lane
(R131, R147): at the first step event after the entry, and at each that takes the spacing to 300 or beyond. The mark of the
entry is the model's (log entry 20). A cycle start that comes together with the unfit entry that made BYPASSING does not
end it (R134, the mark freshTrip is the model's choice, log entry 32). BYPASS_OCCASION is that step event (log entry 4).
The order inside the step event is log entry 31. -/
def Obligations.BypassOccasionsRequestBursts : Prop :=
  (∀ k : Fin 3, (bypassValves k).map valveNumber = [2 * (k.val + 1) - 1, 2 * (k.val + 1) + 5, 2 * (k.val + 1), 2 * (k.val + 1) + 6]) ∧
  (∀ s : State, s.lines.porLow = false → s.phase.counting = true → s.seq.conv = .bypassing →
    0 ∉ passedNext s.phase ∨ s.seq.bypassCount + 1 < s.settings.bypassCycles ∨ s.seq.freshTrip = true →
    ∃ t, exec .phaseStepEvent s = .next t ∧ t.seq.conv = .bypassing ∧ t.seq.windows = s.seq.windows ∧
      (s.seq.bypassEntry = true ∨ 300 ≤ s.seq.bypassSpacing + (passedNext s.phase).length →
        exec .bypassOccasion s = .next t ∧ t.seq.bypassEntry = false ∧
        t.seq.bypassSpacing = (if s.seq.bypassEntry then 0 else s.seq.bypassSpacing + (passedNext s.phase).length - 300) ∧
        (∀ v, t.lane v = if v ∈ bypassValves t.livePage.leg then laneTakes v s (s.lane v) else s.lane v)) ∧
      (s.seq.bypassEntry = false → s.seq.bypassSpacing + (passedNext s.phase).length < 300 →
        t.seq.bypassEntry = false ∧ t.seq.bypassSpacing = s.seq.bypassSpacing + (passedNext s.phase).length ∧
        t.lanes = s.lanes))

/-- The sweep timer at a cycle start and the sweep occasion (R81, R82). SWEEP_OCCASION is the cycle start that makes one
(log entry 4). -/
def Obligations.SweepOccasionsMoveTheCursor : Prop :=
  (∀ (s : State) (w : Valve), sweepValve s = some w ↔
    ∃ k : Valve, w = s.sources.cursor - k ∧ 0 < (s.tally w).top ∧
      ∀ j : Valve, j < k → (s.tally (s.sources.cursor - j)).top = 0) ∧
  (∀ s : State, s.lines.porLow = false → s.phase.counting = true → 0 ∈ passedNext s.phase →
    ∃ t, exec .phaseStepEvent s = .next t ∧
      (s.settings.sweepEnable = false → t.sources.sweepTimer = s.sources.sweepTimer ∧
        t.sources.sweepRequest = s.sources.sweepRequest ∧ t.sources.cursor = s.sources.cursor) ∧
      (s.settings.sweepEnable = true → s.sources.sweepTimer + 1 < s.settings.sweepInterval →
        t.sources.sweepTimer = min (s.sources.sweepTimer + 1) 255 ∧
        t.sources.sweepRequest = s.sources.sweepRequest ∧ t.sources.cursor = s.sources.cursor) ∧
      (s.settings.sweepEnable = true → s.settings.sweepInterval ≤ s.sources.sweepTimer + 1 →
        exec .sweepOccasion s = .next t ∧ t.sources.sweepTimer = 0 ∧
        (s.sources.sweepRequest.isSome = true ∨ s.sources.sweepInProgress = true ∨ s.sources.remainder.isSome = true ∨
            sweepValve s = none →
          t.sources.sweepRequest = s.sources.sweepRequest ∧ t.sources.cursor = s.sources.cursor) ∧
        (∀ w, s.sources.sweepRequest = none → s.sources.sweepInProgress = false → s.sources.remainder = none →
            sweepValve s = some w →
          t.sources.sweepRequest = some w ∧ t.sources.cursor = w)))

/-! ### Crossings and lock states -/

/-- UNLOCKED, LOST and ACQUIRING (R99): the first crossing makes ACQUIRING with a stopped chain; an in-range crossing
loads its period, sets the phase section and counts the agreement of periods toward LOCKED; any other crossing and a
missed crossing restart the good count. An ACQUIRING load also clears a pending load (the model's choice, log entry 24).
A crossing whose operand (the model's choice, log entry 5) takes the interval count beyond 940,000 base ticks follows the
missed crossing that falls there, in every lock state (R90); at 940,000 it is taken first, where R90 allows either order
(the model's choice, log entry 5; MISSED_CROSSING before it is the other order). -/
def Obligations.AcquisitionToTheLock : Prop :=
  (∀ (since : Nat) (s : State), s.lines.porLow = false → 940000 < s.phase.interval + since →
    ∃ m, exec .missedCrossing s = .next m ∧ m.phase.interval = 0 ∧ m.phase.mark = .missed ∧
      exec (.referenceCrossing since) s = exec (.referenceCrossing (s.phase.interval + since - 940000)) m) ∧
  (∀ (since : Nat) (s : State), s.lines.porLow = false → s.phase.interval + since ≤ 940000 →
    s.phase.lock = .unlocked ∨ s.phase.lock = .lost →
    exec (.referenceCrossing since) s = .next (setNotice .phase { s with phase := { s.phase with
      lock := .acquiring, interval := 0, mark := .crossing, good := 0, prevAccepted := none, correction := 0,
      spacing := 0, counting := false } })) ∧
  (∀ s : State, s.lines.porLow = false → s.phase.lock = .unlocked ∨ s.phase.lock = .lost →
    exec .missedCrossing s = .next { s with phase := { s.phase with interval := 0, mark := .missed } }) ∧
  (∀ (since : Nat) (s : State), s.lines.porLow = false → s.phase.interval + since ≤ 940000 → s.phase.lock = .acquiring →
    (s.phase.mark = .crossing → inAcceptedRange (s.phase.interval + since) →
      let p := s.phase.interval + since
      let good := if s.phase.prevAccepted.any (fun q => decide (p ≤ q + q / 256 ∧ q ≤ p + q / 256)) then s.phase.good + 1 else 0
      let f : Phase := { s.phase with
        interval := 0, mark := .crossing, saved := some p, loaded := some p, pendingLoad := false,
        phase := s.settings.referenceOffset, spreadAcc := p % 3600, tick := 0, longStep := false, counting := true,
        prevAccepted := some p }
      (good < 4 → exec (.referenceCrossing since) s = .next { s with phase := { f with good := good } }) ∧
      (4 ≤ good → exec (.referenceCrossing since) s =
        .next (setNotice .phase { s with phase := { f with good := 0, lock := .locked } }))) ∧
    (s.phase.mark = .missed ∨ ¬ inAcceptedRange (s.phase.interval + since) →
      exec (.referenceCrossing since) s =
        .next { s with phase := { s.phase with interval := 0, mark := .crossing, good := 0 } })) ∧
  (∀ s : State, s.lines.porLow = false → s.phase.lock = .acquiring →
    exec .missedCrossing s = .next { s with phase := { s.phase with interval := 0, mark := .missed, good := 0 } })

/-- A crossing and a missed crossing in LOCKED (R96, R100) and in DISTURBED, where the second good crossing in a row
relocks and steers (R96, R101). A crossing out of range stores its phase error too (DEDUCED from R96, log entry 12). The
interval is the count with the operand, up to 940,000 base ticks (the model's choice, log entry 5); AcquisitionToTheLock
states what a greater operand does. -/
def Obligations.LockedAndDisturbed : Prop :=
  (∀ (f : Phase) (offset : Nat), -1800 ≤ phaseError f offset ∧ phaseError f offset ≤ 1799 ∧
    (phaseError f offset - ((f.phase : Int) - offset)) % 3600 = 0) ∧
  ([0, 1, 2, 3].map threshold = [20, 40, 80, 160]) ∧
  (∀ (since : Nat) (s : State), s.lines.porLow = false → s.phase.interval + since ≤ 940000 → s.phase.lock = .locked →
    let e := phaseError s.phase s.settings.referenceOffset
    let f : Phase := { s.phase with interval := 0, mark := .crossing, lastError := some e }
    (s.phase.mark = .crossing → inAcceptedRange (s.phase.interval + since) →
        e.natAbs ≤ threshold s.settings.disturbanceGear →
      let c := if 2 < e.natAbs then max (-50) (min 50 (s.phase.correction - e)) else s.phase.correction
      exec (.referenceCrossing since) s = .next { s with phase := { f with
        saved := some (s.phase.interval + since), pendingLoad := true, correction := c,
        spacing := if 2 < e.natAbs ∧ c = 0 then 0 else s.phase.spacing } }) ∧
    (s.phase.mark = .missed ∨ ¬ inAcceptedRange (s.phase.interval + since) ∨
        threshold s.settings.disturbanceGear < e.natAbs →
      exec (.referenceCrossing since) s =
        .next (stopPending (setNotice .phase { s with phase := { f with good := 0, lock := .disturbed } })))) ∧
  (∀ s : State, s.lines.porLow = false → s.phase.lock = .locked →
    exec .missedCrossing s = .next (stopPending (setNotice .phase { s with phase := { s.phase with
      interval := 0, mark := .missed, lock := .holding, hold := 1 } }))) ∧
  ([0, 1, 2, 3].map relockLimit = [10, 30, 70, 150]) ∧
  (∀ (since : Nat) (s : State), s.lines.porLow = false → s.phase.interval + since ≤ 940000 → s.phase.lock = .disturbed →
    let e := phaseError s.phase s.settings.referenceOffset
    let f : Phase := { s.phase with interval := 0, mark := .crossing, lastError := some e }
    (s.phase.mark = .crossing → inAcceptedRange (s.phase.interval + since) →
        e.natAbs ≤ relockLimit s.settings.disturbanceGear →
      (s.phase.good = 0 → exec (.referenceCrossing since) s = .next { s with phase := { f with good := 1 } }) ∧
      (1 ≤ s.phase.good →
        let c := if 2 < e.natAbs then max (-50) (min 50 (s.phase.correction - e)) else s.phase.correction
        exec (.referenceCrossing since) s = .next (setNotice .phase { s with phase := { f with
          good := 0, lock := .locked, saved := some (s.phase.interval + since), pendingLoad := true, correction := c,
          spacing := if 2 < e.natAbs ∧ c = 0 then 0 else s.phase.spacing } }))) ∧
    (s.phase.mark = .missed ∨ ¬ inAcceptedRange (s.phase.interval + since) ∨
        relockLimit s.settings.disturbanceGear < e.natAbs →
      exec (.referenceCrossing since) s = .next { s with phase := { f with good := 0 } })) ∧
  (∀ s : State, s.lines.porLow = false → s.phase.lock = .disturbed →
    exec .missedCrossing s = .next (stopPending (setNotice .phase { s with phase := { s.phase with
      interval := 0, mark := .missed, lock := .holding, hold := 1, good := 0 } })))

/-- A crossing in HOLDING, which leaves the last error as it was (the model's reading, log entry 12), and a missed
crossing in HOLDING (R102). The loss of the phase (R102, R103, R115, R137): the chain stops,
the counts and the correction are 0, the armed points cleared, a converter that is not stopped goes to TRIPPED with the
latch set and to BLOCKED otherwise with its windows closed and its lanes cut, and PHASE is set. What R103 does not list
is kept, the recovery count is 0 and the counts of the converter's state are kept (the model's choices, log entries 24, 13
and 29). PHASE_LOST is that missed crossing (log entry 4). The crossing's operand is log entry 5's. -/
def Obligations.HoldingAndLoss : Prop :=
  (∀ (since : Nat) (s : State), s.lines.porLow = false → s.phase.interval + since ≤ 940000 → s.phase.lock = .holding →
    exec (.referenceCrossing since) s = .next (stopPending (setNotice .phase { s with phase := { s.phase with
      interval := 0, mark := .crossing, lock := .disturbed, good := 0, hold := 0 } }))) ∧
  (∀ s : State, s.lines.porLow = false → s.phase.lock = .holding →
    (s.phase.hold + 1 ≤ s.settings.holdLimit → s.phase.hold + 1 ≤ 16 →
      exec .missedCrossing s = .next { s with phase := { s.phase with
        interval := 0, mark := .missed, hold := s.phase.hold + 1 } } ∧
      exec .phaseLost s = .next s)) ∧
  (∀ s : State, s.lines.porLow = false → s.phase.lock = .holding → s.settings.holdLimit < s.phase.hold + 1 →
    ∃ t, exec .missedCrossing s = .next t ∧ exec .phaseLost s = .next t ∧ NoticeSet .phase t ∧
      t.phase = { s.phase with
        interval := 0, mark := .missed, lock := .lost, correction := 0, spacing := 0, good := 0, hold := 0,
        counting := false } ∧
      (isStopped s.seq.conv = true → t.seq = s.seq ∧ t.lanes = s.lanes) ∧
      (isStopped s.seq.conv = false → NoticeSet .converter t ∧ t.lanes = mapEntries cutLane s.lanes ∧
        t.seq = stoppedAs (if s.seq.tripLatch then .tripped else .blocked) s.seq) ∧
      t.sources = { s.sources with armed := Vector.replicate 12 none } ∧
      (s.schedule.swapPending = none → t.schedule = s.schedule) ∧
      t.table = s.table ∧ t.tallies = s.tallies ∧ t.settings = s.settings ∧ t.link = s.link ∧ t.lines = s.lines ∧
      t.pending = s.pending)

/-! ### The monitoring link -/

/-- The arbiter in IDLE starts the poll of the pending source with the highest priority, in the order cycle, directed,
sweep among equals (R58, R84, R86); it does nothing in another state or with no source pending. The timer of 1,760 base
ticks for the header pair and its reply timeout (the model's, log entry 19), HEADER from the start of the sending (the
model's choice, log entry 33) and the latched words sent (log entry 21) are those of `telegram`. -/
def Obligations.ArbiterPollStart : Prop :=
  (∀ s : State, s.lines.porLow = false → s.link.state ≠ .idle → exec .arbiterPollStart s = .next s) ∧
  (∀ s : State, s.lines.porLow = false → (∀ x, sourcePending s x = false) → exec .arbiterPollStart s = .next s) ∧
  (∀ (s : State) (x : PollSource), s.lines.porLow = false → s.link.state = .idle → sourcePending s x = true →
    (∀ y, y ≠ x → sourcePending s y = true → sourcePriority s.settings y < sourcePriority s.settings x ∨
      sourcePriority s.settings y = sourcePriority s.settings x ∧ sourceRank x < sourceRank y) →
    (∀ v rest, x = .cycle → s.sources.cycleQueue = v :: rest → exec .arbiterPollStart s = .next { s with
      sources := { s.sources with cycleQueue := rest },
      link := telegram .cycle .cycle v 1 (s.tally v).top s.link }) ∧
    (∀ e rest, x = .directed → s.sources.directed = e :: rest → exec .arbiterPollStart s = .next { s with
      sources := { s.sources with directed := { e with inProgress := true } :: rest },
      link := telegram .directed .deep e.valve e.first (e.first + e.count - 1) s.link }) ∧
    (∀ v n, x = .sweep → s.sources.remainder = some (v, n) → exec .arbiterPollStart s = .next { s with
      sources := { s.sources with remainder := none, sweepInProgress := true },
      link := telegram .sweep .deep v n (s.tally v).top s.link }) ∧
    (∀ v, x = .sweep → s.sources.remainder = none → s.sources.sweepRequest = some v →
      exec .arbiterPollStart s = .next { s with
        sources := { s.sources with sweepRequest := none, sweepInProgress := true },
        link := telegram .sweep .deep v 1 (s.tally v).top s.link })) ∧
  (∀ s : State, (sourcePending s .cycle = true ↔ s.sources.cycleQueue ≠ []) ∧
    (sourcePending s .directed = true ↔ ∃ e rest, s.sources.directed = e :: rest ∧ e.inProgress = false) ∧
    (sourcePending s .sweep = true ↔ s.sources.remainder.isSome = true ∨ s.sources.sweepRequest.isSome = true))

/-- A reply header in HEADER (R59, R63, R68, R78): accepted when its valve is the poll's, with the BLOCKING flag handed
on, the fault flag taken and the poll carried on or cut; discarded with a mismatch and LINK otherwise. Toward the
expectation word the timer of 400 base ticks (log entry 19), EXCHANGE from the start of the sending (log entry 33) and the
latched word sent (log entry 21) are the model's. -/
def Obligations.ReplyHeaderInHeader : Prop :=
  ([0, 1, 2, 3, 4, 5, 6, 7].map intervalTicks = [0, 20, 40, 80, 160, 320, 640, 1280]) ∧
  (∀ (f : BitVec 20) (s : State) (p : Poll), s.lines.porLow = false → isReplyHeader f = true → s.link.state = .header →
    s.link.poll = some p →
    let w := frameWord f
    (w.toNat % 16 ≠ p.valve.val + 1 → exec (.replyHeader f) s =
      .next (setNotice .link { s with link := { s.link with mismatches := min (s.link.mismatches + 1) 255 } })) ∧
    (w.toNat % 16 = p.valve.val + 1 → s.link.holdPending = none → ∃ t, exec (.replyHeader f) s = .next t ∧
      (let l := { s.link with vmuFault := put s.link.vmuFault p.valve (w.getLsbD 5) }
       t.link = if s.link.cutPending then atRest .idle none l else towardWord p s l) ∧
      t.sources = (if s.link.cutPending then
          { s.sources with sweepInProgress := false,
                           remainder := if s.settings.sweepEnable then some (p.valve, p.next) else none }
        else s.sources) ∧
      (w.getLsbD 5 = true → s.link.vmuFault[p.valve] = false → NoticeSet .link t) ∧
      (w.getLsbD 5 = false ∨ s.link.vmuFault[p.valve] = true →
        t.portA.flags = s.portA.flags ∧ t.portB.flags = s.portB.flags) ∧
      (p.source = .cycle → w.getLsbD 4 = false → s.seq.conv = .ramping ∨ s.seq.conv = .running →
        s.livePage.role = .inverter →
        t.seq = { s.seq with cfHold := s.settings.cfHold, cfMark := true, lastFailure := some p.valve }) ∧
      (p.source ≠ .cycle ∨ w.getLsbD 4 = true ∨ s.seq.conv ≠ .ramping ∧ s.seq.conv ≠ .running ∨
        s.livePage.role = .rectifier → t.seq = s.seq) ∧
      OffLink { s with seq := t.seq } t))

/-- A result word in EXCHANGE (R61, R62, R64, R68, R69, R170): its result is handed to the Evidence Unit, or discarded
with a mismatch when its position check differs or its deep outcome is undefined; then the poll completes, is cut, is
held, or goes on, in this order. Where it goes on, the timer of 400 base ticks (log entry 19), EXCHANGE from the start of
the sending (log entry 33) and the latched word sent (log entry 21) are the model's. -/
def Obligations.ResultWordInExchange : Prop :=
  ∀ (f : BitVec 20) (s : State) (p : Poll) (x : Position), s.lines.porLow = false → isResultWord f = true →
    s.link.state = .exchange → s.link.poll = some p → positionNumber x = p.next →
    let w := frameWord f
    ∃ s1 t, exec (.resultWord f) s = .next t ∧
      (w.toNat / 4096 ≠ p.next % 16 ∨ w.toNat / 256 % 4 = 3 → s1 =
        setNotice .link { s with link := { s.link with mismatches := min (s.link.mismatches + 1) 255 } }) ∧
      (∀ deep, w.toNat / 4096 = p.next % 16 →
        w.toNat / 256 % 4 = 0 ∧ deep = .notRun ∨ w.toNat / 256 % 4 = 1 ∧ deep = .pass ∨
          w.toNat / 256 % 4 = 2 ∧ deep = .fail →
        s1 = applyResult { valve := p.valve, position := x, kind := p.kind, present := w.getLsbD 11,
                           protective := w.getLsbD 10, deep := deep, delay := w.extractLsb' 0 8 } s) ∧
      OffLink s1 t ∧
      (p.next = p.last → HoldAnswered s t ∧ (s.link.down = true → NoticeSet .link t) ∧
        t.link = atRest (restState s.link) none { s1.link with failures := 0, down := false } ∧
        t.sources = (tellEnded p s1).sources) ∧
      (p.next < p.last → s.link.cutPending = true → HoldAnswered s t ∧
        t.link = atRest (restState s.link) none s1.link ∧
        t.sources = { s1.sources with sweepInProgress := false,
                                      remainder := if s.settings.sweepEnable then some (p.valve, p.next + 1) else none }) ∧
      (p.next < p.last → s.link.cutPending = false → s.link.holdPending.isSome = true → HoldAnswered s t ∧
        t.link = atRest .held (some { p with next := p.next + 1 }) s1.link ∧ t.sources = s1.sources) ∧
      (p.next < p.last → s.link.cutPending = false → s.link.holdPending = none →
        t.link = towardWord { p with next := p.next + 1 } s1 s1.link ∧ t.sources = s1.sources)

/-- What a source does when it is told how its poll ended, and how the sweep cursor moves (R82, R86, R87). -/
def Obligations.PollEndAtItsSource : Prop :=
  (∀ (p : Poll) (s : State),
    (p.source = .cycle → tellEnded p s = s) ∧
    (p.source = .directed →
      tellEnded p s = { s with sources := { s.sources with directed := s.sources.directed.tail } }) ∧
    (p.source = .sweep → p.valve ≠ s.sources.cursor →
      tellEnded p s = { s with sources := { s.sources with sweepInProgress := false } }) ∧
    (∀ w, p.source = .sweep → p.valve = s.sources.cursor → nextCursor p.valve s = some w →
      tellEnded p s = { s with sources := { s.sources with sweepInProgress := false, cursor := w } }) ∧
    tellCut p s = { s with sources := { s.sources with
      sweepInProgress := false, remainder := if s.settings.sweepEnable then some (p.valve, p.next) else none } }) ∧
  (∀ (v w : Valve) (s : State), nextCursor v s = some w ↔
    ∃ k : Valve, w = v - 1 - k ∧ 0 < (s.tally w).top ∧ ∀ j : Valve, j < k → (s.tally (v - 1 - j)).top = 0)

/-- The ends of the link's timers (R63, R65, R66): the word interval leads to the next expectation word; the timeout of
an awaited word aborts the poll, with link-down at the eighth abort in a row. LINK_DOWN is that timeout (log entry 4). A
timer's command that finds the engine in another state has no effect (log entry 3). The timer of 400 base ticks that the
expectation word sets (log entry 19), EXCHANGE from the start of the sending (log entry 33) and the latched word sent (log
entry 21) are the model's. -/
def Obligations.LinkTimersEndOrAbort : Prop :=
  (∀ (s : State) (p : Poll), s.lines.porLow = false → s.link.state = .interval → s.link.poll = some p →
    exec .wordIntervalEnd s = .next { s with link := { s.link with
      state := .exchange, timer := some 400,
      sent := [linkFrame false (expectationWord p.next (skipsPosition p.valve p.next s))] } }) ∧
  (∀ s : State, s.lines.porLow = false →
    (s.link.state ≠ .interval → exec .wordIntervalEnd s = .next s) ∧
    (s.link.state ≠ .header → exec .replyTimeout s = .next s) ∧
    (s.link.state ≠ .exchange → exec .wordTimeout s = .next s) ∧
    (s.link.failures ≠ 7 → exec .linkDown s = .next s)) ∧
  (∀ (s : State) (p : Poll), s.lines.porLow = false → s.link.state = .header ∨ s.link.state = .exchange →
    s.link.poll = some p → ∃ t, HoldAnswered s t ∧ OffLink s t ∧
      (s.link.state = .header → exec .replyTimeout s = .next t) ∧
      (s.link.state = .exchange → exec .wordTimeout s = .next t) ∧
      (s.link.failures = 7 → exec .linkDown s = .next t ∧ NoticeSet .link t) ∧
      t.link = atRest (restState s.link) none { s.link with
        timeouts := min (s.link.timeouts + 1) 255, failures := min (s.link.failures + 1) 255,
        down := if s.link.failures = 7 then true else s.link.down } ∧
      t.sources = (tellEnded p s).sources ∧
      (s.link.failures ≠ 7 → t.portA.flags = s.portA.flags ∧ t.portB.flags = s.portB.flags))

/-- SWEEP_CUT and DEFERRED_HOLD are the awaited word, or its timeout, where a cut or a hold is pending (log entry 4; R59,
R61, R68, R69). -/
def Obligations.CutAndHoldAtTheAwaitedWord : Prop :=
  (∀ (f : BitVec 20) (s : State) (p : Poll), s.lines.porLow = false → LinkOk s → s.link.poll = some p →
    s.link.cutPending = true →
    (s.link.state = .header → isReplyHeader f = true → (frameWord f).toNat % 16 = p.valve.val + 1 →
      ∃ t, exec (.sweepCut f) s = .next t ∧
      exec (.replyHeader f) s = .next t ∧ t.link.state = .idle ∧ t.link.poll = none ∧ t.link.cutPending = false ∧
      t.sources.sweepInProgress = false ∧
      t.sources.remainder = if s.settings.sweepEnable then some (p.valve, p.next) else none) ∧
    (s.link.state = .exchange → isResultWord f = true → p.next < p.last → ∃ t, exec (.sweepCut f) s = .next t ∧
      exec (.resultWord f) s = .next t ∧ t.link.state = restState s.link ∧ t.link.poll = none ∧
      t.link.cutPending = false ∧ t.sources.sweepInProgress = false ∧
      t.sources.remainder = if s.settings.sweepEnable then some (p.valve, p.next + 1) else none)) ∧
  (∀ (f : BitVec 20) (s : State), s.lines.porLow = false → s.link.cutPending = false → exec (.sweepCut f) s = .next s) ∧
  (∀ (f : Option (BitVec 20)) (s : State) (p : Poll), s.lines.porLow = false → f.all isResultWord = true →
    s.link.poll = some p → s.link.state = .exchange → s.link.holdPending.isSome = true →
    ∃ t, exec (.deferredHold f) s = .next t ∧
      (∀ x, f = some x → exec (.resultWord x) s = .next t) ∧ (f = none → exec .wordTimeout s = .next t) ∧
      t.link.state = .held ∧ t.link.holdPending = none ∧ HoldAnswered s t ∧
      (f = none ∨ s.link.cutPending = true ∨ p.last ≤ p.next → t.link.poll = none) ∧
      (f.isSome = true → s.link.cutPending = false → p.next < p.last →
        t.link.poll = some { p with next := p.next + 1 })) ∧
  (∀ (f : Option (BitVec 20)) (s : State), s.lines.porLow = false → s.link.holdPending = none →
    exec (.deferredHold f) s = .next s)

/-- A word that the engine does not await is an overrun: the overrun count and LINK, and nothing else (R67). -/
def Obligations.UnawaitedWordIsAnOverrun : Prop :=
  ∀ (f : BitVec 20) (s : State), s.lines.porLow = false →
    (isResultWord f = true → s.link.state ≠ .exchange → exec (.resultWord f) s =
      .next (setNotice .link { s with link := { s.link with overruns := min (s.link.overruns + 1) 255 } })) ∧
    (isReplyHeader f = true → s.link.state ≠ .header → exec (.replyHeader f) s =
      .next (setNotice .link { s with link := { s.link with overruns := min (s.link.overruns + 1) 255 } }))

/-- The frames of the link (R56, R170): the checks of a received frame, the type mark that tells a reply header from a
result word (that the three rows are the one receipt of a frame is the model's choice, log entry 25), a mismatch with LINK for a frame that fails; the frame of a
word, with its start mark, type mark, word, odd parity and stop mark, passes the checks, and with one bit inverted fails
them; the bits of the three words that the part sends. -/
def Obligations.LinkFramesCheckTheirParity : Prop :=
  (∀ (f : BitVec 20) (s : State), s.lines.porLow = false → frameOk f = false →
    exec (.frameError f) s =
      .next (setNotice .link { s with link := { s.link with mismatches := min (s.link.mismatches + 1) 255 } })) ∧
  (∀ (f : BitVec 20) (s : State), exec (.replyHeader f) s = exec (.frameError f) s ∧
    exec (.resultWord f) s = exec (.frameError f) s) ∧
  (∀ f : BitVec 20,
    (frameOk f = true ↔ f.getLsbD 19 = false ∧ f.getLsbD 0 = true ∧
      ((List.range 18).countP fun k => f.getLsbD (k + 1)) % 2 = 1) ∧
    (isReplyHeader f = true ↔ frameOk f = true ∧ f.getLsbD 18 = true) ∧
    (isResultWord f = true ↔ frameOk f = true ∧ f.getLsbD 18 = false) ∧ frameWord f = f.extractLsb' 2 16) ∧
  (∀ (m : Bool) (w : Word16), frameOk (linkFrame m w) = true ∧ (linkFrame m w).getLsbD 19 = false ∧
    (linkFrame m w).getLsbD 18 = m ∧ (linkFrame m w).extractLsb' 2 16 = w ∧ (linkFrame m w).getLsbD 0 = true) ∧
  (∀ (m : Bool) (w : Word16) (k : Fin 20), frameOk (linkFrame m w ^^^ (1#20 <<< k.val)) = false) ∧
  (∀ (kind : PollKind) (v : Valve), (firstHeaderWord kind v).getLsbD 15 = decide (kind = .deep) ∧
    (firstHeaderWord kind v).extractLsb' 4 11 = 0 ∧
    (firstHeaderWord kind v).extractLsb' 0 4 = BitVec.ofNat 4 (v.val + 1)) ∧
  (∀ first count : Nat, (secondHeaderWord first count).extractLsb' 9 7 = BitVec.ofNat 7 first ∧
    (secondHeaderWord first count).extractLsb' 7 2 = 0 ∧
    (secondHeaderWord first count).extractLsb' 0 7 = BitVec.ofNat 7 count) ∧
  (∀ (position : Nat) (skip : Bool), (expectationWord position skip).extractLsb' 8 8 = 0 ∧
    (expectationWord position skip).getLsbD 7 = skip ∧
    (expectationWord position skip).extractLsb' 0 7 = BitVec.ofNat 7 position)

/-- HOLD LINK by engine state (R69), and RELEASE LINK with its three cases (R71, R72). The resumed poll's timer of 1,760
base ticks (log entry 19), HEADER from the start of the sending (log entry 33), the latched words sent (log entry 21) and
the port kept with a pending hold (log entry 20) are the model's. -/
def Obligations.HoldAndReleaseTheLink : Prop :=
  (∀ (q : Sender) (s : State), Executing (.holdLink q) q s → LinkOk s →
    (s.link.state = .idle ∨ s.link.state = .interval →
      Completes (.holdLink q) q { s with link := atRest .held s.link.poll s.link } (plain .done) s) ∧
    (s.link.state = .header → s.link.cutPending = false →
      Completes (.holdLink q) q { s with link := atRest .held s.link.poll s.link } (plain .done) s) ∧
    (∀ p, s.link.state = .header → s.link.cutPending = true → s.link.poll = some p →
      Completes (.holdLink q) q { s with
        link := atRest .held none s.link,
        sources := { s.sources with
          sweepInProgress := false,
          remainder := if s.settings.sweepEnable then some (p.valve, p.next) else none } } (plain .done) s) ∧
    (s.link.state = .exchange → s.link.holdPending = none →
      LeftWaiting (.holdLink q) q { s with link := { s.link with holdPending := some q.port } } s) ∧
    (s.link.state = .exchange → s.link.holdPending.isSome = true →
      Completes (.holdLink q) q s (plain .pending) s) ∧
    (s.link.state = .held → Completes (.holdLink q) q s (plain .done) s)) ∧
  (∀ (q : Sender) (s : State), Executing (.releaseLink q) q s →
    (s.link.state ≠ .held → Completes (.releaseLink q) q s (plain .wrongState) s) ∧
    (s.link.state = .held → s.link.poll = none →
      Completes (.releaseLink q) q { s with link := atRest .idle none s.link } (plain .done) s) ∧
    (∀ p, s.link.state = .held → s.link.poll = some p →
      (p.superseded = true →
        Completes (.releaseLink q) q { s with link := atRest .idle none s.link } (plain .done) s) ∧
      (p.superseded = false →
        Completes (.releaseLink q) q { s with link := telegram p.source p.kind p.valve p.next p.last s.link }
          (plain .done) s)))

/-! ### Evidence -/

/-- A result for a record that is not monitored is ignored (R38). A result with indication ABSENT: the miss run, the
progress, and SHORTED at the miss limit (R40, R41). -/
def Obligations.IgnoredAndMissingResults : Prop :=
  (∀ (res : Result) (s : State),
    (s.record res.valve res.position).life ≠ .proving → (s.record res.valve res.position).life ≠ .serving →
    (s.record res.valve res.position).life ≠ .suspect → applyResult res s = s) ∧
  (∀ (res : Result) (s : State), isMonitored (s.record res.valve res.position).life = true → res.present = false →
    let r := s.record res.valve res.position
    let m := min (r.missRun + 1) 15
    let r1 := { r with missRun := m, progress := 0, lastCycle := some s.phase.cycle }
    (m < s.settings.missLimit → WrittenOnly res.valve res.position r1 s (applyResult res s) ∧
      (applyResult res s).sources = s.sources ∧
      (applyResult res s).portA = s.portA ∧ (applyResult res s).portB = s.portB) ∧
    (s.settings.missLimit ≤ m → Verdict res.valve res.position
      { r1 with life := .shorted, cause := some .noIndication, revision := r.revision + 1 } s (applyResult res s) ∧
      (applyResult res s).sources = s.sources))

/-- A protective firing (R42 to R45): the runs, DARK at the dark limit, SUSPECT from SERVING, the offer to the directed
queue from a CYCLE poll. -/
def Obligations.ProtectiveFiringByLifeState : Prop :=
  ∀ (res : Result) (s : State), isMonitored (s.record res.valve res.position).life = true → res.present = true →
    res.protective = true →
    let r := s.record res.valve res.position
    let n := min (r.pfRun + 1) 15
    let r1 := { r with missRun := 0, pfRun := n, pfTotal := min (r.pfTotal + 1) 255, progress := 0,
                       lastCycle := some s.phase.cycle }
    let t := applyResult res s
    (s.settings.darkLimit ≤ n → Verdict res.valve res.position
      { r1 with life := .dark, cause := some .lightPath, revision := r.revision + 1 } s t) ∧
    (n < s.settings.darkLimit →
      (r.life = .serving → Verdict res.valve res.position
        { r1 with life := .suspect, cause := some .protectiveFiring, revision := r.revision + 1 } s t) ∧
      (r.life = .suspect → WrittenOnly res.valve res.position { r1 with cause := some .protectiveFiring } s t) ∧
      (r.life = .proving → WrittenOnly res.valve res.position r1 s t)) ∧
    (res.kind = .deep → t.sources = s.sources) ∧
    (res.kind = .cycle → s.sources.directed.length < 4 → t.sources = { s.sources with
      directed := s.sources.directed ++ [{ valve := res.valve, first := positionNumber res.position, count := 1,
                                           origin := .protectiveFiring, inProgress := false }] }) ∧
    (res.kind = .cycle → 4 ≤ s.sources.directed.length → t.sources = s.sources ∧ NoticeSet .queueDrop t)

/-- A clean result (R46 to R51): the runs and the delay window with its mean, the fault and its cause, and what the
record's life state makes of them. -/
def Obligations.CleanResultByLifeState : Prop :=
  ∀ (res : Result) (s : State), isMonitored (s.record res.valve res.position).life = true → res.present = true →
    res.protective = false → (s.record res.valve res.position).window.length ≤ 3 →
    let r := s.record res.valve res.position
    let samples := r.window ++ [res.delay]
    let closed := decide (samples.length = 4)
    let mean := (samples.map BitVec.toNat).sum / 4
    let r1 := { r with
      missRun := 0, pfRun := 0, window := if closed then [] else samples,
      mean := if closed then some (byte mean) else r.mean, lastCycle := some s.phase.cycle }
    let fault : Option Cause :=
      if res.deep = .fail then some .deepTest
      else if closed ∧ mean < s.settings.windowLow then some .meanLow
      else if closed ∧ s.settings.windowHigh < mean then some .meanHigh else none
    let t := applyResult res s
    t.sources = s.sources ∧
    (r.life = .proving → fault.isSome = true → WrittenOnly res.valve res.position { r1 with progress := 0 } s t) ∧
    (r.life = .proving → fault = none → r.progress + 1 < s.settings.provingCount →
      WrittenOnly res.valve res.position { r1 with progress := r.progress + 1 } s t) ∧
    (r.life = .proving → fault = none → s.settings.provingCount ≤ r.progress + 1 → Verdict res.valve res.position
      { r1 with life := .serving, progress := 0, revision := r.revision + 1 } s t) ∧
    (∀ why, r.life = .serving → fault = some why → Verdict res.valve res.position
      { r1 with life := .suspect, cause := some why, progress := 0, revision := r.revision + 1 } s t) ∧
    (r.life = .serving → fault = none → WrittenOnly res.valve res.position r1 s t) ∧
    (∀ why, r.life = .suspect → fault = some why →
      WrittenOnly res.valve res.position { r1 with cause := some why, progress := 0 } s t) ∧
    (r.life = .suspect → fault = none → closed = true → r.progress + 1 < s.settings.clearCount →
      WrittenOnly res.valve res.position { r1 with progress := r.progress + 1 } s t) ∧
    (r.life = .suspect → fault = none → closed = true → s.settings.clearCount ≤ r.progress + 1 →
      Verdict res.valve res.position
        { r1 with life := .serving, cause := none, progress := 0, revision := r.revision + 1 } s t) ∧
    (r.life = .suspect → fault = none → closed = false → WrittenOnly res.valve res.position r1 s t)

/-- The grade of a valve (R27), and what a verdict does to the tally and the sequencer (R25, R28, R29): the tally stays a
recount of the records, a change of grade sets GRADE, and an entry into UNFIT reaches the sequencer as the trip cause
VALVE UNFIT. -/
def Obligations.VerdictConsequences : Prop :=
  (∀ sound failed minimum reserve : Nat,
    (gradeOf sound failed minimum reserve = .unfit ↔ sound < minimum) ∧
    (gradeOf sound failed minimum reserve = .marginal ↔ minimum ≤ sound ∧ sound < minimum + reserve) ∧
    (gradeOf sound failed minimum reserve = .reduced ↔ minimum + reserve ≤ sound ∧ 1 ≤ failed) ∧
    (gradeOf sound failed minimum reserve = .full ↔ minimum + reserve ≤ sound ∧ failed = 0)) ∧
  (∀ (res : Result) (s : State), TalliesOk s → TalliesOk (applyResult res s)) ∧
  (∀ (res : Result) (s : State),
    let t := applyResult res s
    ((t.tally res.valve).grade ≠ (s.tally res.valve).grade → NoticeSet .grade t) ∧
    ((t.tally res.valve).grade = .unfit → (s.tally res.valve).grade ≠ .unfit →
      t.seq = (unfitEntry res.valve .evidence s).seq ∧ t.lanes = (unfitEntry res.valve .evidence s).lanes) ∧
    ((t.tally res.valve).grade ≠ .unfit ∨ (s.tally res.valve).grade = .unfit → t.seq = s.seq ∧ t.lanes = s.lanes))

/-! ### Requests on records and on the directed queue -/

/-- ADMIT (R1, R7, R12, R14): BAD KEY, BAD VALUE for a tag of 0 (R168), WRONG STATE, SPREAD, or a PROVING record with
clear evidence. That BAD KEY comes before BAD VALUE is the model's choice (log entry 15). -/
def Obligations.AdmitMakesTheRecordProving : Prop :=
  ∀ (q : Sender) (valve position : Byte) (cls : Option EmitClass) (tag : Option Word24) (s : State),
    let c := Instr.admitLevel q valve position cls tag
    Executing c q s →
    (valveOf? valve = none ∨ positionOf? position.toNat = none → Completes c q s (plain .badKey) s) ∧
    (∀ v p, valveOf? valve = some v → positionOf? position.toNat = some p →
      (tag = some 0 → Completes c q s (plain .badValue) s) ∧
      (tag ≠ some 0 →
        let r := s.record v p
        let new := { withoutEvidence r with
          life := .proving, revision := r.revision + 1, cause := none, retireReason := none,
          emitClass := cls.getD .standard, unitTag := tag }
        (r.life ≠ .empty → r.life ≠ .retired → Completes c q s (withRevision .wrongState r) s) ∧
        (r.life = .empty ∨ r.life = .retired → TalliesOk s →
          (s.settings.spreadLimit < spreadWith v p new s → Completes c q s (withRevision .spread r) s) ∧
          (spreadWith v p new s ≤ s.settings.spreadLimit → ChangeMade c q v p new true s))))

/-- AMEND without an action, with CLEAR and with REPROVE (R8 to R10, R12 to R14). -/
def Obligations.AmendByItsAction : Prop :=
  ∀ (q : Sender) (valve position : Byte) (cls : Option EmitClass) (tagChange : Option Word24)
    (expected : Option Word16) (c : Instr) (s : State), Executing c q s →
    (c = .amend q valve position cls tagChange expected ∨ c = .amendClear q valve position cls tagChange expected ∨
      c = .amendReprove q valve position cls tagChange expected) →
    (valveOf? valve = none ∨ positionOf? position.toNat = none → Completes c q s (plain .badKey) s) ∧
    (∀ v p, valveOf? valve = some v → positionOf? position.toNat = some p →
      let r := s.record v p
      let a := amended cls tagChange r
      let classMoves : Bool := isEmitting r.life && decide (a.emitClass ≠ r.emitClass)
      ((∃ e, expected = some e ∧ e ≠ r.revision) → Completes c q s (withRevision .stale r) s) ∧
      (expected = none ∨ expected = some r.revision →
        (c = .amend q valve position cls tagChange expected →
          (r.life = .empty ∨ r.life = .retired → Completes c q s (withRevision .wrongState r) s) ∧
          (r.life ≠ .empty → r.life ≠ .retired → TalliesOk s →
            let moved := decide (a.emitClass ≠ r.emitClass ∨ a.unitTag ≠ r.unitTag)
            (classMoves = true → s.settings.spreadLimit < spreadWith v p a s →
              Completes c q s (withRevision .spread r) s) ∧
            (classMoves = false ∨ spreadWith v p a s ≤ s.settings.spreadLimit →
              ChangeMade c q v p (advanced moved a) moved s))) ∧
        (c = .amendClear q valve position cls tagChange expected →
          (r.life ≠ .suspect → Completes c q s (withRevision .wrongState r) s) ∧
          (r.life = .suspect → TalliesOk s →
            let new := { a with life := .serving, cause := none, progress := 0 }
            (classMoves = true → s.settings.spreadLimit < spreadWith v p new s →
              Completes c q s (withRevision .spread r) s) ∧
            (classMoves = false ∨ spreadWith v p new s ≤ s.settings.spreadLimit →
              ChangeMade c q v p (advanced true new) true s))) ∧
        (c = .amendReprove q valve position cls tagChange expected →
          (r.life ≠ .suspect → r.life ≠ .shorted → r.life ≠ .dark →
            Completes c q s (withRevision .wrongState r) s) ∧
          (r.life = .suspect ∨ r.life = .shorted ∨ r.life = .dark → TalliesOk s →
            let new := { withoutEvidence a with life := .proving, cause := none }
            (r.life = .suspect → marginRefuses v s = true → Completes c q s (withRevision .margin r) s) ∧
            (r.life ≠ .suspect ∨ marginRefuses v s = false →
              (r.life ≠ .suspect ∨ classMoves = true → s.settings.spreadLimit < spreadWith v p new s →
                Completes c q s (withRevision .spread r) s) ∧
              (r.life = .suspect ∧ classMoves = false ∨ spreadWith v p new s ≤ s.settings.spreadLimit →
                ChangeMade c q v p (advanced true new) true s))))))

/-- RETIRE (R11 to R13, R34): STALE, WRONG STATE, MARGIN for a sound record, or a RETIRED record that keeps its
evidence. -/
def Obligations.RetireKeepsTheEvidence : Prop :=
  ∀ (q : Sender) (valve position : Byte) (why : RetireReason) (expected : Option Word16) (s : State),
    let c := Instr.retire q valve position why expected
    Executing c q s →
    (valveOf? valve = none ∨ positionOf? position.toNat = none → Completes c q s (plain .badKey) s) ∧
    (∀ v p, valveOf? valve = some v → positionOf? position.toNat = some p →
      let r := s.record v p
      ((∃ e, expected = some e ∧ e ≠ r.revision) → Completes c q s (withRevision .stale r) s) ∧
      (expected = none ∨ expected = some r.revision →
        (r.life = .empty ∨ r.life = .retired → Completes c q s (withRevision .wrongState r) s) ∧
        (r.life ≠ .empty → r.life ≠ .retired → TalliesOk s →
          (isSound r.life = true → marginRefuses v s = true → Completes c q s (withRevision .margin r) s) ∧
          (isSound r.life = false ∨ marginRefuses v s = false →
            ChangeMade c q v p
              { r with life := .retired, retireReason := some why, progress := 0, revision := r.revision + 1 }
              true s))))

/-- CHECK (R80): BAD VALUE for the count, BAD KEY for the valve and the range, FULL, or an entry at the tail of the
directed queue. -/
def Obligations.CheckJoinsTheDirectedQueue : Prop :=
  ∀ (q : Sender) (valve first count : Byte) (s : State),
    let c := Instr.check q valve first count
    Executing c q s →
    (count.toNat = 0 ∨ 8 < count.toNat → Completes c q s (plain .badValue) s) ∧
    (1 ≤ count.toNat → count.toNat ≤ 8 →
      (valveOf? valve = none ∨ first.toNat = 0 ∨ 97 < first.toNat + count.toNat →
        Completes c q s (plain .badKey) s) ∧
      (∀ v, valveOf? valve = some v → 1 ≤ first.toNat → first.toNat + count.toNat ≤ 97 →
        (4 ≤ s.sources.directed.length → Completes c q s (plain .full) s) ∧
        (s.sources.directed.length < 4 → Completes c q { s with sources := { s.sources with
          directed := s.sources.directed ++ [{ valve := v, first := first.toNat, count := count.toNat,
                                               origin := .request, inProgress := false }] } } (plain .done) s)))

/-! ### Firing schedule -/

/-- ORDER (R110, R111): the field checks, PENDING, WRONG STATE for a role that differs from the live one outside BLOCKED
and TRIPPED, and the staged page with every carried part written, valid, its alpha clamped. -/
def Obligations.OrderWritesTheStagedPage : Prop :=
  ∀ (q : Sender) (o : OrderParts) (s : State),
    let c := Instr.order q o
    let outOfRange := (∃ e ∈ o.entries, e.trim.toInt < -20 ∨ 20 < e.trim.toInt) ∨
      (∃ k, o.leg = some k ∧ (k.toNat = 0 ∨ 3 < k.toNat)) ∨ (∃ a, o.alpha = some a ∧ 3599 < a.toNat) ∨
      ¬ (o.entries.map OrderEntry.valve).Nodup
    Executing c q s →
    ((∃ e ∈ o.entries, valveOf? e.valve = none) → Completes c q s (plain .badKey) s) ∧
    ((∀ e ∈ o.entries, valveOf? e.valve ≠ none) →
      (outOfRange → Completes c q s (plain .badValue) s) ∧
      (¬ outOfRange →
        (s.schedule.swapPending.isSome = true → Completes c q s (plain .pending) s) ∧
        (s.schedule.swapPending = none →
          ((∃ r, o.role = some r ∧ r ≠ s.livePage.role) → isStopped s.seq.conv = false →
            Completes c q s (plain .wrongState) s) ∧
          (o.role = none ∨ o.role = some s.livePage.role ∨ isStopped s.seq.conv = true → ∃ g : Page,
            Completes c q (setStagedPage g s)
              (plain (if o.alpha.any fun a => decide (a.toNat < s.settings.alphaMin ∨ s.settings.alphaMax < a.toNat)
                then .clamped else .done)) s ∧
            (setStagedPage g s).stagedPage = g ∧ (setStagedPage g s).livePage = s.livePage ∧ g.valid = true ∧
            (o.alpha = none → g.alpha = s.stagedPage.alpha) ∧
            (∀ a, o.alpha = some a → g.alpha = clampNat s.settings.alphaMin s.settings.alphaMax a.toNat) ∧
            g.role = o.role.getD s.stagedPage.role ∧
            (o.leg = none → g.leg = s.stagedPage.leg) ∧ (∀ k, o.leg = some k → g.leg.val + 1 = k.toNat) ∧
            (∀ e ∈ o.entries, ∀ v, valveOf? e.valve = some v → g.trims[v] = e.trim.toInt ∧ g.pairs[v] = e.pair) ∧
            (∀ v : Valve, (∀ e ∈ o.entries, valveOf? e.valve ≠ some v) →
              g.trims[v] = s.stagedPage.trims[v] ∧ g.pairs[v] = s.stagedPage.pairs[v])))))

/-- SWAP (R112 to R115): PENDING, NOT READY, WRONG STATE; made at once with a change of role or a chain that does not
run; otherwise left waiting with the swap-pending flag. A pending swap is made at the next cycle start and at the loss of
the phase: the former staged page is live, the staged page its copy, SWAP set, and the port that sent it answered DONE.
DEFERRED_SWAP is that event (log entry 4). -/
def Obligations.SwapMadeOrWaiting : Prop :=
  (∀ (q : Sender) (s : State), Executing (.swap q) q s →
    (s.schedule.swapPending.isSome = true → Completes (.swap q) q s (plain .pending) s) ∧
    (s.schedule.swapPending = none →
      (s.stagedPage.valid = false → Completes (.swap q) q s (notReady .pageInvalid) s) ∧
      (s.stagedPage.valid = true →
        (s.stagedPage.role ≠ s.livePage.role → isStopped s.seq.conv = false →
          Completes (.swap q) q s (plain .wrongState) s) ∧
        (s.stagedPage.role ≠ s.livePage.role ∧ isStopped s.seq.conv = true ∨
            s.stagedPage.role = s.livePage.role ∧ chainRuns s.phase.lock = false →
          Completes (.swap q) q (setNotice .swap { s with schedule :=
            { pageA := s.stagedPage, pageB := s.stagedPage, live := otherPage s.schedule.live, swapPending := none } })
            (plain .done) s) ∧
        (s.stagedPage.role = s.livePage.role → chainRuns s.phase.lock = true →
          LeftWaiting (.swap q) q { s with schedule := { s.schedule with swapPending := some q.port } } s)))) ∧
  (∀ (s : State) (p : Port), s.lines.porLow = false → chainRuns s.phase.lock = true → s.schedule.swapPending = some p →
    (s.phase.counting = true → 0 ∈ passedNext s.phase → ∃ t, exec .phaseStepEvent s = .next t ∧
      exec (.deferredSwap .cycleStart) s = .next t ∧ NoticeSet .swap t ∧ OwnerAnswered p s t ∧
      t.schedule = { pageA := s.stagedPage, pageB := s.stagedPage, live := otherPage s.schedule.live,
                     swapPending := none }) ∧
    (s.phase.counting = true → 0 ∉ passedNext s.phase → ∃ t, exec .phaseStepEvent s = .next t ∧
      t.schedule = s.schedule) ∧
    (s.phase.lock = .holding → s.settings.holdLimit < s.phase.hold + 1 → ∃ t, exec .missedCrossing s = .next t ∧
      exec (.deferredSwap .phaseLost) s = .next t ∧ NoticeSet .swap t ∧ OwnerAnswered p s t ∧
      t.schedule = { pageA := s.stagedPage, pageB := s.stagedPage, live := otherPage s.schedule.live,
                     swapPending := none }))

/-! ### Settings -/

/-- SET of each of the thirty-three settings (R165): BAD KEY, then WRONG STATE, BAD VALUE, PENDING and SPREAD in this
order, then the value stored with its consequences for grade (R30), spreads (R33), sweep source (R83), pages (R117) and
Phase Unit (R105, R115); the codes, ranges and defaults, which settings are per valve and which may change at any time
(R164), and the default of each after a power-on reset. The ramp value follows alpha min (the model's choice, log entry 14). -/
def Obligations.SetChecksAndStores : Prop :=
  ∀ (σ : Setting) (q : Sender) (valve : Byte) (value : Word16) (s : State),
    let c := setCommand q valve value σ
    let n := value.toNat
    Executing c q s →
    (σ.perValve = true → valveOf? valve = none → Completes c q s (plain .badKey) s) ∧
    (∀ v : Valve, (σ.perValve = true → valveOf? valve = some v) →
      let set := putSetting s.settings v n σ
      (σ.anyTime = false → isStopped s.seq.conv = false → Completes c q s (plain .wrongState) s) ∧
      (σ.anyTime = true ∨ isStopped s.seq.conv = true →
        (n < σ.range.1 ∨ σ.range.2 < n ∨ σ = .windowLow ∧ s.settings.windowHigh ≤ n ∨
            σ = .windowHigh ∧ n ≤ s.settings.windowLow ∨ σ = .standardOnTime ∧ s.settings.longOnTime < n ∨
            σ = .longOnTime ∧ n < s.settings.standardOnTime → Completes c q s (plain .badValue) s) ∧
        (σ.range.1 ≤ n → n ≤ σ.range.2 → (σ = .windowLow → n < s.settings.windowHigh) →
            (σ = .windowHigh → s.settings.windowLow < n) → (σ = .standardOnTime → n ≤ s.settings.longOnTime) →
            (σ = .longOnTime → s.settings.standardOnTime ≤ n) →
          (σ = .alphaMin ∨ σ = .alphaMax →
            (s.schedule.swapPending.isSome = true → Completes c q s (plain .pending) s) ∧
            (s.schedule.swapPending = none → Completes c q { s with
              settings := set,
              schedule := { s.schedule with
                pageA := { s.schedule.pageA with alpha := clampNat set.alphaMin set.alphaMax s.schedule.pageA.alpha },
                pageB := { s.schedule.pageB with alpha := clampNat set.alphaMin set.alphaMax s.schedule.pageB.alpha } },
              seq := { s.seq with ramp := max s.seq.ramp set.alphaMin } } (plain .done) s)) ∧
          (σ = .standardOnTime ∨ σ = .longOnTime ∨ σ = .spreadLimit →
            ((∃ w, set.spreadLimit < spreadUnder set (s.tally w)) → Completes c q s (plain .spread) s) ∧
            ((∀ w, spreadUnder set (s.tally w) ≤ set.spreadLimit) → Completes c q { s with
              settings := set,
              tallies := if σ = .spreadLimit then s.tallies
                else mapEntries (fun y => { y with spread := spreadUnder set y }) s.tallies } (plain .done) s)) ∧
          (σ = .minimumSound ∨ σ = .reserve →
            let y := s.tally v
            let grade := gradeOf y.sound y.failed set.minimumSound[v] set.reserve[v]
            (grade = y.grade → Completes c q { s with settings := set } (plain .done) s) ∧
            (grade ≠ y.grade → Completes c q (setNotice .grade { s with
              settings := set, tallies := put s.tallies v { y with grade := grade } }) (plain .done) s)) ∧
          (σ = .sweepEnable → Completes c q { s with
            settings := set,
            sources := { s.sources with
              sweepTimer := 0,
              sweepRequest := if n = 0 then none else s.sources.sweepRequest,
              remainder := if n = 0 then none else s.sources.remainder } } (plain .done) s) ∧
          (σ = .referenceOffset →
            let f : Phase := { s.phase with
              lock := .acquiring, correction := 0, spacing := 0, good := 0, hold := 0, prevAccepted := none,
              pendingLoad := false }
            (chainRuns s.phase.lock = false → Completes c q { s with settings := set } (plain .done) s) ∧
            (chainRuns s.phase.lock = true → s.schedule.swapPending = none →
              Completes c q (setNotice .phase { s with settings := set, phase := f }) (plain .done) s) ∧
            (chainRuns s.phase.lock = true → s.schedule.swapPending = some (otherPort q.port) →
              ∃ t, exec c s = .next t ∧ Answered q (plain .done) s t ∧ OwnerAnswered (otherPort q.port) s t ∧
                t.settings = set ∧ t.phase = f ∧ NoticeSet .phase t ∧ NoticeSet .swap t ∧
                t.schedule = { pageA := s.stagedPage, pageB := s.stagedPage, live := otherPage s.schedule.live,
                               swapPending := none })) ∧
          (σ ≠ .alphaMin → σ ≠ .alphaMax → σ ≠ .standardOnTime → σ ≠ .longOnTime → σ ≠ .spreadLimit →
            σ ≠ .minimumSound → σ ≠ .reserve → σ ≠ .sweepEnable → σ ≠ .referenceOffset →
            Completes c q { s with settings := set } (plain .done) s)))) ∧
    (∀ v w τ, getSetting (putSetting s.settings v n σ) w τ =
      if τ = σ ∧ (σ.perValve = true → w = v) then (if σ = .sweepEnable ∨ σ = .preEmption then (if n = 1 then 1 else 0) else n)
      else getSetting s.settings w τ) ∧
    (∀ r ∈ settingRows, settingOf? r.code = some r.setting ∧ r.setting.code = r.code ∧
      r.setting.range = (r.least, r.greatest) ∧ r.setting.default = r.default ∧ r.setting.perValve = r.perValve ∧
      r.setting.anyTime = r.anyTime ∧ ∀ v, getSetting State.reset.settings v r.setting = r.default) ∧
    (∀ τ : Setting, τ ∈ settingRows.map SettingRow.setting) ∧
    (∀ code : Byte, settingOf? code = none ↔ code = 0 ∨ 0x21 < code.toNat)

/-! ### Lookups and notices -/

/-- Six lookups (LOOK NOTICES is in NoticeRequestsActOnTheirPort) change nothing and answer with their images, or with BAD
KEY or BAD VALUE (R1, R17, R35, R118, R157, R166); the bytes and lengths of the images (R169, with the items of R17, R35,
R118, R138, R106, R73, R88, R149 and R157). LOOK CONVERTER takes one part at a moment, each from its owner's state then,
and with the last one it answers with the image and nothing of it is kept; at a moment that has given a part it does
nothing (R157). Which of the missing parts is taken is free, and a moment is a base tick (the model's choices, log entry
18); some of the byte layout, with the codes of the exit target and of the port served last and the extent of a part's
length byte, is the model's choice (log entry 17). -/
def Obligations.LookupsAnswerTheirImages : Prop :=
  (∀ (q : Sender) (valve position : Byte) (s : State), Executing (.lookLevel q valve position) q s →
    (valveOf? valve = none ∨ positionOf? position.toNat = none →
      Completes (.lookLevel q valve position) q s (plain .badKey) s) ∧
    (∀ v p, valveOf? valve = some v → positionOf? position.toNat = some p →
      Completes (.lookLevel q valve position) q s (image (levelImage v p (s.record v p))) s)) ∧
  (∀ (q : Sender) (valve first count : Byte) (s : State), Executing (.lookLevels q valve first count) q s →
    (count.toNat = 0 ∨ 8 < count.toNat → Completes (.lookLevels q valve first count) q s (plain .badValue) s) ∧
    (1 ≤ count.toNat → count.toNat ≤ 8 →
      (valveOf? valve = none ∨ first.toNat = 0 ∨ 97 < first.toNat + count.toNat →
        Completes (.lookLevels q valve first count) q s (plain .badKey) s) ∧
      (∀ v, valveOf? valve = some v → 1 ≤ first.toNat → first.toNat + count.toNat ≤ 97 →
        ∃ bytes, Completes (.lookLevels q valve first count) q s (image bytes) s ∧
          bytes = (List.range count.toNat).flatMap fun k =>
            levelImage v (Fin.ofNat 96 (first.toNat - 1 + k)) (s.record v (Fin.ofNat 96 (first.toNat - 1 + k)))))) ∧
  (∀ (q : Sender) (valve : Byte) (s : State), Executing (.lookValve q valve) q s →
    (valveOf? valve = none → Completes (.lookValve q valve) q s (plain .badKey) s) ∧
    (∀ v, valveOf? valve = some v → Completes (.lookValve q valve) q s (image (valveImage v s)) s)) ∧
  (∀ (q : Sender) (s : State), Executing (.lookConverter q) q s →
    (s.building.taken = true → exec (.lookConverter q) s = .next s) ∧
    (s.building.taken = false → (∃ j : Fin 6, s.building.parts[j] = none) →
      ∃ k : Fin 6, s.building.parts[k] = none ∧
        let parts := put s.building.parts k (some (converterPart k s))
        ((∃ j : Fin 6, parts[j] = none) → exec (.lookConverter q) s =
          .next { s with building := { parts := parts, taken := true }, freeCount := s.freeCount + 1 }) ∧
        ((∀ j : Fin 6, parts[j] ≠ none) → Completes (.lookConverter q) q
          { s with building := { parts := Vector.replicate 6 none, taken := false } }
          (image (converterImage { parts := parts, taken := true })) s))) ∧
  (∀ b : ImageBuild, converterImage b = b.parts[0].getD [] ++ b.parts[1].getD [] ++ b.parts[2].getD []
    ++ b.parts[3].getD [] ++ b.parts[4].getD [] ++ b.parts[5].getD []) ∧
  (∀ (q : Sender) (x : Byte) (s : State), Executing (.lookPage q x) q s →
    (x = 0 → Completes (.lookPage q x) q s (image (pageImage s.schedule.live s.livePage s.schedule)) s) ∧
    (x = 1 → Completes (.lookPage q x) q s
      (image (pageImage (otherPage s.schedule.live) s.stagedPage s.schedule)) s) ∧
    (1 < x.toNat → Completes (.lookPage q x) q s (plain .badValue) s)) ∧
  (∀ (q : Sender) (code valve : Byte) (s : State), Executing (.lookSetting q code valve) q s →
    (settingOf? code = none → Completes (.lookSetting q code valve) q s (plain .badKey) s) ∧
    (∀ σ, settingOf? code = some σ →
      (σ.perValve = true → valveOf? valve = none → Completes (.lookSetting q code valve) q s (plain .badKey) s) ∧
      (∀ v, (σ.perValve = true → valveOf? valve = some v) → Completes (.lookSetting q code valve) q s
        (image ([code, if σ.perValve then valveByte v else 0] ++ nat16 (getSetting s.settings v σ) ++ nat16 σ.range.1
          ++ nat16 σ.range.2 ++ nat16 σ.default)) s))) ∧
  (∀ (v : Valve) (p : Position) (s : State) (u : PortUnit) (x : PageName) (σ : Setting),
    (levelImage v p (s.record v p)).length = 18 + (s.record v p).window.length ∧ (valveImage v s).length = 25 ∧
    (pageImage x s.livePage s.schedule).length = 22 ∧ (settingImage σ v s).length = 10 ∧ (noticesImage u).length = 5 ∧
    [(0 : Fin 6), 1, 2, 3, 4, 5].map (fun k => (converterPart k s).length)
      = [39, 28, 29, 12 + s.sources.cycleQueue.length + 5 * s.sources.directed.length, 38, 9]) ∧
  ([Life.empty, .proving, .serving, .suspect, .shorted, .dark, .retired].map lifeCode = [0, 1, 2, 3, 4, 5, 6] ∧
    [Cause.meanLow, .meanHigh, .protectiveFiring, .deepTest, .noIndication, .lightPath].map causeCode = [1, 2, 3, 4, 5, 6] ∧
    [RetireReason.replaced, .faulty, .surplus, .other].map retireReasonCode = [1, 2, 3, 4] ∧
    [EmitClass.standard, .long].map emitClassCode = [0, 1] ∧
    [Grade.full, .reduced, .marginal, .unfit].map gradeCode = [0, 1, 2, 3] ∧
    [PageName.a, .b].map pageCode = [0, 1] ∧ [Role.rectifier, .inverter].map roleCode = [0, 1] ∧
    [Port.a, .b].map portCode = [0, 1] ∧ [false, true].map flagByte = [0, 1] ∧
    [Conv.blocked, .pending, .ramping, .running, .retarded, .deionizing, .bypassing, .tripped].map convCode
      = [0, 1, 2, 3, 4, 5, 6, 7] ∧
    [ExitTarget.deionizing, .blocked, .tripped].map exitCode = [0, 1, 2] ∧
    [WindowState.closed, .opened, .fired].map windowCode = [0, 1, 2] ∧
    [Lock.unlocked, .acquiring, .locked, .disturbed, .holding, .lost].map lockCode = [0, 1, 2, 3, 4, 5] ∧
    [LinkState.idle, .header, .exchange, .interval, .held].map linkCode = [0, 1, 2, 3, 4] ∧
    [PollSource.cycle, .directed, .sweep].map sourceCode = [0, 1, 2] ∧ [PollKind.cycle, .deep].map kindCode = [0, 1] ∧
    [EntryOrigin.request, .protectiveFiring].map originCode = [0, 1] ∧
    [LaneState.idle, .lit, .gap, .stopping].map laneCode = [0, 1, 2, 3] ∧
    [PortState.idle, .working, .answered].map portStateCode = [0, 1, 2]) ∧
  (∀ (n : Nat) (i : Int) (w : Word16), byte n = BitVec.ofNat 8 n ∧
    nat16 n = [BitVec.ofNat 8 (n / 256), BitVec.ofNat 8 n] ∧
    bytes32 n = [BitVec.ofNat 8 (n / 16777216), BitVec.ofNat 8 (n / 65536), BitVec.ofNat 8 (n / 256), BitVec.ofNat 8 n] ∧
    bytes16 w = [BitVec.ofNat 8 (w.toNat / 256), BitVec.ofNat 8 w.toNat] ∧ signed16 i = nat16 (i % 65536).toNat) ∧
  (∀ (v : Valve) (p : Position) (r : LevelRecord),
    let tag : Word24 := r.unitTag.getD 0
    levelImage v p r =
      [byte (v.val + 1), byte (p.val + 1), lifeCode r.life] ++ bytes16 r.revision
      ++ [0#3 ++ BitVec.ofBool r.retireReason.isSome ++ BitVec.ofBool r.cause.isSome ++ BitVec.ofBool r.lastCycle.isSome
            ++ BitVec.ofBool r.mean.isSome ++ BitVec.ofBool r.unitTag.isSome,
          tag.extractLsb' 16 8, tag.extractLsb' 8 8, tag.extractLsb' 0 8,
          emitClassCode r.emitClass, byte (16 * r.pfRun + r.missRun), byte r.pfTotal, byte r.progress, r.mean.getD 0]
      ++ bytes16 (r.lastCycle.getD 0)
      ++ [(r.cause.map causeCode).getD 0,
          byte (32 * r.window.length + ((r.retireReason.map retireReasonCode).getD 0).toNat)]
      ++ r.window) ∧
  (∀ (v : Valve) (s : State),
    let y := s.tally v
    valveImage v s = [v.val + 1, y.counts[0], y.counts[1], y.counts[2], y.counts[3], y.counts[4], y.counts[5], y.counts[6],
        y.sound, y.failed, y.top, y.bankEmitting[0], y.bankEmitting[1], y.bankEmitting[2], y.bankEmitting[3],
        y.bankLong[0], y.bankLong[1], y.bankLong[2], y.bankLong[3], y.spread].map byte
      ++ [gradeCode y.grade, byte s.settings.minimumSound[v], byte s.settings.reserve[v], byte s.sources.skip[v],
        byte (s.lane v).drops]) ∧
  (∀ (x : PageName) (g : Page) (h : Schedule),
    let pair (k : Valve) := BitVec.ofBool g.pairs[k]
    pageImage x g h = [pageCode x, flagByte g.valid] ++ nat16 g.alpha ++ [roleCode g.role, byte (g.leg.val + 1)]
      ++ allValves.map (fun v => byte (g.trims[v] % 256).toNat)
      ++ [0#4 ++ pair 11 ++ pair 10 ++ pair 9 ++ pair 8,
          pair 7 ++ pair 6 ++ pair 5 ++ pair 4 ++ pair 3 ++ pair 2 ++ pair 1 ++ pair 0,
          pageCode h.live, flagByte h.swapPending.isSome]) ∧
  (∀ s : State,
    let q := s.seq
    let f := s.phase
    let l := s.link
    let x := s.sources
    let part : Byte → List Byte → List Byte := fun code fields => code :: byte fields.length :: fields
    converterPart 0 s =
      part 1 ([convCode q.conv] ++ (match q.exitTarget with | some e => [1, exitCode e] | none => [0, 0])
        ++ [flagByte q.tripLatch]
        ++ (match q.tripCause with
            | some (.valveUnfit v) => [1, 0, byte (v.val + 1)]
            | some (.commutation v) => [1, 1, byte (v.val + 1)]
            | none => [0, 0, 0])
        ++ [byte q.attempts] ++ nat16 q.ramp
        ++ (match effectiveBase s with | some a => 1 :: nat16 a | none => [0, 0, 0])
        ++ [byte q.cfHold, byte q.cfRun] ++ (match q.lastFailure with | some v => [1, byte (v.val + 1)] | none => [0, 0])
        ++ [byte q.retardCount, byte q.deionCount, byte q.bypassCount, byte q.recovery]
        ++ allValves.map (fun v => windowCode q.windows[v])
        ++ [byte (unfitCount s), flagByte s.lines.block, flagByte s.lines.linefault, flagByte q.tripLatch]) ∧
    converterPart 1 s =
      part 2 ([lockCode f.lock] ++ nat16 f.phase ++ [flagByte (chainRuns f.lock)] ++ bytes16 f.cycle
        ++ bytes32 (f.saved.getD 0) ++ bytes32 (f.loaded.getD 0) ++ [flagByte f.pendingLoad]
        ++ bytes32 (f.prevAccepted.getD 0) ++ (match f.lastError with | some e => 1 :: signed16 e | none => [0, 0, 0])
        ++ signed16 f.correction ++ [byte f.good, byte f.hold]) ∧
    converterPart 2 s =
      part 3 ([linkCode l.state, flagByte l.holdPending.isSome, flagByte l.cutPending]
        ++ (match l.poll with
            | some p => [1, sourceCode p.source, kindCode p.kind, byte (p.valve.val + 1), byte p.next, byte p.last,
                         flagByte p.superseded]
            | none => [0, 0, 0, 0, 0, 0, 0])
        ++ [byte l.failures, flagByte l.down, byte l.timeouts, byte l.mismatches, byte l.overruns]
        ++ allValves.map (fun v => flagByte l.vmuFault[v])) ∧
    converterPart 3 s =
      part 4 ([byte x.cycleQueue.length] ++ x.cycleQueue.map (fun v => byte (v.val + 1))
        ++ [byte x.directed.length]
        ++ x.directed.flatMap (fun e => [byte (e.valve.val + 1), byte e.first, byte e.count, originCode e.origin,
                                         flagByte e.inProgress])
        ++ [byte (x.cursor.val + 1), byte x.sweepTimer]
        ++ (match x.sweepRequest with | some v => [1, byte (v.val + 1)] | none => [0, 0])
        ++ [flagByte x.sweepInProgress]
        ++ (match x.remainder with | some (v, n) => [1, byte (v.val + 1), byte n] | none => [0, 0, 0])) ∧
    converterPart 4 s =
      part 5 (allValves.map (fun v => laneCode (s.lane v).state)
        ++ allValves.flatMap (fun v => match (s.lane v).bank with | some b => [1, byte (b.val + 1)] | none => [0, 0])) ∧
    converterPart 5 s =
      part 6 [portCode s.lines.authSel, byte (portStateCode s.portA.state), byte (portStateCode s.portB.state),
          flagByte s.portA.refused, flagByte s.portB.refused, flagByte s.engine.busy, portCode s.engine.last])

/-- CLEAR NOTICES, SET NOTICE MASK and LOOK NOTICES act on the requesting port's own set and mask (R161); the NOTICE line
is asserted while a set flag has its mask mark on (R160). -/
def Obligations.NoticeRequestsActOnTheirPort : Prop :=
  (∀ (q : Sender) (flags : BitVec 10) (s : State), Executing (.clearNotices q flags) q s →
    Completes (.clearNotices q flags) q
      (s.setPort q.port { s.port q.port with flags := (s.port q.port).flags &&& ~~~flags }) (plain .done) s) ∧
  (∀ (q : Sender) (mask : BitVec 10) (s : State), Executing (.setNoticeMask q mask) q s →
    Completes (.setNoticeMask q mask) q (s.setPort q.port { s.port q.port with mask := mask }) (plain .done) s) ∧
  (∀ (q : Sender) (s : State), Executing (.lookNotices q) q s →
    Completes (.lookNotices q) q s (image (bytes16 ((s.port q.port).flags.setWidth 16)
      ++ bytes16 ((s.port q.port).mask.setWidth 16) ++ [flagByte (noticeLine (s.port q.port))])) s) ∧
  (∀ u : PortUnit, noticeLine u = true ↔ ∃ k : Fin 10, u.flags.getLsbD k.val = true ∧ u.mask.getLsbD k.val = true)

/-! ### Ports and engine -/

/-- A transfer is judged by the port state at its start and handled at its end (R151, R152): nothing sent, an answer
consumed or kept, a frame accepted, or a frame discarded with the refused flag. An incomplete last byte counts as not
sent (the model's choice, log entry 7). The bits of the status byte and the bytes of the answer frame, with the codes of
the answers and reasons (R168). -/
def Obligations.TransferByTheStateFound : Prop :=
  (∀ (p : Port) (s : State), s.lines.porLow = false → (s.port p).transfer = none →
    let x : Transfer :=
      { status := statusByte p s, found := (s.port p).state, answer := (s.port p).answer, discard := false }
    exec (.transfer p .select) s = .next (s.setPort p { s.port p with transfer := some x })) ∧
  (∀ (p : Port) (sent : List Byte) (s : State), s.lines.porLow = false → (s.port p).transfer = none →
    ∃ m, exec (.transfer p .select) s = .next m ∧
      exec (.transfer p (.whole sent)) s = exec (.transfer p (.release sent)) m) ∧
  (∀ (p : Port) (sent : List Byte) (x : Transfer) (s : State), s.lines.porLow = false →
    (s.port p).transfer = some x →
    let u := { s.port p with transfer := none, shiftedOut := shifted x sent.length }
    (x.discard = true → exec (.transfer p (.release sent)) s = .next (s.setPort p u)) ∧
    (x.discard = false →
      (sent = [] ∨ sent.head? = some 0 →
        (x.found ≠ .answered → exec (.transfer p (.release sent)) s = .next (s.setPort p u)) ∧
        (∀ a, x.found = .answered → x.answer = some a →
          ((answerBytes a).length + 1 ≤ sent.length → exec (.transfer p (.release sent)) s =
            .next (s.setPort p { u with state := .idle, answer := none })) ∧
          (sent.length < (answerBytes a).length + 1 → exec (.transfer p (.release sent)) s = .next (s.setPort p u)))) ∧
      (∀ f, frameOfBytes sent = some f →
        (x.found = .working →
          exec (.transfer p (.release sent)) s = .next (s.setPort p { u with refused := true })) ∧
        (x.found ≠ .working → s.engine.busy = true →
          let w : PortUnit :=
            { u with state := .working, request := some f, begun := false, answer := none, refused := false }
          exec (.transfer p (.release sent)) s = .next (s.setPort p w))))) ∧
  (∀ (x : Transfer) (a : Answer) (n : Nat), x.answer = some a →
    (answerBytes a).length = 5 + a.payload.length ∧
    shifted x (1 + (answerBytes a).length + n) = x.status :: (answerBytes a ++ List.replicate n 0)) ∧
  (∀ (p : Port) (s : State), statusByte p s = 0#3 ++ BitVec.ofBool (noticeLine (s.port p)) ++
    BitVec.ofBool (decide (s.lines.authSel = p)) ++ BitVec.ofBool (s.port p).refused ++
    (match (s.port p).state with | .idle => 0#2 | .working => 1#2 | .answered => 2#2)) ∧
  (∀ a : Answer, answerBytes a =
    [a.kind, a.tag, answerCodeByte a.code, reasonByte a.reason, BitVec.ofNat 8 a.payload.length] ++ a.payload) ∧
  ([AnswerCode.done, .clamped, .notInAuthority, .badFrame, .badKey, .badValue, .wrongState, .stale, .margin, .spread,
    .pending, .full, .notReady].map answerCodeByte
      = [0x00, 0x01, 0x10, 0x11, 0x12, 0x13, 0x20, 0x21, 0x22, 0x23, 0x24, 0x25, 0x26]) ∧
  ([none, some Reason.blockLine, some .phase, some .pageInvalid, some .valveUnfit].map reasonByte = [0, 1, 2, 3, 4]) ∧
  (∀ (kind tag n : Byte) (rest : List Byte), kind ≠ 0 → frameOfBytes (kind :: tag :: n :: rest) =
    some { kind := kind, tag := some tag, length := some n, payload := rest.take n.toNat })

/-- The request engine (R153 to R155). A frame that ends its transfer on a free port with the engine idle is begun: BAD
FRAME, NOT IN AUTHORITY and the BAD KEY of an unknown setting are answered at once, any other request is under
execution. At the end of an execution the other port's waiting request is begun; a LOOK CONVERTER ends with the last part
of its image (R157). AUTH_SEL is read at the beginning; a
change of it changes the level alone. The tag of a transfer that ended before its tag is a free value (log entry 11). -/
def Obligations.EngineBeginsOrRefuses : Prop :=
  (∀ (p : Port) (sent : List Byte) (f : Frame) (s : State), s.lines.porLow = false → s.engine.busy = false →
    (s.port p).transfer = none → (s.port p).state ≠ .working → waits (otherPort p) s = false →
    frameOfBytes sent = some f → ∃ t, exec (.transfer p (.whole sent)) s = .next t ∧ t.blocks = s.blocks ∧
      t.engine.last = p ∧ t.port (otherPort p) = s.port (otherPort p) ∧ (t.port p).refused = false ∧
      (t.port p).flags = (s.port p).flags ∧ (t.port p).mask = (s.port p).mask ∧
      (let refusedWith := fun code => t.engine.busy = false ∧ (t.port p).state = .answered ∧
         (t.port p).request = none ∧ (t.port p).answer = some ⟨f.kind,
           f.tag.getD (Config.unreceivedTag s.freeCount), code, none, []⟩
       (parseFrame p f = .badFrame → refusedWith .badFrame) ∧
       (parseFrame p f = .badKey → s.lines.authSel ≠ p → refusedWith .notInAuthority) ∧
       (parseFrame p f = .badKey → s.lines.authSel = p → refusedWith .badKey) ∧
       (∀ c, parseFrame p f = .command c → isChange c = true → s.lines.authSel ≠ p → refusedWith .notInAuthority) ∧
       (∀ c, parseFrame p f = .command c → isChange c = false ∨ s.lines.authSel = p → begun c p t = true))) ∧
  (∀ (p : Port) (f : Frame), f.tag = none ∨ f.length = none ∨ (∃ n, f.length = some n ∧ f.payload.length ≠ n.toNat) →
    parseFrame p f = .badFrame) ∧
  (∀ (c c' : Instr) (q : Sender) (s : State), Executing c q s → (∀ r, c ≠ .restart r) → PortsOk s →
    (∀ r, c = .lookConverter r → s.building.taken = false ∧ (missingParts s.building).length = 1) →
    waits (otherPort q.port) s = true →
    (s.port (otherPort q.port)).request.map (parseFrame (otherPort q.port)) = some (.command c') →
    isChange c' = false ∨ s.lines.authSel = otherPort q.port →
    ∃ t, exec c s = .next t ∧ begun c' (otherPort q.port) t = true ∧
      t.engine = { busy := true, last := otherPort q.port }) ∧
  (∀ (p : Port) (s : State), exec (.authSelChange p) s = .next { s with lines := { s.lines with authSel := p } })

/-- A request row whose request the engine has not begun stands for its transfer and, where the engine begins it at once,
its execution (the model's choice, log entry 6). -/
def Obligations.RequestRowSendsItsFrame : Prop :=
  ∀ (c : Instr) (q : Sender) (kind : Byte) (payload : List Byte) (s : State),
    requestOf c = some (q, kind, payload) → c.wellFormed = true → s.lines.porLow = false →
    (begun c q.port s = false →
      ((s.port q.port).transfer.isSome = true → exec c s = .next s) ∧
      ((s.port q.port).transfer = none → (s.port q.port).state = .working →
        exec c s = .next (s.setPort q.port { s.port q.port with refused := true }))) ∧
    (s.engine.busy = false → (s.port q.port).transfer = none → (s.port q.port).state ≠ .working →
      waits (otherPort q.port) s = false → isChange c = false ∨ s.lines.authSel = q.port →
      ∃ m, Executing c q m ∧ exec c s = exec c m ∧ m.blocks = s.blocks ∧
        m.port (otherPort q.port) = s.port (otherPort q.port) ∧
        (m.port q.port).rest = { (s.port q.port).rest with refused := false } ∧
        (m.port q.port).request = some (requestFrame q kind payload))

/-- The frame of every well-formed request is read back as that request, and its bytes as that frame (R154, R168). -/
def Obligations.RequestFramesReadBack : Prop :=
  ∀ (c : Instr) (q : Sender) (kind : Byte) (payload : List Byte), c.wellFormed = true →
    requestOf c = some (q, kind, payload) →
    parseFrame q.port (requestFrame q kind payload) = .command c ∧
    frameOfBytes ([kind, q.tag, byte payload.length] ++ payload) = some (requestFrame q kind payload)

/-! ### Emitter lanes -/

/-- The timed events of a lane (R143, R145), and what a cut does to a lane (R145). A timed event that finds the lane in
another state has no effect (log entry 3); the timers are the model's (log entry 19). The bits of the bank frame and of
the STOP frame (R171), the first bit sent being the most significant. -/
def Obligations.LaneEventsAndCuts : Prop :=
  (∀ (v : Valve) (s : State), s.lines.porLow = false →
    let l := s.lane v
    (∀ (w : Vector BankLight 4) (b : Bank), l.state = .lit → l.composition = some w → l.bank = some b →
      (∀ b', b < b' → isActive w b' = true → (∀ k, b < k → k < b' → isActive w k = false) →
        exec (.onTimeEnd v) s = .next (s.setLane v { l with state := .gap, bank := some b', timer := 40 })) ∧
      ((∀ k, b < k → isActive w k = false) → exec (.onTimeEnd v) s =
        .next (s.setLane v { l with state := .idle, composition := none, bank := none, timer := 0 }))) ∧
    (∀ (w : Vector BankLight 4) (b : Bank), l.state = .gap → l.composition = some w → l.bank = some b → exec (.gapEnd v) s =
      .next (s.setLane v { l with state := .lit, timer := w[b].onTime * 40, frame := some (bankFrame b w[b]) })) ∧
    (l.state = .stopping → exec (.stopFrameEnd v) s =
      .next (s.setLane v { l with state := .idle, composition := none, bank := none, timer := 0 })) ∧
    (l.state ≠ .lit → exec (.onTimeEnd v) s = .next s) ∧ (l.state ≠ .gap → exec (.gapEnd v) s = .next s) ∧
    (l.state ≠ .stopping → exec (.stopFrameEnd v) s = .next s)) ∧
  (∀ l : Lane,
    (l.state = .lit → (cutLane l).state = .stopping ∧ (cutLane l).composition = none ∧ (cutLane l).bank = none ∧
      (cutLane l).frame = some stopFrame) ∧
    (l.state = .gap → (cutLane l).state = .idle ∧ (cutLane l).composition = none ∧ (cutLane l).bank = none ∧
      (cutLane l).frame = l.frame) ∧
    (l.state = .stopping → cutLane l = l) ∧ (l.state = .idle → cutLane l = l) ∧ (cutLane l).drops = l.drops) ∧
  (∀ (b : Bank) (l : BankLight),
    let f := bankFrame b l
    let odd (bits : List Nat) := (bits.countP fun k => f.getLsbD k) % 2 = 1
    f.getLsbD 35 = true ∧ f.getLsbD 34 = true ∧ f.extractLsb' 32 2 = BitVec.ofNat 2 b.val ∧ f.extractLsb' 8 24 = l.flags ∧
    f.extractLsb' 3 5 = BitVec.ofNat 5 (l.onTime - 1) ∧
    odd [33, 32, 7, 6, 5, 4, 3, 2] ∧ odd [31, 30, 29, 28, 27, 26, 25, 24, 23, 22, 21, 20, 1] ∧
    odd [19, 18, 17, 16, 15, 14, 13, 12, 11, 10, 9, 8, 0]) ∧
  stopFrame = 0x800000007#36

/-- A burst request (R141, R142): what it does to its lane, the composition it latches from the valve's records, its
lowest active bank, what lighting a bank does to the lane (R143; the timer is the model's, log entry 19), and the burst's
length, which is the tally's spread. -/
def Obligations.BurstRequestTakesTheLane : Prop :=
  (∀ (v : Valve) (s : State),
    (isFiring s.seq.conv = true → burstRequest v s = s.setLane v (laneTakes v s (s.lane v))) ∧
    ((s.lane v).state = .idle → isFiring s.seq.conv = false → burstRequest v s = s) ∧
    ((s.lane v).state ≠ .idle →
      burstRequest v s = s.setLane v { s.lane v with drops := min ((s.lane v).drops + 1) 255 })) ∧
  (∀ (v : Valve) (s : State) (b : Bank),
    (∀ k : Fin 24, (compose v s)[b].flags.getLsbD (23 - k.val) =
      isEmitting (s.record v (Fin.ofNat 96 (24 * b.val + k.val))).life) ∧
    ((∃ k : Fin 24, isEmitting (s.record v (Fin.ofNat 96 (24 * b.val + k.val))).life = true ∧
        (s.record v (Fin.ofNat 96 (24 * b.val + k.val))).emitClass = .long) →
      (compose v s)[b].onTime = s.settings.longOnTime) ∧
    ((∀ k : Fin 24, isEmitting (s.record v (Fin.ofNat 96 (24 * b.val + k.val))).life = true →
        (s.record v (Fin.ofNat 96 (24 * b.val + k.val))).emitClass = .standard) →
      (compose v s)[b].onTime = s.settings.standardOnTime)) ∧
  (∀ (c : Vector BankLight 4) (b : Bank), activeFrom c 0 = some b ↔
    isActive c b = true ∧ ∀ k, k < b → isActive c k = false) ∧
  (∀ (w : Vector BankLight 4) (b : Bank) (l : Lane), (isActive w b = true ↔ w[b].flags ≠ 0) ∧
    lightBank w b l = { l with state := .lit, composition := some w, bank := some b, timer := 40 * w[b].onTime,
                               frame := some (bankFrame b w[b]) }) ∧
  (∀ (v : Valve) (s : State), TalliesOk s →
    let active := allBanks.filter (isActive (compose v s))
    (active.map fun b => (compose v s)[b].onTime).sum + (active.length - 1) = (s.tally v).spread)

/-! ### What every command keeps to -/

/-- The revision of a record advances by one with each change of its life state, emit class or unit tag and with nothing
else (R4); the power-on reset is no claim on a record. -/
def Obligations.RevisionCountsChanges : Prop :=
  ∀ (c : Instr) (s t : State) (v : Valve) (p : Position), exec c s = .next t → c ≠ .powerOnReset → c ≠ .porAsserted →
    ((t.record v p).life ≠ (s.record v p).life ∨ (t.record v p).emitClass ≠ (s.record v p).emitClass ∨
        (t.record v p).unitTag ≠ (s.record v p).unitTag →
      (t.record v p).revision = (s.record v p).revision + 1) ∧
    ((t.record v p).life = (s.record v p).life → (t.record v p).emitClass = (s.record v p).emitClass →
        (t.record v p).unitTag = (s.record v p).unitTag →
      (t.record v p).revision = (s.record v p).revision)

/-- Every change that a notice reports sets it in the sets of both ports (R15, R28, R59, R66, R104, R114, R120, R133, R159);
the resets report by RESET alone. -/
def Obligations.NoticesFollowChanges : Prop :=
  ∀ (c : Instr) (s t : State), exec c s = .next t → c ≠ .powerOnReset → c ≠ .porAsserted → c ≠ .restartPulse →
    (∀ q, c ≠ .restart q) →
    ((∃ v p, (t.record v p).life ≠ (s.record v p).life ∨ (t.record v p).emitClass ≠ (s.record v p).emitClass ∨
      (t.record v p).unitTag ≠ (s.record v p).unitTag) → NoticeSet .level t) ∧
    ((∃ v, (t.tally v).grade ≠ (s.tally v).grade) → NoticeSet .grade t) ∧
    (t.seq.conv ≠ s.seq.conv ∨ t.seq.exitTarget ≠ s.seq.exitTarget → NoticeSet .converter t) ∧
    (t.seq.tripLatch = true → s.seq.tripLatch = false → NoticeSet .trip t) ∧
    (t.phase.lock ≠ s.phase.lock → NoticeSet .phase t) ∧
    (t.schedule.live ≠ s.schedule.live → NoticeSet .swap t) ∧
    (t.link.down ≠ s.link.down → NoticeSet .link t) ∧
    ((∃ v : Valve, t.link.vmuFault[v] = true ∧ s.link.vmuFault[v] = false) → NoticeSet .link t)

/-! ### Invariants -/

/-- The state after a power-on reset meets the invariant. -/
def Obligations.ResetMeetsTheInvariant : Prop := Inv State.reset

/-- Every step keeps the settings in their ranges and relations (R164), the tallies a recount of the records (R24), the
spreads within the limit (R32), no valve UNFIT while the converter is PENDING, RAMPING or RUNNING (R127), and every
record's fields in range with their presence (R2, R3). -/
def Obligations.StepKeepsRecords : Prop :=
  ∀ s t : State, Inv s → step s = .next t → SettingsOk t ∧ TalliesOk t ∧ SpreadsOk t ∧ FitOk t ∧ RecordsOk t

/-- Every step keeps the queues in order and the link's poll, marks, timer and ranges as its state asks (R57, R58, R77,
R79, R84). -/
def Obligations.StepKeepsLink : Prop :=
  ∀ s t : State, Inv s → step s = .next t → QueuesOk t ∧ LinkOk t

/-- Every step keeps the Phase Unit's items in range and as the lock state asks (R90 to R103). -/
def Obligations.StepKeepsPhase : Prop :=
  ∀ s t : State, Inv s → step s = .next t → PhaseOk t

/-- Every step keeps the sequencer's items as the converter state asks, a converter that is not stopped on a running
chain, bursts in firing states alone, and the pages as the schedule asks (R108, R120, R127, R133, R140, R146). -/
def Obligations.StepKeepsConverter : Prop :=
  ∀ s t : State, Inv s → step s = .next t → SequencerOk t ∧ ConverterOk t ∧ LanesOk t ∧ ScheduleOk t

/-- Every step keeps the ports' slots as their states ask, each begun request with exactly one owner, and no request
waiting for an idle engine (R151, R153), and an image being built only in a LOOK CONVERTER, with a part still missing
(R157). -/
def Obligations.StepKeepsPorts : Prop :=
  ∀ s t : State, Inv s → step s = .next t → PortsOk t
end

