-- ==== Sys2Proof/Laws/State.lean ====
section
/-! SUPPORT. What each update of the state leaves as it was, field by field, and what it puts where it writes. -/

namespace Sys2Proof.Machine

/-! ### Updates that are one record update -/

@[simp] theorem State.setRecord_tallies (s : State) (v : Valve) (p : Position) (r : LevelRecord) : (s.setRecord v p r).tallies = s.tallies := rfl
@[simp] theorem State.setRecord_settings (s : State) (v : Valve) (p : Position) (r : LevelRecord) : (s.setRecord v p r).settings = s.settings := rfl
@[simp] theorem State.setRecord_link (s : State) (v : Valve) (p : Position) (r : LevelRecord) : (s.setRecord v p r).link = s.link := rfl
@[simp] theorem State.setRecord_sources (s : State) (v : Valve) (p : Position) (r : LevelRecord) : (s.setRecord v p r).sources = s.sources := rfl
@[simp] theorem State.setRecord_phase (s : State) (v : Valve) (p : Position) (r : LevelRecord) : (s.setRecord v p r).phase = s.phase := rfl
@[simp] theorem State.setRecord_schedule (s : State) (v : Valve) (p : Position) (r : LevelRecord) : (s.setRecord v p r).schedule = s.schedule := rfl
@[simp] theorem State.setRecord_seq (s : State) (v : Valve) (p : Position) (r : LevelRecord) : (s.setRecord v p r).seq = s.seq := rfl
@[simp] theorem State.setRecord_lanes (s : State) (v : Valve) (p : Position) (r : LevelRecord) : (s.setRecord v p r).lanes = s.lanes := rfl
@[simp] theorem State.setRecord_portA (s : State) (v : Valve) (p : Position) (r : LevelRecord) : (s.setRecord v p r).portA = s.portA := rfl
@[simp] theorem State.setRecord_portB (s : State) (v : Valve) (p : Position) (r : LevelRecord) : (s.setRecord v p r).portB = s.portB := rfl
@[simp] theorem State.setRecord_engine (s : State) (v : Valve) (p : Position) (r : LevelRecord) : (s.setRecord v p r).engine = s.engine := rfl
@[simp] theorem State.setRecord_lines (s : State) (v : Valve) (p : Position) (r : LevelRecord) : (s.setRecord v p r).lines = s.lines := rfl
@[simp] theorem State.setRecord_freeCount (s : State) (v : Valve) (p : Position) (r : LevelRecord) : (s.setRecord v p r).freeCount = s.freeCount := rfl
@[simp] theorem State.setRecord_building (s : State) (v : Valve) (p : Position) (r : LevelRecord) : (s.setRecord v p r).building = s.building := rfl
@[simp] theorem State.setRecord_pending (s : State) (v : Valve) (p : Position) (r : LevelRecord) : (s.setRecord v p r).pending = s.pending := rfl

@[simp] theorem State.setTally_table (s : State) (v : Valve) (t : Tally) : (s.setTally v t).table = s.table := rfl
@[simp] theorem State.setTally_settings (s : State) (v : Valve) (t : Tally) : (s.setTally v t).settings = s.settings := rfl
@[simp] theorem State.setTally_link (s : State) (v : Valve) (t : Tally) : (s.setTally v t).link = s.link := rfl
@[simp] theorem State.setTally_sources (s : State) (v : Valve) (t : Tally) : (s.setTally v t).sources = s.sources := rfl
@[simp] theorem State.setTally_phase (s : State) (v : Valve) (t : Tally) : (s.setTally v t).phase = s.phase := rfl
@[simp] theorem State.setTally_schedule (s : State) (v : Valve) (t : Tally) : (s.setTally v t).schedule = s.schedule := rfl
@[simp] theorem State.setTally_seq (s : State) (v : Valve) (t : Tally) : (s.setTally v t).seq = s.seq := rfl
@[simp] theorem State.setTally_lanes (s : State) (v : Valve) (t : Tally) : (s.setTally v t).lanes = s.lanes := rfl
@[simp] theorem State.setTally_portA (s : State) (v : Valve) (t : Tally) : (s.setTally v t).portA = s.portA := rfl
@[simp] theorem State.setTally_portB (s : State) (v : Valve) (t : Tally) : (s.setTally v t).portB = s.portB := rfl
@[simp] theorem State.setTally_engine (s : State) (v : Valve) (t : Tally) : (s.setTally v t).engine = s.engine := rfl
@[simp] theorem State.setTally_lines (s : State) (v : Valve) (t : Tally) : (s.setTally v t).lines = s.lines := rfl
@[simp] theorem State.setTally_freeCount (s : State) (v : Valve) (t : Tally) : (s.setTally v t).freeCount = s.freeCount := rfl
@[simp] theorem State.setTally_building (s : State) (v : Valve) (t : Tally) : (s.setTally v t).building = s.building := rfl
@[simp] theorem State.setTally_pending (s : State) (v : Valve) (t : Tally) : (s.setTally v t).pending = s.pending := rfl

@[simp] theorem State.setLane_table (s : State) (v : Valve) (l : Lane) : (s.setLane v l).table = s.table := rfl
@[simp] theorem State.setLane_tallies (s : State) (v : Valve) (l : Lane) : (s.setLane v l).tallies = s.tallies := rfl
@[simp] theorem State.setLane_settings (s : State) (v : Valve) (l : Lane) : (s.setLane v l).settings = s.settings := rfl
@[simp] theorem State.setLane_link (s : State) (v : Valve) (l : Lane) : (s.setLane v l).link = s.link := rfl
@[simp] theorem State.setLane_sources (s : State) (v : Valve) (l : Lane) : (s.setLane v l).sources = s.sources := rfl
@[simp] theorem State.setLane_phase (s : State) (v : Valve) (l : Lane) : (s.setLane v l).phase = s.phase := rfl
@[simp] theorem State.setLane_schedule (s : State) (v : Valve) (l : Lane) : (s.setLane v l).schedule = s.schedule := rfl
@[simp] theorem State.setLane_seq (s : State) (v : Valve) (l : Lane) : (s.setLane v l).seq = s.seq := rfl
@[simp] theorem State.setLane_portA (s : State) (v : Valve) (l : Lane) : (s.setLane v l).portA = s.portA := rfl
@[simp] theorem State.setLane_portB (s : State) (v : Valve) (l : Lane) : (s.setLane v l).portB = s.portB := rfl
@[simp] theorem State.setLane_engine (s : State) (v : Valve) (l : Lane) : (s.setLane v l).engine = s.engine := rfl
@[simp] theorem State.setLane_lines (s : State) (v : Valve) (l : Lane) : (s.setLane v l).lines = s.lines := rfl
@[simp] theorem State.setLane_freeCount (s : State) (v : Valve) (l : Lane) : (s.setLane v l).freeCount = s.freeCount := rfl
@[simp] theorem State.setLane_building (s : State) (v : Valve) (l : Lane) : (s.setLane v l).building = s.building := rfl
@[simp] theorem State.setLane_pending (s : State) (v : Valve) (l : Lane) : (s.setLane v l).pending = s.pending := rfl

@[simp] theorem setNotice_table (n : Notice) (s : State) : (setNotice n s).table = s.table := rfl
@[simp] theorem setNotice_tallies (n : Notice) (s : State) : (setNotice n s).tallies = s.tallies := rfl
@[simp] theorem setNotice_settings (n : Notice) (s : State) : (setNotice n s).settings = s.settings := rfl
@[simp] theorem setNotice_link (n : Notice) (s : State) : (setNotice n s).link = s.link := rfl
@[simp] theorem setNotice_sources (n : Notice) (s : State) : (setNotice n s).sources = s.sources := rfl
@[simp] theorem setNotice_phase (n : Notice) (s : State) : (setNotice n s).phase = s.phase := rfl
@[simp] theorem setNotice_schedule (n : Notice) (s : State) : (setNotice n s).schedule = s.schedule := rfl
@[simp] theorem setNotice_seq (n : Notice) (s : State) : (setNotice n s).seq = s.seq := rfl
@[simp] theorem setNotice_lanes (n : Notice) (s : State) : (setNotice n s).lanes = s.lanes := rfl
@[simp] theorem setNotice_engine (n : Notice) (s : State) : (setNotice n s).engine = s.engine := rfl
@[simp] theorem setNotice_lines (n : Notice) (s : State) : (setNotice n s).lines = s.lines := rfl
@[simp] theorem setNotice_freeCount (n : Notice) (s : State) : (setNotice n s).freeCount = s.freeCount := rfl
@[simp] theorem setNotice_building (n : Notice) (s : State) : (setNotice n s).building = s.building := rfl
@[simp] theorem setNotice_pending (n : Notice) (s : State) : (setNotice n s).pending = s.pending := rfl

@[simp] theorem freeEngine_table (s : State) : (freeEngine s).table = s.table := rfl
@[simp] theorem freeEngine_tallies (s : State) : (freeEngine s).tallies = s.tallies := rfl
@[simp] theorem freeEngine_settings (s : State) : (freeEngine s).settings = s.settings := rfl
@[simp] theorem freeEngine_link (s : State) : (freeEngine s).link = s.link := rfl
@[simp] theorem freeEngine_sources (s : State) : (freeEngine s).sources = s.sources := rfl
@[simp] theorem freeEngine_phase (s : State) : (freeEngine s).phase = s.phase := rfl
@[simp] theorem freeEngine_schedule (s : State) : (freeEngine s).schedule = s.schedule := rfl
@[simp] theorem freeEngine_seq (s : State) : (freeEngine s).seq = s.seq := rfl
@[simp] theorem freeEngine_lanes (s : State) : (freeEngine s).lanes = s.lanes := rfl
@[simp] theorem freeEngine_portA (s : State) : (freeEngine s).portA = s.portA := rfl
@[simp] theorem freeEngine_portB (s : State) : (freeEngine s).portB = s.portB := rfl
@[simp] theorem freeEngine_lines (s : State) : (freeEngine s).lines = s.lines := rfl
@[simp] theorem freeEngine_freeCount (s : State) : (freeEngine s).freeCount = s.freeCount := rfl
@[simp] theorem freeEngine_building (s : State) : (freeEngine s).building = s.building := rfl
@[simp] theorem freeEngine_pending (s : State) : (freeEngine s).pending = s.pending := rfl

@[simp] theorem cutLanes_table (s : State) : (cutLanes s).table = s.table := rfl
@[simp] theorem cutLanes_tallies (s : State) : (cutLanes s).tallies = s.tallies := rfl
@[simp] theorem cutLanes_settings (s : State) : (cutLanes s).settings = s.settings := rfl
@[simp] theorem cutLanes_link (s : State) : (cutLanes s).link = s.link := rfl
@[simp] theorem cutLanes_sources (s : State) : (cutLanes s).sources = s.sources := rfl
@[simp] theorem cutLanes_phase (s : State) : (cutLanes s).phase = s.phase := rfl
@[simp] theorem cutLanes_schedule (s : State) : (cutLanes s).schedule = s.schedule := rfl
@[simp] theorem cutLanes_seq (s : State) : (cutLanes s).seq = s.seq := rfl
@[simp] theorem cutLanes_portA (s : State) : (cutLanes s).portA = s.portA := rfl
@[simp] theorem cutLanes_portB (s : State) : (cutLanes s).portB = s.portB := rfl
@[simp] theorem cutLanes_engine (s : State) : (cutLanes s).engine = s.engine := rfl
@[simp] theorem cutLanes_lines (s : State) : (cutLanes s).lines = s.lines := rfl
@[simp] theorem cutLanes_freeCount (s : State) : (cutLanes s).freeCount = s.freeCount := rfl
@[simp] theorem cutLanes_building (s : State) : (cutLanes s).building = s.building := rfl
@[simp] theorem cutLanes_pending (s : State) : (cutLanes s).pending = s.pending := rfl

@[simp] theorem setWindow_table (v : Valve) (w : WindowState) (s : State) : (setWindow v w s).table = s.table := rfl
@[simp] theorem setWindow_tallies (v : Valve) (w : WindowState) (s : State) : (setWindow v w s).tallies = s.tallies := rfl
@[simp] theorem setWindow_settings (v : Valve) (w : WindowState) (s : State) : (setWindow v w s).settings = s.settings := rfl
@[simp] theorem setWindow_link (v : Valve) (w : WindowState) (s : State) : (setWindow v w s).link = s.link := rfl
@[simp] theorem setWindow_sources (v : Valve) (w : WindowState) (s : State) : (setWindow v w s).sources = s.sources := rfl
@[simp] theorem setWindow_phase (v : Valve) (w : WindowState) (s : State) : (setWindow v w s).phase = s.phase := rfl
@[simp] theorem setWindow_schedule (v : Valve) (w : WindowState) (s : State) : (setWindow v w s).schedule = s.schedule := rfl
@[simp] theorem setWindow_lanes (v : Valve) (w : WindowState) (s : State) : (setWindow v w s).lanes = s.lanes := rfl
@[simp] theorem setWindow_portA (v : Valve) (w : WindowState) (s : State) : (setWindow v w s).portA = s.portA := rfl
@[simp] theorem setWindow_portB (v : Valve) (w : WindowState) (s : State) : (setWindow v w s).portB = s.portB := rfl
@[simp] theorem setWindow_engine (v : Valve) (w : WindowState) (s : State) : (setWindow v w s).engine = s.engine := rfl
@[simp] theorem setWindow_lines (v : Valve) (w : WindowState) (s : State) : (setWindow v w s).lines = s.lines := rfl
@[simp] theorem setWindow_freeCount (v : Valve) (w : WindowState) (s : State) : (setWindow v w s).freeCount = s.freeCount := rfl
@[simp] theorem setWindow_building (v : Valve) (w : WindowState) (s : State) : (setWindow v w s).building = s.building := rfl
@[simp] theorem setWindow_pending (v : Valve) (w : WindowState) (s : State) : (setWindow v w s).pending = s.pending := rfl

@[simp] theorem joinDirected_table (v : Valve) (a b : Nat) (o : EntryOrigin) (s : State) : (joinDirected v a b o s).table = s.table := rfl
@[simp] theorem joinDirected_tallies (v : Valve) (a b : Nat) (o : EntryOrigin) (s : State) : (joinDirected v a b o s).tallies = s.tallies := rfl
@[simp] theorem joinDirected_settings (v : Valve) (a b : Nat) (o : EntryOrigin) (s : State) : (joinDirected v a b o s).settings = s.settings := rfl
@[simp] theorem joinDirected_link (v : Valve) (a b : Nat) (o : EntryOrigin) (s : State) : (joinDirected v a b o s).link = s.link := rfl
@[simp] theorem joinDirected_phase (v : Valve) (a b : Nat) (o : EntryOrigin) (s : State) : (joinDirected v a b o s).phase = s.phase := rfl
@[simp] theorem joinDirected_schedule (v : Valve) (a b : Nat) (o : EntryOrigin) (s : State) : (joinDirected v a b o s).schedule = s.schedule := rfl
@[simp] theorem joinDirected_seq (v : Valve) (a b : Nat) (o : EntryOrigin) (s : State) : (joinDirected v a b o s).seq = s.seq := rfl
@[simp] theorem joinDirected_lanes (v : Valve) (a b : Nat) (o : EntryOrigin) (s : State) : (joinDirected v a b o s).lanes = s.lanes := rfl
@[simp] theorem joinDirected_portA (v : Valve) (a b : Nat) (o : EntryOrigin) (s : State) : (joinDirected v a b o s).portA = s.portA := rfl
@[simp] theorem joinDirected_portB (v : Valve) (a b : Nat) (o : EntryOrigin) (s : State) : (joinDirected v a b o s).portB = s.portB := rfl
@[simp] theorem joinDirected_engine (v : Valve) (a b : Nat) (o : EntryOrigin) (s : State) : (joinDirected v a b o s).engine = s.engine := rfl
@[simp] theorem joinDirected_lines (v : Valve) (a b : Nat) (o : EntryOrigin) (s : State) : (joinDirected v a b o s).lines = s.lines := rfl
@[simp] theorem joinDirected_freeCount (v : Valve) (a b : Nat) (o : EntryOrigin) (s : State) : (joinDirected v a b o s).freeCount = s.freeCount := rfl
@[simp] theorem joinDirected_building (v : Valve) (a b : Nat) (o : EntryOrigin) (s : State) : (joinDirected v a b o s).building = s.building := rfl
@[simp] theorem joinDirected_pending (v : Valve) (a b : Nat) (o : EntryOrigin) (s : State) : (joinDirected v a b o s).pending = s.pending := rfl

@[simp] theorem sweepEnableSet_table (on : Bool) (s : State) : (sweepEnableSet on s).table = s.table := rfl
@[simp] theorem sweepEnableSet_tallies (on : Bool) (s : State) : (sweepEnableSet on s).tallies = s.tallies := rfl
@[simp] theorem sweepEnableSet_settings (on : Bool) (s : State) : (sweepEnableSet on s).settings = s.settings := rfl
@[simp] theorem sweepEnableSet_link (on : Bool) (s : State) : (sweepEnableSet on s).link = s.link := rfl
@[simp] theorem sweepEnableSet_phase (on : Bool) (s : State) : (sweepEnableSet on s).phase = s.phase := rfl
@[simp] theorem sweepEnableSet_schedule (on : Bool) (s : State) : (sweepEnableSet on s).schedule = s.schedule := rfl
@[simp] theorem sweepEnableSet_seq (on : Bool) (s : State) : (sweepEnableSet on s).seq = s.seq := rfl
@[simp] theorem sweepEnableSet_lanes (on : Bool) (s : State) : (sweepEnableSet on s).lanes = s.lanes := rfl
@[simp] theorem sweepEnableSet_portA (on : Bool) (s : State) : (sweepEnableSet on s).portA = s.portA := rfl
@[simp] theorem sweepEnableSet_portB (on : Bool) (s : State) : (sweepEnableSet on s).portB = s.portB := rfl
@[simp] theorem sweepEnableSet_engine (on : Bool) (s : State) : (sweepEnableSet on s).engine = s.engine := rfl
@[simp] theorem sweepEnableSet_lines (on : Bool) (s : State) : (sweepEnableSet on s).lines = s.lines := rfl
@[simp] theorem sweepEnableSet_freeCount (on : Bool) (s : State) : (sweepEnableSet on s).freeCount = s.freeCount := rfl
@[simp] theorem sweepEnableSet_building (on : Bool) (s : State) : (sweepEnableSet on s).building = s.building := rfl
@[simp] theorem sweepEnableSet_pending (on : Bool) (s : State) : (sweepEnableSet on s).pending = s.pending := rfl

@[simp] theorem tellCut_table (p : Poll) (s : State) : (tellCut p s).table = s.table := rfl
@[simp] theorem tellCut_tallies (p : Poll) (s : State) : (tellCut p s).tallies = s.tallies := rfl
@[simp] theorem tellCut_settings (p : Poll) (s : State) : (tellCut p s).settings = s.settings := rfl
@[simp] theorem tellCut_link (p : Poll) (s : State) : (tellCut p s).link = s.link := rfl
@[simp] theorem tellCut_phase (p : Poll) (s : State) : (tellCut p s).phase = s.phase := rfl
@[simp] theorem tellCut_schedule (p : Poll) (s : State) : (tellCut p s).schedule = s.schedule := rfl
@[simp] theorem tellCut_seq (p : Poll) (s : State) : (tellCut p s).seq = s.seq := rfl
@[simp] theorem tellCut_lanes (p : Poll) (s : State) : (tellCut p s).lanes = s.lanes := rfl
@[simp] theorem tellCut_portA (p : Poll) (s : State) : (tellCut p s).portA = s.portA := rfl
@[simp] theorem tellCut_portB (p : Poll) (s : State) : (tellCut p s).portB = s.portB := rfl
@[simp] theorem tellCut_engine (p : Poll) (s : State) : (tellCut p s).engine = s.engine := rfl
@[simp] theorem tellCut_lines (p : Poll) (s : State) : (tellCut p s).lines = s.lines := rfl
@[simp] theorem tellCut_freeCount (p : Poll) (s : State) : (tellCut p s).freeCount = s.freeCount := rfl
@[simp] theorem tellCut_building (p : Poll) (s : State) : (tellCut p s).building = s.building := rfl
@[simp] theorem tellCut_pending (p : Poll) (s : State) : (tellCut p s).pending = s.pending := rfl

@[simp] theorem clearArmed_table (s : State) : (clearArmed s).table = s.table := rfl
@[simp] theorem clearArmed_tallies (s : State) : (clearArmed s).tallies = s.tallies := rfl
@[simp] theorem clearArmed_settings (s : State) : (clearArmed s).settings = s.settings := rfl
@[simp] theorem clearArmed_link (s : State) : (clearArmed s).link = s.link := rfl
@[simp] theorem clearArmed_phase (s : State) : (clearArmed s).phase = s.phase := rfl
@[simp] theorem clearArmed_schedule (s : State) : (clearArmed s).schedule = s.schedule := rfl
@[simp] theorem clearArmed_seq (s : State) : (clearArmed s).seq = s.seq := rfl
@[simp] theorem clearArmed_lanes (s : State) : (clearArmed s).lanes = s.lanes := rfl
@[simp] theorem clearArmed_portA (s : State) : (clearArmed s).portA = s.portA := rfl
@[simp] theorem clearArmed_portB (s : State) : (clearArmed s).portB = s.portB := rfl
@[simp] theorem clearArmed_engine (s : State) : (clearArmed s).engine = s.engine := rfl
@[simp] theorem clearArmed_lines (s : State) : (clearArmed s).lines = s.lines := rfl
@[simp] theorem clearArmed_freeCount (s : State) : (clearArmed s).freeCount = s.freeCount := rfl
@[simp] theorem clearArmed_building (s : State) : (clearArmed s).building = s.building := rfl
@[simp] theorem clearArmed_pending (s : State) : (clearArmed s).pending = s.pending := rfl

@[simp] theorem openTelegram_table (p : Poll) (s : State) : (openTelegram p s).table = s.table := rfl
@[simp] theorem openTelegram_tallies (p : Poll) (s : State) : (openTelegram p s).tallies = s.tallies := rfl
@[simp] theorem openTelegram_settings (p : Poll) (s : State) : (openTelegram p s).settings = s.settings := rfl
@[simp] theorem openTelegram_sources (p : Poll) (s : State) : (openTelegram p s).sources = s.sources := rfl
@[simp] theorem openTelegram_phase (p : Poll) (s : State) : (openTelegram p s).phase = s.phase := rfl
@[simp] theorem openTelegram_schedule (p : Poll) (s : State) : (openTelegram p s).schedule = s.schedule := rfl
@[simp] theorem openTelegram_seq (p : Poll) (s : State) : (openTelegram p s).seq = s.seq := rfl
@[simp] theorem openTelegram_lanes (p : Poll) (s : State) : (openTelegram p s).lanes = s.lanes := rfl
@[simp] theorem openTelegram_portA (p : Poll) (s : State) : (openTelegram p s).portA = s.portA := rfl
@[simp] theorem openTelegram_portB (p : Poll) (s : State) : (openTelegram p s).portB = s.portB := rfl
@[simp] theorem openTelegram_engine (p : Poll) (s : State) : (openTelegram p s).engine = s.engine := rfl
@[simp] theorem openTelegram_lines (p : Poll) (s : State) : (openTelegram p s).lines = s.lines := rfl
@[simp] theorem openTelegram_freeCount (p : Poll) (s : State) : (openTelegram p s).freeCount = s.freeCount := rfl
@[simp] theorem openTelegram_building (p : Poll) (s : State) : (openTelegram p s).building = s.building := rfl
@[simp] theorem openTelegram_pending (p : Poll) (s : State) : (openTelegram p s).pending = s.pending := rfl

@[simp] theorem startPoll_table (src : PollSource) (k : PollKind) (v : Valve) (a b : Nat) (s : State) : (startPoll src k v a b s).table = s.table := rfl
@[simp] theorem startPoll_tallies (src : PollSource) (k : PollKind) (v : Valve) (a b : Nat) (s : State) : (startPoll src k v a b s).tallies = s.tallies := rfl
@[simp] theorem startPoll_settings (src : PollSource) (k : PollKind) (v : Valve) (a b : Nat) (s : State) : (startPoll src k v a b s).settings = s.settings := rfl
@[simp] theorem startPoll_sources (src : PollSource) (k : PollKind) (v : Valve) (a b : Nat) (s : State) : (startPoll src k v a b s).sources = s.sources := rfl
@[simp] theorem startPoll_phase (src : PollSource) (k : PollKind) (v : Valve) (a b : Nat) (s : State) : (startPoll src k v a b s).phase = s.phase := rfl
@[simp] theorem startPoll_schedule (src : PollSource) (k : PollKind) (v : Valve) (a b : Nat) (s : State) : (startPoll src k v a b s).schedule = s.schedule := rfl
@[simp] theorem startPoll_seq (src : PollSource) (k : PollKind) (v : Valve) (a b : Nat) (s : State) : (startPoll src k v a b s).seq = s.seq := rfl
@[simp] theorem startPoll_lanes (src : PollSource) (k : PollKind) (v : Valve) (a b : Nat) (s : State) : (startPoll src k v a b s).lanes = s.lanes := rfl
@[simp] theorem startPoll_portA (src : PollSource) (k : PollKind) (v : Valve) (a b : Nat) (s : State) : (startPoll src k v a b s).portA = s.portA := rfl
@[simp] theorem startPoll_portB (src : PollSource) (k : PollKind) (v : Valve) (a b : Nat) (s : State) : (startPoll src k v a b s).portB = s.portB := rfl
@[simp] theorem startPoll_engine (src : PollSource) (k : PollKind) (v : Valve) (a b : Nat) (s : State) : (startPoll src k v a b s).engine = s.engine := rfl
@[simp] theorem startPoll_lines (src : PollSource) (k : PollKind) (v : Valve) (a b : Nat) (s : State) : (startPoll src k v a b s).lines = s.lines := rfl
@[simp] theorem startPoll_freeCount (src : PollSource) (k : PollKind) (v : Valve) (a b : Nat) (s : State) : (startPoll src k v a b s).freeCount = s.freeCount := rfl
@[simp] theorem startPoll_building (src : PollSource) (k : PollKind) (v : Valve) (a b : Nat) (s : State) : (startPoll src k v a b s).building = s.building := rfl
@[simp] theorem startPoll_pending (src : PollSource) (k : PollKind) (v : Valve) (a b : Nat) (s : State) : (startPoll src k v a b s).pending = s.pending := rfl

@[simp] theorem becomeHeld_table (kept : Option Poll) (s : State) : (becomeHeld kept s).table = s.table := rfl
@[simp] theorem becomeHeld_tallies (kept : Option Poll) (s : State) : (becomeHeld kept s).tallies = s.tallies := rfl
@[simp] theorem becomeHeld_settings (kept : Option Poll) (s : State) : (becomeHeld kept s).settings = s.settings := rfl
@[simp] theorem becomeHeld_sources (kept : Option Poll) (s : State) : (becomeHeld kept s).sources = s.sources := rfl
@[simp] theorem becomeHeld_phase (kept : Option Poll) (s : State) : (becomeHeld kept s).phase = s.phase := rfl
@[simp] theorem becomeHeld_schedule (kept : Option Poll) (s : State) : (becomeHeld kept s).schedule = s.schedule := rfl
@[simp] theorem becomeHeld_seq (kept : Option Poll) (s : State) : (becomeHeld kept s).seq = s.seq := rfl
@[simp] theorem becomeHeld_lanes (kept : Option Poll) (s : State) : (becomeHeld kept s).lanes = s.lanes := rfl
@[simp] theorem becomeHeld_portA (kept : Option Poll) (s : State) : (becomeHeld kept s).portA = s.portA := rfl
@[simp] theorem becomeHeld_portB (kept : Option Poll) (s : State) : (becomeHeld kept s).portB = s.portB := rfl
@[simp] theorem becomeHeld_engine (kept : Option Poll) (s : State) : (becomeHeld kept s).engine = s.engine := rfl
@[simp] theorem becomeHeld_lines (kept : Option Poll) (s : State) : (becomeHeld kept s).lines = s.lines := rfl
@[simp] theorem becomeHeld_freeCount (kept : Option Poll) (s : State) : (becomeHeld kept s).freeCount = s.freeCount := rfl
@[simp] theorem becomeHeld_building (kept : Option Poll) (s : State) : (becomeHeld kept s).building = s.building := rfl
@[simp] theorem becomeHeld_pending (kept : Option Poll) (s : State) : (becomeHeld kept s).pending = s.pending := rfl

@[simp] theorem becomeIdle_table (s : State) : (becomeIdle s).table = s.table := rfl
@[simp] theorem becomeIdle_tallies (s : State) : (becomeIdle s).tallies = s.tallies := rfl
@[simp] theorem becomeIdle_settings (s : State) : (becomeIdle s).settings = s.settings := rfl
@[simp] theorem becomeIdle_sources (s : State) : (becomeIdle s).sources = s.sources := rfl
@[simp] theorem becomeIdle_phase (s : State) : (becomeIdle s).phase = s.phase := rfl
@[simp] theorem becomeIdle_schedule (s : State) : (becomeIdle s).schedule = s.schedule := rfl
@[simp] theorem becomeIdle_seq (s : State) : (becomeIdle s).seq = s.seq := rfl
@[simp] theorem becomeIdle_lanes (s : State) : (becomeIdle s).lanes = s.lanes := rfl
@[simp] theorem becomeIdle_portA (s : State) : (becomeIdle s).portA = s.portA := rfl
@[simp] theorem becomeIdle_portB (s : State) : (becomeIdle s).portB = s.portB := rfl
@[simp] theorem becomeIdle_engine (s : State) : (becomeIdle s).engine = s.engine := rfl
@[simp] theorem becomeIdle_lines (s : State) : (becomeIdle s).lines = s.lines := rfl
@[simp] theorem becomeIdle_freeCount (s : State) : (becomeIdle s).freeCount = s.freeCount := rfl
@[simp] theorem becomeIdle_building (s : State) : (becomeIdle s).building = s.building := rfl
@[simp] theorem becomeIdle_pending (s : State) : (becomeIdle s).pending = s.pending := rfl

@[simp] theorem countMismatch_table (s : State) : (countMismatch s).table = s.table := rfl
@[simp] theorem countMismatch_tallies (s : State) : (countMismatch s).tallies = s.tallies := rfl
@[simp] theorem countMismatch_settings (s : State) : (countMismatch s).settings = s.settings := rfl
@[simp] theorem countMismatch_sources (s : State) : (countMismatch s).sources = s.sources := rfl
@[simp] theorem countMismatch_phase (s : State) : (countMismatch s).phase = s.phase := rfl
@[simp] theorem countMismatch_schedule (s : State) : (countMismatch s).schedule = s.schedule := rfl
@[simp] theorem countMismatch_seq (s : State) : (countMismatch s).seq = s.seq := rfl
@[simp] theorem countMismatch_lanes (s : State) : (countMismatch s).lanes = s.lanes := rfl
@[simp] theorem countMismatch_engine (s : State) : (countMismatch s).engine = s.engine := rfl
@[simp] theorem countMismatch_lines (s : State) : (countMismatch s).lines = s.lines := rfl
@[simp] theorem countMismatch_freeCount (s : State) : (countMismatch s).freeCount = s.freeCount := rfl
@[simp] theorem countMismatch_building (s : State) : (countMismatch s).building = s.building := rfl
@[simp] theorem countMismatch_pending (s : State) : (countMismatch s).pending = s.pending := rfl

@[simp] theorem overrun_table (s : State) : (overrun s).table = s.table := rfl
@[simp] theorem overrun_tallies (s : State) : (overrun s).tallies = s.tallies := rfl
@[simp] theorem overrun_settings (s : State) : (overrun s).settings = s.settings := rfl
@[simp] theorem overrun_sources (s : State) : (overrun s).sources = s.sources := rfl
@[simp] theorem overrun_phase (s : State) : (overrun s).phase = s.phase := rfl
@[simp] theorem overrun_schedule (s : State) : (overrun s).schedule = s.schedule := rfl
@[simp] theorem overrun_seq (s : State) : (overrun s).seq = s.seq := rfl
@[simp] theorem overrun_lanes (s : State) : (overrun s).lanes = s.lanes := rfl
@[simp] theorem overrun_engine (s : State) : (overrun s).engine = s.engine := rfl
@[simp] theorem overrun_lines (s : State) : (overrun s).lines = s.lines := rfl
@[simp] theorem overrun_freeCount (s : State) : (overrun s).freeCount = s.freeCount := rfl
@[simp] theorem overrun_building (s : State) : (overrun s).building = s.building := rfl
@[simp] theorem overrun_pending (s : State) : (overrun s).pending = s.pending := rfl

@[simp] theorem makeSwap_table (s : State) : (makeSwap s).table = s.table := rfl
@[simp] theorem makeSwap_tallies (s : State) : (makeSwap s).tallies = s.tallies := rfl
@[simp] theorem makeSwap_settings (s : State) : (makeSwap s).settings = s.settings := rfl
@[simp] theorem makeSwap_link (s : State) : (makeSwap s).link = s.link := rfl
@[simp] theorem makeSwap_sources (s : State) : (makeSwap s).sources = s.sources := rfl
@[simp] theorem makeSwap_phase (s : State) : (makeSwap s).phase = s.phase := rfl
@[simp] theorem makeSwap_seq (s : State) : (makeSwap s).seq = s.seq := rfl
@[simp] theorem makeSwap_lanes (s : State) : (makeSwap s).lanes = s.lanes := rfl
@[simp] theorem makeSwap_engine (s : State) : (makeSwap s).engine = s.engine := rfl
@[simp] theorem makeSwap_lines (s : State) : (makeSwap s).lines = s.lines := rfl
@[simp] theorem makeSwap_freeCount (s : State) : (makeSwap s).freeCount = s.freeCount := rfl
@[simp] theorem makeSwap_building (s : State) : (makeSwap s).building = s.building := rfl
@[simp] theorem makeSwap_pending (s : State) : (makeSwap s).pending = s.pending := rfl

@[simp] theorem respread_table (s : State) : (respread s).table = s.table := rfl
@[simp] theorem respread_settings (s : State) : (respread s).settings = s.settings := rfl
@[simp] theorem respread_link (s : State) : (respread s).link = s.link := rfl
@[simp] theorem respread_sources (s : State) : (respread s).sources = s.sources := rfl
@[simp] theorem respread_phase (s : State) : (respread s).phase = s.phase := rfl
@[simp] theorem respread_schedule (s : State) : (respread s).schedule = s.schedule := rfl
@[simp] theorem respread_seq (s : State) : (respread s).seq = s.seq := rfl
@[simp] theorem respread_lanes (s : State) : (respread s).lanes = s.lanes := rfl
@[simp] theorem respread_portA (s : State) : (respread s).portA = s.portA := rfl
@[simp] theorem respread_portB (s : State) : (respread s).portB = s.portB := rfl
@[simp] theorem respread_engine (s : State) : (respread s).engine = s.engine := rfl
@[simp] theorem respread_lines (s : State) : (respread s).lines = s.lines := rfl
@[simp] theorem respread_freeCount (s : State) : (respread s).freeCount = s.freeCount := rfl
@[simp] theorem respread_building (s : State) : (respread s).building = s.building := rfl
@[simp] theorem respread_pending (s : State) : (respread s).pending = s.pending := rfl

@[simp] theorem reclamp_table (s : State) : (reclamp s).table = s.table := rfl
@[simp] theorem reclamp_tallies (s : State) : (reclamp s).tallies = s.tallies := rfl
@[simp] theorem reclamp_settings (s : State) : (reclamp s).settings = s.settings := rfl
@[simp] theorem reclamp_link (s : State) : (reclamp s).link = s.link := rfl
@[simp] theorem reclamp_sources (s : State) : (reclamp s).sources = s.sources := rfl
@[simp] theorem reclamp_phase (s : State) : (reclamp s).phase = s.phase := rfl
@[simp] theorem reclamp_lanes (s : State) : (reclamp s).lanes = s.lanes := rfl
@[simp] theorem reclamp_portA (s : State) : (reclamp s).portA = s.portA := rfl
@[simp] theorem reclamp_portB (s : State) : (reclamp s).portB = s.portB := rfl
@[simp] theorem reclamp_engine (s : State) : (reclamp s).engine = s.engine := rfl
@[simp] theorem reclamp_lines (s : State) : (reclamp s).lines = s.lines := rfl
@[simp] theorem reclamp_freeCount (s : State) : (reclamp s).freeCount = s.freeCount := rfl
@[simp] theorem reclamp_building (s : State) : (reclamp s).building = s.building := rfl
@[simp] theorem reclamp_pending (s : State) : (reclamp s).pending = s.pending := rfl

@[simp] theorem setLines_table (l : Lines) (s : State) : (setLines l s).table = s.table := rfl
@[simp] theorem setLines_tallies (l : Lines) (s : State) : (setLines l s).tallies = s.tallies := rfl
@[simp] theorem setLines_settings (l : Lines) (s : State) : (setLines l s).settings = s.settings := rfl
@[simp] theorem setLines_link (l : Lines) (s : State) : (setLines l s).link = s.link := rfl
@[simp] theorem setLines_sources (l : Lines) (s : State) : (setLines l s).sources = s.sources := rfl
@[simp] theorem setLines_phase (l : Lines) (s : State) : (setLines l s).phase = s.phase := rfl
@[simp] theorem setLines_schedule (l : Lines) (s : State) : (setLines l s).schedule = s.schedule := rfl
@[simp] theorem setLines_seq (l : Lines) (s : State) : (setLines l s).seq = s.seq := rfl
@[simp] theorem setLines_lanes (l : Lines) (s : State) : (setLines l s).lanes = s.lanes := rfl
@[simp] theorem setLines_portA (l : Lines) (s : State) : (setLines l s).portA = s.portA := rfl
@[simp] theorem setLines_portB (l : Lines) (s : State) : (setLines l s).portB = s.portB := rfl
@[simp] theorem setLines_engine (l : Lines) (s : State) : (setLines l s).engine = s.engine := rfl
@[simp] theorem setLines_freeCount (l : Lines) (s : State) : (setLines l s).freeCount = s.freeCount := rfl
@[simp] theorem setLines_building (l : Lines) (s : State) : (setLines l s).building = s.building := rfl
@[simp] theorem setLines_pending (l : Lines) (s : State) : (setLines l s).pending = s.pending := rfl

@[simp] theorem closeWindows_table (s : State) : (closeWindows s).table = s.table := rfl
@[simp] theorem closeWindows_tallies (s : State) : (closeWindows s).tallies = s.tallies := rfl
@[simp] theorem closeWindows_settings (s : State) : (closeWindows s).settings = s.settings := rfl
@[simp] theorem closeWindows_link (s : State) : (closeWindows s).link = s.link := rfl
@[simp] theorem closeWindows_sources (s : State) : (closeWindows s).sources = s.sources := rfl
@[simp] theorem closeWindows_phase (s : State) : (closeWindows s).phase = s.phase := rfl
@[simp] theorem closeWindows_schedule (s : State) : (closeWindows s).schedule = s.schedule := rfl
@[simp] theorem closeWindows_lanes (s : State) : (closeWindows s).lanes = s.lanes := rfl
@[simp] theorem closeWindows_portA (s : State) : (closeWindows s).portA = s.portA := rfl
@[simp] theorem closeWindows_portB (s : State) : (closeWindows s).portB = s.portB := rfl
@[simp] theorem closeWindows_engine (s : State) : (closeWindows s).engine = s.engine := rfl
@[simp] theorem closeWindows_lines (s : State) : (closeWindows s).lines = s.lines := rfl
@[simp] theorem closeWindows_freeCount (s : State) : (closeWindows s).freeCount = s.freeCount := rfl
@[simp] theorem closeWindows_building (s : State) : (closeWindows s).building = s.building := rfl
@[simp] theorem closeWindows_pending (s : State) : (closeWindows s).pending = s.pending := rfl

@[simp] theorem unlatch_table (s : State) : (unlatch s).table = s.table := rfl
@[simp] theorem unlatch_tallies (s : State) : (unlatch s).tallies = s.tallies := rfl
@[simp] theorem unlatch_settings (s : State) : (unlatch s).settings = s.settings := rfl
@[simp] theorem unlatch_link (s : State) : (unlatch s).link = s.link := rfl
@[simp] theorem unlatch_sources (s : State) : (unlatch s).sources = s.sources := rfl
@[simp] theorem unlatch_phase (s : State) : (unlatch s).phase = s.phase := rfl
@[simp] theorem unlatch_schedule (s : State) : (unlatch s).schedule = s.schedule := rfl
@[simp] theorem unlatch_lanes (s : State) : (unlatch s).lanes = s.lanes := rfl
@[simp] theorem unlatch_portA (s : State) : (unlatch s).portA = s.portA := rfl
@[simp] theorem unlatch_portB (s : State) : (unlatch s).portB = s.portB := rfl
@[simp] theorem unlatch_engine (s : State) : (unlatch s).engine = s.engine := rfl
@[simp] theorem unlatch_lines (s : State) : (unlatch s).lines = s.lines := rfl
@[simp] theorem unlatch_freeCount (s : State) : (unlatch s).freeCount = s.freeCount := rfl
@[simp] theorem unlatch_building (s : State) : (unlatch s).building = s.building := rfl
@[simp] theorem unlatch_pending (s : State) : (unlatch s).pending = s.pending := rfl

@[simp] theorem controlReset_table (keep : Option Port) (s : State) : (controlReset keep s).table = s.table := rfl
@[simp] theorem controlReset_tallies (keep : Option Port) (s : State) : (controlReset keep s).tallies = s.tallies := rfl
@[simp] theorem controlReset_settings (keep : Option Port) (s : State) : (controlReset keep s).settings = s.settings := rfl
@[simp] theorem controlReset_lines (keep : Option Port) (s : State) : (controlReset keep s).lines = s.lines := rfl
@[simp] theorem controlReset_freeCount (keep : Option Port) (s : State) : (controlReset keep s).freeCount = s.freeCount := rfl
@[simp] theorem controlReset_building (keep : Option Port) (s : State) : (controlReset keep s).building = ImageBuild.empty := rfl
@[simp] theorem controlReset_pending (keep : Option Port) (s : State) : (controlReset keep s).pending = s.pending := rfl

@[simp] theorem powerOn_freeCount (l : Lines) (s : State) : (powerOn l s).freeCount = s.freeCount := rfl
@[simp] theorem powerOn_building (l : Lines) (s : State) : (powerOn l s).building = ImageBuild.empty := rfl
@[simp] theorem powerOn_pending (l : Lines) (s : State) : (powerOn l s).pending = s.pending := rfl

/-! ### Ports -/

@[simp] theorem State.setPort_table (s : State) (p : Port) (u : PortUnit) : (s.setPort p u).table = s.table := by cases p <;> rfl
@[simp] theorem State.setPort_tallies (s : State) (p : Port) (u : PortUnit) : (s.setPort p u).tallies = s.tallies := by cases p <;> rfl
@[simp] theorem State.setPort_settings (s : State) (p : Port) (u : PortUnit) : (s.setPort p u).settings = s.settings := by cases p <;> rfl
@[simp] theorem State.setPort_link (s : State) (p : Port) (u : PortUnit) : (s.setPort p u).link = s.link := by cases p <;> rfl
@[simp] theorem State.setPort_sources (s : State) (p : Port) (u : PortUnit) : (s.setPort p u).sources = s.sources := by cases p <;> rfl
@[simp] theorem State.setPort_phase (s : State) (p : Port) (u : PortUnit) : (s.setPort p u).phase = s.phase := by cases p <;> rfl
@[simp] theorem State.setPort_schedule (s : State) (p : Port) (u : PortUnit) : (s.setPort p u).schedule = s.schedule := by cases p <;> rfl
@[simp] theorem State.setPort_seq (s : State) (p : Port) (u : PortUnit) : (s.setPort p u).seq = s.seq := by cases p <;> rfl
@[simp] theorem State.setPort_lanes (s : State) (p : Port) (u : PortUnit) : (s.setPort p u).lanes = s.lanes := by cases p <;> rfl
@[simp] theorem State.setPort_engine (s : State) (p : Port) (u : PortUnit) : (s.setPort p u).engine = s.engine := by cases p <;> rfl
@[simp] theorem State.setPort_lines (s : State) (p : Port) (u : PortUnit) : (s.setPort p u).lines = s.lines := by cases p <;> rfl
@[simp] theorem State.setPort_freeCount (s : State) (p : Port) (u : PortUnit) : (s.setPort p u).freeCount = s.freeCount := by cases p <;> rfl
@[simp] theorem State.setPort_building (s : State) (p : Port) (u : PortUnit) : (s.setPort p u).building = s.building := by cases p <;> rfl
@[simp] theorem State.setPort_pending (s : State) (p : Port) (u : PortUnit) : (s.setPort p u).pending = s.pending := by cases p <;> rfl

@[simp] theorem State.setPort_port_same (s : State) (p : Port) (u : PortUnit) : (s.setPort p u).port p = u := by
  cases p <;> rfl

@[simp] theorem State.setPort_port_other (s : State) (p : Port) (u : PortUnit) :
    (s.setPort p u).port (otherPort p) = s.port (otherPort p) := by
  cases p <;> rfl

theorem State.setPort_port (s : State) (p r : Port) (u : PortUnit) :
    (s.setPort p u).port r = if r = p then u else s.port r := by
  cases p <;> cases r <;> rfl

@[simp] theorem otherPort_ne (p : Port) : otherPort p ≠ p := by cases p <;> decide

@[simp] theorem otherPort_otherPort (p : Port) : otherPort (otherPort p) = p := by cases p <;> rfl

theorem eq_or_eq_otherPort (p r : Port) : r = p ∨ r = otherPort p := by cases p <;> cases r <;> decide

/-- Two states whose port registers agree have the same ports. -/
theorem State.port_congr {s t : State} (ha : t.portA = s.portA) (hb : t.portB = s.portB) (p : Port) :
    t.port p = s.port p := by
  cases p <;> assumption

/-- A notice touches the flags of both ports and nothing else. -/
theorem setNotice_port (n : Notice) (s : State) (p : Port) :
    (setNotice n s).port p = { s.port p with flags := (s.port p).flags ||| noticeBit n } := by
  cases p <;> rfl

/-! ### Tables -/

theorem put_getElem {α : Type} {n : Nat} (xs : Vector α n) (i : Fin n) (x : α) (j : Nat) (hj : j < n) :
    (put xs i x)[j] = if i.val = j then x else xs[j] := by
  simp [put, Vector.getElem_set]

@[simp] theorem put_same {α : Type} {n : Nat} (xs : Vector α n) (i : Fin n) (x : α) :
    (put xs i x)[i.val] = x := by
  simp [put_getElem]

@[simp] theorem mapEntries_getElem {α β : Type} {n : Nat} (f : α → β) (xs : Vector α n) (j : Nat) (hj : j < n) :
    (mapEntries f xs)[j] = f xs[j] := by
  simp [mapEntries]

@[simp] theorem State.setRecord_record_same (s : State) (v : Valve) (p : Position) (r : LevelRecord) :
    (s.setRecord v p r).record v p = r := by
  simp [State.setRecord, State.record]

/-- Every other record reads as before. -/
theorem State.setRecord_record (s : State) (v w : Valve) (p x : Position) (r : LevelRecord) :
    (s.setRecord v p r).record w x = if v = w ∧ p = x then r else s.record w x := by
  by_cases hv : v = w
  · subst hv
    simp [State.setRecord, State.record, put_getElem, Fin.ext_iff]
  · simp [State.setRecord, State.record, put_getElem, Fin.val_inj, hv]

theorem State.setTally_tally (s : State) (v w : Valve) (t : Tally) :
    (s.setTally v t).tally w = if v = w then t else s.tally w := by
  simp [State.setTally, State.tally, put_getElem, Fin.ext_iff]

theorem State.setLane_lane (s : State) (v w : Valve) (l : Lane) :
    (s.setLane v l).lane w = if v = w then l else s.lane w := by
  simp [State.setLane, State.lane, put_getElem, Fin.ext_iff]

theorem cutLanes_lane (s : State) (v : Valve) : (cutLanes s).lane v = cutLane (s.lane v) := by
  simp [cutLanes, State.lane]

end Sys2Proof.Machine
end

