-- ==== Sys2Proof/Laws/Sequencer.lean ====
section
/-! SUPPORT. What each operation of the sequencer and the lanes leaves as it was. -/

namespace Sys2Proof.Machine

/-- A fold leaves what each of its steps leaves. -/
theorem foldl_keeps {α β : Type} (f : State → α → State) (π : State → β) (h : ∀ s a, π (f s a) = π s) (l : List α)
    (s : State) : π (l.foldl f s) = π s := by
  induction l generalizing s with
  | nil => rfl
  | cons a l ih => rw [List.foldl_cons, ih, h]

/-- The ports differ at most in their notice flags. -/
def SamePorts (s t : State) : Prop := ∀ p, t.port p = { s.port p with flags := (t.port p).flags }

theorem SamePorts.refl (s : State) : SamePorts s s := fun _ => rfl

theorem SamePorts.trans {s t u : State} (h : SamePorts s t) (k : SamePorts t u) : SamePorts s u := fun p => by
  rw [k p, h p]

theorem SamePorts.of_eq {s t : State} (ha : t.portA = s.portA) (hb : t.portB = s.portB) : SamePorts s t := fun p => by
  rw [State.port_congr ha hb]

theorem setNotice_samePorts (n : Notice) (s : State) : SamePorts s (setNotice n s) := fun p => by
  rw [setNotice_port]

@[simp] theorem enter_frame (c : Conv) (x : Option ExitTarget) (s : State) :
    (enter c x s).table = s.table ∧
    (enter c x s).tallies = s.tallies ∧
    (enter c x s).settings = s.settings ∧
    (enter c x s).link = s.link ∧
    (enter c x s).sources = s.sources ∧
    (enter c x s).phase = s.phase ∧
    (enter c x s).schedule = s.schedule ∧
    (enter c x s).engine = s.engine ∧
    (enter c x s).lines = s.lines ∧
    (enter c x s).freeCount = s.freeCount ∧
    (enter c x s).building = s.building ∧
    (enter c x s).pending = s.pending := by
  unfold enter; dsimp only; split <;> simp

@[simp] theorem enterRetarded_frame (x : ExitTarget) (s : State) :
    (enterRetarded x s).table = s.table ∧
    (enterRetarded x s).tallies = s.tallies ∧
    (enterRetarded x s).settings = s.settings ∧
    (enterRetarded x s).link = s.link ∧
    (enterRetarded x s).sources = s.sources ∧
    (enterRetarded x s).phase = s.phase ∧
    (enterRetarded x s).schedule = s.schedule ∧
    (enterRetarded x s).engine = s.engine ∧
    (enterRetarded x s).lines = s.lines ∧
    (enterRetarded x s).freeCount = s.freeCount ∧
    (enterRetarded x s).building = s.building ∧
    (enterRetarded x s).pending = s.pending := by
  simp [enterRetarded]

@[simp] theorem enterBypassing_frame (x : ExitTarget) (s : State) :
    (enterBypassing x s).table = s.table ∧
    (enterBypassing x s).tallies = s.tallies ∧
    (enterBypassing x s).settings = s.settings ∧
    (enterBypassing x s).link = s.link ∧
    (enterBypassing x s).sources = s.sources ∧
    (enterBypassing x s).phase = s.phase ∧
    (enterBypassing x s).schedule = s.schedule ∧
    (enterBypassing x s).engine = s.engine ∧
    (enterBypassing x s).lines = s.lines ∧
    (enterBypassing x s).freeCount = s.freeCount ∧
    (enterBypassing x s).building = s.building ∧
    (enterBypassing x s).pending = s.pending := by
  simp [enterBypassing]

@[simp] theorem enterDeionizing_frame (s : State) :
    (enterDeionizing s).table = s.table ∧
    (enterDeionizing s).tallies = s.tallies ∧
    (enterDeionizing s).settings = s.settings ∧
    (enterDeionizing s).link = s.link ∧
    (enterDeionizing s).sources = s.sources ∧
    (enterDeionizing s).phase = s.phase ∧
    (enterDeionizing s).schedule = s.schedule ∧
    (enterDeionizing s).engine = s.engine ∧
    (enterDeionizing s).lines = s.lines ∧
    (enterDeionizing s).freeCount = s.freeCount ∧
    (enterDeionizing s).building = s.building ∧
    (enterDeionizing s).pending = s.pending := by
  simp [enterDeionizing]

@[simp] theorem enterRamping_frame (s : State) :
    (enterRamping s).table = s.table ∧
    (enterRamping s).tallies = s.tallies ∧
    (enterRamping s).settings = s.settings ∧
    (enterRamping s).link = s.link ∧
    (enterRamping s).sources = s.sources ∧
    (enterRamping s).phase = s.phase ∧
    (enterRamping s).schedule = s.schedule ∧
    (enterRamping s).engine = s.engine ∧
    (enterRamping s).lines = s.lines ∧
    (enterRamping s).freeCount = s.freeCount ∧
    (enterRamping s).building = s.building ∧
    (enterRamping s).pending = s.pending := by
  simp [enterRamping]

@[simp] theorem strengthen_frame (x : ExitTarget) (s : State) :
    (strengthen x s).table = s.table ∧
    (strengthen x s).tallies = s.tallies ∧
    (strengthen x s).settings = s.settings ∧
    (strengthen x s).link = s.link ∧
    (strengthen x s).sources = s.sources ∧
    (strengthen x s).phase = s.phase ∧
    (strengthen x s).schedule = s.schedule ∧
    (strengthen x s).lanes = s.lanes ∧
    (strengthen x s).engine = s.engine ∧
    (strengthen x s).lines = s.lines ∧
    (strengthen x s).freeCount = s.freeCount ∧
    (strengthen x s).building = s.building ∧
    (strengthen x s).pending = s.pending := by
  unfold strengthen; repeat' split
  all_goals simp

@[simp] theorem takeExit_frame (s : State) :
    (takeExit s).table = s.table ∧
    (takeExit s).tallies = s.tallies ∧
    (takeExit s).settings = s.settings ∧
    (takeExit s).link = s.link ∧
    (takeExit s).sources = s.sources ∧
    (takeExit s).phase = s.phase ∧
    (takeExit s).schedule = s.schedule ∧
    (takeExit s).engine = s.engine ∧
    (takeExit s).lines = s.lines ∧
    (takeExit s).freeCount = s.freeCount ∧
    (takeExit s).building = s.building ∧
    (takeExit s).pending = s.pending := by
  unfold takeExit; repeat' split
  all_goals simp

@[simp] theorem latchTrip_frame (cause : TripCause) (s : State) :
    (latchTrip cause s).table = s.table ∧
    (latchTrip cause s).tallies = s.tallies ∧
    (latchTrip cause s).settings = s.settings ∧
    (latchTrip cause s).link = s.link ∧
    (latchTrip cause s).sources = s.sources ∧
    (latchTrip cause s).phase = s.phase ∧
    (latchTrip cause s).schedule = s.schedule ∧
    (latchTrip cause s).lanes = s.lanes ∧
    (latchTrip cause s).engine = s.engine ∧
    (latchTrip cause s).lines = s.lines ∧
    (latchTrip cause s).freeCount = s.freeCount ∧
    (latchTrip cause s).building = s.building ∧
    (latchTrip cause s).pending = s.pending := by
  unfold latchTrip; repeat' split
  all_goals simp

@[simp] theorem stopByRole_frame (x : ExitTarget) (s : State) :
    (stopByRole x s).table = s.table ∧
    (stopByRole x s).tallies = s.tallies ∧
    (stopByRole x s).settings = s.settings ∧
    (stopByRole x s).link = s.link ∧
    (stopByRole x s).sources = s.sources ∧
    (stopByRole x s).phase = s.phase ∧
    (stopByRole x s).schedule = s.schedule ∧
    (stopByRole x s).engine = s.engine ∧
    (stopByRole x s).lines = s.lines ∧
    (stopByRole x s).freeCount = s.freeCount ∧
    (stopByRole x s).building = s.building ∧
    (stopByRole x s).pending = s.pending := by
  unfold stopByRole; repeat' split
  all_goals simp

@[simp] theorem raiseTrip_frame (cause : TripCause) (s : State) :
    (raiseTrip cause s).table = s.table ∧
    (raiseTrip cause s).tallies = s.tallies ∧
    (raiseTrip cause s).settings = s.settings ∧
    (raiseTrip cause s).link = s.link ∧
    (raiseTrip cause s).sources = s.sources ∧
    (raiseTrip cause s).phase = s.phase ∧
    (raiseTrip cause s).schedule = s.schedule ∧
    (raiseTrip cause s).engine = s.engine ∧
    (raiseTrip cause s).lines = s.lines ∧
    (raiseTrip cause s).freeCount = s.freeCount ∧
    (raiseTrip cause s).building = s.building ∧
    (raiseTrip cause s).pending = s.pending := by
  unfold raiseTrip; repeat' split
  all_goals simp

@[simp] theorem markTrip_frame (before : Conv) (s : State) :
    (markTrip before s).table = s.table ∧
    (markTrip before s).tallies = s.tallies ∧
    (markTrip before s).settings = s.settings ∧
    (markTrip before s).link = s.link ∧
    (markTrip before s).sources = s.sources ∧
    (markTrip before s).phase = s.phase ∧
    (markTrip before s).schedule = s.schedule ∧
    (markTrip before s).lanes = s.lanes ∧
    (markTrip before s).portA = s.portA ∧
    (markTrip before s).portB = s.portB ∧
    (markTrip before s).engine = s.engine ∧
    (markTrip before s).lines = s.lines ∧
    (markTrip before s).freeCount = s.freeCount ∧
    (markTrip before s).building = s.building ∧
    (markTrip before s).pending = s.pending := by
  unfold markTrip; split
  all_goals simp

/-- Everything that the mark of an unfit entry does (R134). -/
theorem markTrip_seq (before : Conv) (s : State) :
    (markTrip before s).seq =
      if before = .ramping ∨ before = .running then { s.seq with freshTrip := true } else s.seq := by
  cases before <;> simp [markTrip]

@[simp] theorem unfitEntry_frame (v : Valve) (origin : UnfitOrigin) (s : State) :
    (unfitEntry v origin s).table = s.table ∧
    (unfitEntry v origin s).tallies = s.tallies ∧
    (unfitEntry v origin s).settings = s.settings ∧
    (unfitEntry v origin s).link = s.link ∧
    (unfitEntry v origin s).sources = s.sources ∧
    (unfitEntry v origin s).phase = s.phase ∧
    (unfitEntry v origin s).schedule = s.schedule ∧
    (unfitEntry v origin s).engine = s.engine ∧
    (unfitEntry v origin s).lines = s.lines ∧
    (unfitEntry v origin s).freeCount = s.freeCount ∧
    (unfitEntry v origin s).building = s.building ∧
    (unfitEntry v origin s).pending = s.pending := by
  unfold unfitEntry; repeat' split
  all_goals simp

@[simp] theorem commutationFailure_frame (v : Valve) (s : State) :
    (commutationFailure v s).table = s.table ∧
    (commutationFailure v s).tallies = s.tallies ∧
    (commutationFailure v s).settings = s.settings ∧
    (commutationFailure v s).link = s.link ∧
    (commutationFailure v s).sources = s.sources ∧
    (commutationFailure v s).phase = s.phase ∧
    (commutationFailure v s).schedule = s.schedule ∧
    (commutationFailure v s).lanes = s.lanes ∧
    (commutationFailure v s).portA = s.portA ∧
    (commutationFailure v s).portB = s.portB ∧
    (commutationFailure v s).engine = s.engine ∧
    (commutationFailure v s).lines = s.lines ∧
    (commutationFailure v s).freeCount = s.freeCount ∧
    (commutationFailure v s).building = s.building ∧
    (commutationFailure v s).pending = s.pending := by
  unfold commutationFailure; repeat' split
  all_goals simp

@[simp] theorem startRamp_frame (s : State) :
    (startRamp s).table = s.table ∧
    (startRamp s).tallies = s.tallies ∧
    (startRamp s).settings = s.settings ∧
    (startRamp s).link = s.link ∧
    (startRamp s).sources = s.sources ∧
    (startRamp s).phase = s.phase ∧
    (startRamp s).schedule = s.schedule ∧
    (startRamp s).engine = s.engine ∧
    (startRamp s).lines = s.lines ∧
    (startRamp s).freeCount = s.freeCount ∧
    (startRamp s).building = s.building ∧
    (startRamp s).pending = s.pending := by
  simp [startRamp]

@[simp] theorem rampStep_frame (s : State) :
    (rampStep s).table = s.table ∧
    (rampStep s).tallies = s.tallies ∧
    (rampStep s).settings = s.settings ∧
    (rampStep s).link = s.link ∧
    (rampStep s).sources = s.sources ∧
    (rampStep s).phase = s.phase ∧
    (rampStep s).schedule = s.schedule ∧
    (rampStep s).engine = s.engine ∧
    (rampStep s).lines = s.lines ∧
    (rampStep s).freeCount = s.freeCount ∧
    (rampStep s).building = s.building ∧
    (rampStep s).pending = s.pending := by
  unfold rampStep; dsimp only; repeat' split
  all_goals simp

@[simp] theorem recoveryStep_frame (s : State) :
    (recoveryStep s).table = s.table ∧
    (recoveryStep s).tallies = s.tallies ∧
    (recoveryStep s).settings = s.settings ∧
    (recoveryStep s).link = s.link ∧
    (recoveryStep s).sources = s.sources ∧
    (recoveryStep s).phase = s.phase ∧
    (recoveryStep s).schedule = s.schedule ∧
    (recoveryStep s).engine = s.engine ∧
    (recoveryStep s).lines = s.lines ∧
    (recoveryStep s).freeCount = s.freeCount ∧
    (recoveryStep s).building = s.building ∧
    (recoveryStep s).pending = s.pending := by
  unfold recoveryStep; dsimp only; repeat' split
  all_goals simp

@[simp] theorem settleRestart_frame (s : State) :
    (settleRestart s).table = s.table ∧
    (settleRestart s).tallies = s.tallies ∧
    (settleRestart s).settings = s.settings ∧
    (settleRestart s).link = s.link ∧
    (settleRestart s).sources = s.sources ∧
    (settleRestart s).phase = s.phase ∧
    (settleRestart s).schedule = s.schedule ∧
    (settleRestart s).engine = s.engine ∧
    (settleRestart s).lines = s.lines ∧
    (settleRestart s).freeCount = s.freeCount ∧
    (settleRestart s).building = s.building ∧
    (settleRestart s).pending = s.pending := by
  unfold settleRestart; dsimp only; repeat' split
  all_goals simp

@[simp] theorem deionizationStep_frame (s : State) :
    (deionizationStep s).table = s.table ∧
    (deionizationStep s).tallies = s.tallies ∧
    (deionizationStep s).settings = s.settings ∧
    (deionizationStep s).link = s.link ∧
    (deionizationStep s).sources = s.sources ∧
    (deionizationStep s).phase = s.phase ∧
    (deionizationStep s).schedule = s.schedule ∧
    (deionizationStep s).engine = s.engine ∧
    (deionizationStep s).lines = s.lines ∧
    (deionizationStep s).freeCount = s.freeCount ∧
    (deionizationStep s).building = s.building ∧
    (deionizationStep s).pending = s.pending := by
  unfold deionizationStep; dsimp only; repeat' split
  all_goals simp

@[simp] theorem retardStep_frame (s : State) :
    (retardStep s).table = s.table ∧
    (retardStep s).tallies = s.tallies ∧
    (retardStep s).settings = s.settings ∧
    (retardStep s).link = s.link ∧
    (retardStep s).sources = s.sources ∧
    (retardStep s).phase = s.phase ∧
    (retardStep s).schedule = s.schedule ∧
    (retardStep s).engine = s.engine ∧
    (retardStep s).lines = s.lines ∧
    (retardStep s).freeCount = s.freeCount ∧
    (retardStep s).building = s.building ∧
    (retardStep s).pending = s.pending := by
  unfold retardStep; dsimp only; repeat' split
  all_goals simp

@[simp] theorem bypassStep_frame (s : State) :
    (bypassStep s).table = s.table ∧
    (bypassStep s).tallies = s.tallies ∧
    (bypassStep s).settings = s.settings ∧
    (bypassStep s).link = s.link ∧
    (bypassStep s).sources = s.sources ∧
    (bypassStep s).phase = s.phase ∧
    (bypassStep s).schedule = s.schedule ∧
    (bypassStep s).engine = s.engine ∧
    (bypassStep s).lines = s.lines ∧
    (bypassStep s).freeCount = s.freeCount ∧
    (bypassStep s).building = s.building ∧
    (bypassStep s).pending = s.pending := by
  unfold bypassStep; dsimp only; repeat' split
  all_goals simp

@[simp] theorem sequencerCycleWork_frame (s : State) :
    (sequencerCycleWork s).table = s.table ∧
    (sequencerCycleWork s).tallies = s.tallies ∧
    (sequencerCycleWork s).settings = s.settings ∧
    (sequencerCycleWork s).link = s.link ∧
    (sequencerCycleWork s).sources = s.sources ∧
    (sequencerCycleWork s).phase = s.phase ∧
    (sequencerCycleWork s).schedule = s.schedule ∧
    (sequencerCycleWork s).engine = s.engine ∧
    (sequencerCycleWork s).lines = s.lines ∧
    (sequencerCycleWork s).freeCount = s.freeCount ∧
    (sequencerCycleWork s).building = s.building ∧
    (sequencerCycleWork s).pending = s.pending := by
  unfold sequencerCycleWork afterFailures; dsimp only; repeat' split
  all_goals simp

@[simp] theorem burstRequest_frame (v : Valve) (s : State) :
    (burstRequest v s).table = s.table ∧
    (burstRequest v s).tallies = s.tallies ∧
    (burstRequest v s).settings = s.settings ∧
    (burstRequest v s).link = s.link ∧
    (burstRequest v s).sources = s.sources ∧
    (burstRequest v s).phase = s.phase ∧
    (burstRequest v s).schedule = s.schedule ∧
    (burstRequest v s).seq = s.seq ∧
    (burstRequest v s).portA = s.portA ∧
    (burstRequest v s).portB = s.portB ∧
    (burstRequest v s).engine = s.engine ∧
    (burstRequest v s).lines = s.lines ∧
    (burstRequest v s).freeCount = s.freeCount ∧
    (burstRequest v s).building = s.building ∧
    (burstRequest v s).pending = s.pending := by
  unfold burstRequest; dsimp only; repeat' split
  all_goals simp

@[simp] theorem fireValve_frame (v : Valve) (s : State) :
    (fireValve v s).table = s.table ∧
    (fireValve v s).tallies = s.tallies ∧
    (fireValve v s).settings = s.settings ∧
    (fireValve v s).link = s.link ∧
    (fireValve v s).phase = s.phase ∧
    (fireValve v s).schedule = s.schedule ∧
    (fireValve v s).seq = s.seq ∧
    (fireValve v s).portA = s.portA ∧
    (fireValve v s).portB = s.portB ∧
    (fireValve v s).engine = s.engine ∧
    (fireValve v s).lines = s.lines ∧
    (fireValve v s).freeCount = s.freeCount ∧
    (fireValve v s).building = s.building ∧
    (fireValve v s).pending = s.pending := by
  unfold fireValve; dsimp only; split <;> simp

@[simp] theorem judgeOpen_frame (v : Valve) (base : Nat) (s : State) :
    (judgeOpen v base s).table = s.table ∧
    (judgeOpen v base s).tallies = s.tallies ∧
    (judgeOpen v base s).settings = s.settings ∧
    (judgeOpen v base s).link = s.link ∧
    (judgeOpen v base s).phase = s.phase ∧
    (judgeOpen v base s).schedule = s.schedule ∧
    (judgeOpen v base s).portA = s.portA ∧
    (judgeOpen v base s).portB = s.portB ∧
    (judgeOpen v base s).engine = s.engine ∧
    (judgeOpen v base s).lines = s.lines ∧
    (judgeOpen v base s).freeCount = s.freeCount ∧
    (judgeOpen v base s).building = s.building ∧
    (judgeOpen v base s).pending = s.pending := by
  unfold judgeOpen; repeat' split
  all_goals simp

@[simp] theorem judgeWindow_frame (passed : List Nat) (base : Nat) (s : State) (v : Valve) :
    (judgeWindow passed base s v).table = s.table ∧
    (judgeWindow passed base s v).tallies = s.tallies ∧
    (judgeWindow passed base s v).settings = s.settings ∧
    (judgeWindow passed base s v).link = s.link ∧
    (judgeWindow passed base s v).phase = s.phase ∧
    (judgeWindow passed base s v).schedule = s.schedule ∧
    (judgeWindow passed base s v).portA = s.portA ∧
    (judgeWindow passed base s v).portB = s.portB ∧
    (judgeWindow passed base s v).engine = s.engine ∧
    (judgeWindow passed base s v).lines = s.lines ∧
    (judgeWindow passed base s v).freeCount = s.freeCount ∧
    (judgeWindow passed base s v).building = s.building ∧
    (judgeWindow passed base s v).pending = s.pending := by
  unfold judgeWindow; repeat' split
  all_goals simp

@[simp] theorem judgeWindows_frame (passed : List Nat) (s : State) :
    (judgeWindows passed s).table = s.table ∧
    (judgeWindows passed s).tallies = s.tallies ∧
    (judgeWindows passed s).settings = s.settings ∧
    (judgeWindows passed s).link = s.link ∧
    (judgeWindows passed s).phase = s.phase ∧
    (judgeWindows passed s).schedule = s.schedule ∧
    (judgeWindows passed s).portA = s.portA ∧
    (judgeWindows passed s).portB = s.portB ∧
    (judgeWindows passed s).engine = s.engine ∧
    (judgeWindows passed s).lines = s.lines ∧
    (judgeWindows passed s).freeCount = s.freeCount ∧
    (judgeWindows passed s).building = s.building ∧
    (judgeWindows passed s).pending = s.pending := by
  unfold judgeWindows; split
  · refine ⟨foldl_keeps _ State.table (fun t v => by simp) _ _, foldl_keeps _ State.tallies (fun t v => by simp) _ _, foldl_keeps _ State.settings (fun t v => by simp) _ _, foldl_keeps _ State.link (fun t v => by simp) _ _, foldl_keeps _ State.phase (fun t v => by simp) _ _, foldl_keeps _ State.schedule (fun t v => by simp) _ _, foldl_keeps _ State.portA (fun t v => by simp) _ _, foldl_keeps _ State.portB (fun t v => by simp) _ _, foldl_keeps _ State.engine (fun t v => by simp) _ _, foldl_keeps _ State.lines (fun t v => by simp) _ _, foldl_keeps _ State.freeCount (fun t v => by simp) _ _, foldl_keeps _ State.building (fun t v => by simp) _ _, foldl_keeps _ State.pending (fun t v => by simp) _ _⟩
  · simp

@[simp] theorem bypassEvent_frame (n : Nat) (s : State) :
    (bypassEvent n s).table = s.table ∧
    (bypassEvent n s).tallies = s.tallies ∧
    (bypassEvent n s).settings = s.settings ∧
    (bypassEvent n s).link = s.link ∧
    (bypassEvent n s).sources = s.sources ∧
    (bypassEvent n s).phase = s.phase ∧
    (bypassEvent n s).schedule = s.schedule ∧
    (bypassEvent n s).portA = s.portA ∧
    (bypassEvent n s).portB = s.portB ∧
    (bypassEvent n s).engine = s.engine ∧
    (bypassEvent n s).lines = s.lines ∧
    (bypassEvent n s).freeCount = s.freeCount ∧
    (bypassEvent n s).building = s.building ∧
    (bypassEvent n s).pending = s.pending := by
  unfold bypassEvent; dsimp only; split
  · refine ⟨foldl_keeps _ State.table (fun t v => by simp) _ _, foldl_keeps _ State.tallies (fun t v => by simp) _ _, foldl_keeps _ State.settings (fun t v => by simp) _ _, foldl_keeps _ State.link (fun t v => by simp) _ _, foldl_keeps _ State.sources (fun t v => by simp) _ _, foldl_keeps _ State.phase (fun t v => by simp) _ _, foldl_keeps _ State.schedule (fun t v => by simp) _ _, foldl_keeps _ State.portA (fun t v => by simp) _ _, foldl_keeps _ State.portB (fun t v => by simp) _ _, foldl_keeps _ State.engine (fun t v => by simp) _ _, foldl_keeps _ State.lines (fun t v => by simp) _ _, foldl_keeps _ State.freeCount (fun t v => by simp) _ _, foldl_keeps _ State.building (fun t v => by simp) _ _, foldl_keeps _ State.pending (fun t v => by simp) _ _⟩
  · simp

@[simp] theorem stopAtOnce_frame (s : State) :
    (stopAtOnce s).table = s.table ∧
    (stopAtOnce s).tallies = s.tallies ∧
    (stopAtOnce s).settings = s.settings ∧
    (stopAtOnce s).link = s.link ∧
    (stopAtOnce s).sources = s.sources ∧
    (stopAtOnce s).phase = s.phase ∧
    (stopAtOnce s).schedule = s.schedule ∧
    (stopAtOnce s).engine = s.engine ∧
    (stopAtOnce s).lines = s.lines ∧
    (stopAtOnce s).freeCount = s.freeCount ∧
    (stopAtOnce s).building = s.building ∧
    (stopAtOnce s).pending = s.pending := by
  unfold stopAtOnce; repeat' split
  all_goals simp

@[simp] theorem sequencerLockChange_frame (new : Lock) (s : State) :
    (sequencerLockChange new s).table = s.table ∧
    (sequencerLockChange new s).tallies = s.tallies ∧
    (sequencerLockChange new s).settings = s.settings ∧
    (sequencerLockChange new s).link = s.link ∧
    (sequencerLockChange new s).sources = s.sources ∧
    (sequencerLockChange new s).phase = s.phase ∧
    (sequencerLockChange new s).schedule = s.schedule ∧
    (sequencerLockChange new s).engine = s.engine ∧
    (sequencerLockChange new s).lines = s.lines ∧
    (sequencerLockChange new s).freeCount = s.freeCount ∧
    (sequencerLockChange new s).building = s.building ∧
    (sequencerLockChange new s).pending = s.pending := by
  unfold sequencerLockChange; repeat' split
  all_goals simp

/-! ### Ports: nothing but notices -/

theorem enter_samePorts (c : Conv) (x : Option ExitTarget) (s : State) : SamePorts s (enter c x s) := by
  unfold enter; dsimp only; split
  · exact (setNotice_samePorts _ _).trans (.of_eq rfl rfl)
  · exact setNotice_samePorts _ _

theorem enterRetarded_samePorts (x : ExitTarget) (s : State) : SamePorts s (enterRetarded x s) := by
  exact (enter_samePorts _ _ s).trans (.of_eq rfl rfl)

theorem enterBypassing_samePorts (x : ExitTarget) (s : State) : SamePorts s (enterBypassing x s) := by
  exact (enter_samePorts _ _ s).trans (.of_eq rfl rfl)

theorem enterDeionizing_samePorts (s : State) : SamePorts s (enterDeionizing s) := by
  exact (enter_samePorts _ _ s).trans (.of_eq rfl rfl)

theorem enterRamping_samePorts (s : State) : SamePorts s (enterRamping s) := by
  exact (enter_samePorts _ _ s).trans (.of_eq rfl rfl)

theorem strengthen_samePorts (x : ExitTarget) (s : State) : SamePorts s (strengthen x s) := by
  unfold strengthen; repeat' split
  · exact setNotice_samePorts _ _
  · exact .refl _
  · exact .refl _

theorem takeExit_samePorts (s : State) : SamePorts s (takeExit s) := by
  unfold takeExit; split
  · exact enterDeionizing_samePorts s
  · exact enter_samePorts _ _ s
  · exact enter_samePorts _ _ s
  · exact .refl s

theorem latchTrip_samePorts (cause : TripCause) (s : State) : SamePorts s (latchTrip cause s) := by
  unfold latchTrip; split
  · exact .refl s
  · exact setNotice_samePorts _ _

theorem stopByRole_samePorts (x : ExitTarget) (s : State) : SamePorts s (stopByRole x s) := by
  unfold stopByRole; split
  · exact enterRetarded_samePorts x s
  · exact enterBypassing_samePorts x s

theorem raiseTrip_samePorts (cause : TripCause) (s : State) : SamePorts s (raiseTrip cause s) := by
  unfold raiseTrip; split
  · exact (latchTrip_samePorts cause s).trans (stopByRole_samePorts _ _)
  · exact (latchTrip_samePorts cause s).trans (stopByRole_samePorts _ _)
  · exact (latchTrip_samePorts cause s).trans (strengthen_samePorts _ _)
  · exact (latchTrip_samePorts cause s).trans (strengthen_samePorts _ _)
  · exact (latchTrip_samePorts cause s).trans (enter_samePorts _ _ _)
  · exact enter_samePorts _ _ s
  · exact .refl s
  · exact .refl s

theorem unfitEntry_samePorts (v : Valve) (origin : UnfitOrigin) (s : State) : SamePorts s (unfitEntry v origin s) := by
  unfold unfitEntry; repeat' split
  · exact (raiseTrip_samePorts (.valveUnfit v) s).trans (.of_eq (by simp) (by simp))
  · exact enter_samePorts _ _ s
  · exact .refl s

theorem sequencerCycleWork_samePorts (s : State) : SamePorts s (sequencerCycleWork s) := by
  have hr : ∀ t, SamePorts t (rampStep t) := fun t => by
    unfold rampStep; dsimp only; split
    · exact .trans (.of_eq rfl rfl) (enter_samePorts _ _ _)
    · exact .of_eq rfl rfl
  have hc : ∀ t, SamePorts t (recoveryStep t) := fun t => .of_eq (by simp [recoveryStep]; split <;> rfl)
    (by simp [recoveryStep]; split <;> rfl)
  have ht : ∀ t, SamePorts t (retardStep t) := fun t => by
    unfold retardStep; dsimp only; repeat' split
    · exact .refl t
    · exact .trans (.of_eq rfl rfl) (takeExit_samePorts _)
    · exact .of_eq rfl rfl
  have hb : ∀ t, SamePorts t (bypassStep t) := fun t => by
    unfold bypassStep; dsimp only; repeat' split
    · exact .refl t
    · exact .trans (.of_eq rfl rfl) (takeExit_samePorts _)
    · exact .of_eq rfl rfl
  have hs : ∀ t, SamePorts t (settleRestart t) := fun t => by
    unfold settleRestart; dsimp only; repeat' split
    · exact (enter_samePorts _ _ _).trans (setNotice_samePorts _ _)
    · exact .trans (.of_eq rfl rfl) (enter_samePorts _ _ _)
    · exact .trans (.of_eq rfl rfl) (enterRamping_samePorts _)
  have hd : ∀ t, SamePorts t (deionizationStep t) := fun t => by
    unfold deionizationStep; dsimp only; split
    · exact .trans (.of_eq rfl rfl) (hs _)
    · exact .of_eq rfl rfl
  unfold sequencerCycleWork afterFailures; dsimp only; repeat' split
  · exact (enterRamping_samePorts s).trans (.of_eq rfl rfl)
  · exact .trans (.of_eq rfl rfl) (raiseTrip_samePorts _ _)
  · exact .trans (.of_eq rfl rfl) (hr _)
  · exact .trans (.of_eq rfl rfl) (raiseTrip_samePorts _ _)
  · exact .trans (.of_eq rfl rfl) (hc _)
  · exact ht s
  · exact hd s
  · exact hb s
  · exact .refl s
  · exact .refl s

theorem stopAtOnce_samePorts (s : State) : SamePorts s (stopAtOnce s) := by
  unfold stopAtOnce; split
  · exact .refl s
  · exact (enter_samePorts _ _ s).trans (.of_eq rfl rfl)

theorem sequencerLockChange_samePorts (new : Lock) (s : State) : SamePorts s (sequencerLockChange new s) := by
  unfold sequencerLockChange; repeat' split
  · exact stopAtOnce_samePorts s
  all_goals first
    | exact enter_samePorts _ _ s
    | exact .refl s

end Sys2Proof.Machine
end

