-- ==== Sys2Proof/Laws/Frames.lean ====
section
/-! SUPPORT. What each operation of ports, schedule, table, sources, link, Phase Unit and settings leaves as it was. -/

namespace Sys2Proof.Machine

@[simp] theorem placeAnswer_frame (p : Port) (r : Reply) (s : State) :
    (placeAnswer p r s).table = s.table ∧
    (placeAnswer p r s).tallies = s.tallies ∧
    (placeAnswer p r s).settings = s.settings ∧
    (placeAnswer p r s).link = s.link ∧
    (placeAnswer p r s).sources = s.sources ∧
    (placeAnswer p r s).phase = s.phase ∧
    (placeAnswer p r s).schedule = s.schedule ∧
    (placeAnswer p r s).seq = s.seq ∧
    (placeAnswer p r s).lanes = s.lanes ∧
    (placeAnswer p r s).engine = s.engine ∧
    (placeAnswer p r s).lines = s.lines ∧
    (placeAnswer p r s).building = s.building ∧
    (placeAnswer p r s).pending = s.pending := by
  unfold placeAnswer; dsimp only; repeat' split
  all_goals simp

@[simp] theorem beginPort_frame (p : Port) (s : State) :
    (beginPort p s).table = s.table ∧
    (beginPort p s).tallies = s.tallies ∧
    (beginPort p s).settings = s.settings ∧
    (beginPort p s).link = s.link ∧
    (beginPort p s).sources = s.sources ∧
    (beginPort p s).phase = s.phase ∧
    (beginPort p s).schedule = s.schedule ∧
    (beginPort p s).seq = s.seq ∧
    (beginPort p s).lanes = s.lanes ∧
    (beginPort p s).lines = s.lines ∧
    (beginPort p s).freeCount = s.freeCount ∧
    (beginPort p s).building = s.building ∧
    (beginPort p s).pending = s.pending := by
  simp [beginPort]

@[simp] theorem engineBegin_frame (n : Nat) (s : State) :
    (engineBegin n s).table = s.table ∧
    (engineBegin n s).tallies = s.tallies ∧
    (engineBegin n s).settings = s.settings ∧
    (engineBegin n s).link = s.link ∧
    (engineBegin n s).sources = s.sources ∧
    (engineBegin n s).phase = s.phase ∧
    (engineBegin n s).schedule = s.schedule ∧
    (engineBegin n s).seq = s.seq ∧
    (engineBegin n s).lanes = s.lanes ∧
    (engineBegin n s).lines = s.lines ∧
    (engineBegin n s).building = s.building ∧
    (engineBegin n s).pending = s.pending := by
  induction n generalizing s with
  | zero => simp [engineBegin]
  | succ n ih =>
    unfold engineBegin; dsimp only; repeat' split
    all_goals simp [ih]

@[simp] theorem conclude_frame (p : Port) (done : State × Option Reply) :
    (conclude p done).table = done.1.table ∧
    (conclude p done).tallies = done.1.tallies ∧
    (conclude p done).settings = done.1.settings ∧
    (conclude p done).link = done.1.link ∧
    (conclude p done).sources = done.1.sources ∧
    (conclude p done).phase = done.1.phase ∧
    (conclude p done).schedule = done.1.schedule ∧
    (conclude p done).seq = done.1.seq ∧
    (conclude p done).lanes = done.1.lanes ∧
    (conclude p done).lines = done.1.lines ∧
    (conclude p done).building = done.1.building ∧
    (conclude p done).pending = done.1.pending := by
  unfold conclude; dsimp only; repeat' split
  all_goals simp

@[simp] theorem acceptFrame_frame (p : Port) (f : Frame) (s : State) :
    (acceptFrame p f s).table = s.table ∧
    (acceptFrame p f s).tallies = s.tallies ∧
    (acceptFrame p f s).settings = s.settings ∧
    (acceptFrame p f s).link = s.link ∧
    (acceptFrame p f s).sources = s.sources ∧
    (acceptFrame p f s).phase = s.phase ∧
    (acceptFrame p f s).schedule = s.schedule ∧
    (acceptFrame p f s).seq = s.seq ∧
    (acceptFrame p f s).lanes = s.lanes ∧
    (acceptFrame p f s).lines = s.lines ∧
    (acceptFrame p f s).building = s.building ∧
    (acceptFrame p f s).pending = s.pending := by
  simp [acceptFrame]

@[simp] theorem sendFrame_frame (p : Port) (f : Frame) (s : State) :
    (sendFrame p f s).table = s.table ∧
    (sendFrame p f s).tallies = s.tallies ∧
    (sendFrame p f s).settings = s.settings ∧
    (sendFrame p f s).link = s.link ∧
    (sendFrame p f s).sources = s.sources ∧
    (sendFrame p f s).phase = s.phase ∧
    (sendFrame p f s).schedule = s.schedule ∧
    (sendFrame p f s).seq = s.seq ∧
    (sendFrame p f s).lanes = s.lanes ∧
    (sendFrame p f s).lines = s.lines ∧
    (sendFrame p f s).building = s.building ∧
    (sendFrame p f s).pending = s.pending := by
  unfold sendFrame; repeat' split
  all_goals simp

@[simp] theorem startTransfer_frame (p : Port) (s : State) :
    (startTransfer p s).table = s.table ∧
    (startTransfer p s).tallies = s.tallies ∧
    (startTransfer p s).settings = s.settings ∧
    (startTransfer p s).link = s.link ∧
    (startTransfer p s).sources = s.sources ∧
    (startTransfer p s).phase = s.phase ∧
    (startTransfer p s).schedule = s.schedule ∧
    (startTransfer p s).seq = s.seq ∧
    (startTransfer p s).lanes = s.lanes ∧
    (startTransfer p s).engine = s.engine ∧
    (startTransfer p s).lines = s.lines ∧
    (startTransfer p s).freeCount = s.freeCount ∧
    (startTransfer p s).building = s.building ∧
    (startTransfer p s).pending = s.pending := by
  unfold startTransfer; dsimp only; split <;> simp

@[simp] theorem endTransfer_frame (p : Port) (sent : List Byte) (s : State) :
    (endTransfer p sent s).table = s.table ∧
    (endTransfer p sent s).tallies = s.tallies ∧
    (endTransfer p sent s).settings = s.settings ∧
    (endTransfer p sent s).link = s.link ∧
    (endTransfer p sent s).sources = s.sources ∧
    (endTransfer p sent s).phase = s.phase ∧
    (endTransfer p sent s).schedule = s.schedule ∧
    (endTransfer p sent s).seq = s.seq ∧
    (endTransfer p sent s).lanes = s.lanes ∧
    (endTransfer p sent s).lines = s.lines ∧
    (endTransfer p sent s).building = s.building ∧
    (endTransfer p sent s).pending = s.pending := by
  unfold endTransfer; dsimp only; repeat' split
  all_goals simp

@[simp] theorem transferEvent_frame (p : Port) (part : TransferPart) (s : State) :
    (transferEvent p part s).table = s.table ∧
    (transferEvent p part s).tallies = s.tallies ∧
    (transferEvent p part s).settings = s.settings ∧
    (transferEvent p part s).link = s.link ∧
    (transferEvent p part s).sources = s.sources ∧
    (transferEvent p part s).phase = s.phase ∧
    (transferEvent p part s).schedule = s.schedule ∧
    (transferEvent p part s).seq = s.seq ∧
    (transferEvent p part s).lanes = s.lanes ∧
    (transferEvent p part s).lines = s.lines ∧
    (transferEvent p part s).building = s.building ∧
    (transferEvent p part s).pending = s.pending := by
  unfold transferEvent; repeat' split
  all_goals simp

@[simp] theorem setStagedPage_frame (g : Page) (s : State) :
    (setStagedPage g s).table = s.table ∧
    (setStagedPage g s).tallies = s.tallies ∧
    (setStagedPage g s).settings = s.settings ∧
    (setStagedPage g s).link = s.link ∧
    (setStagedPage g s).sources = s.sources ∧
    (setStagedPage g s).phase = s.phase ∧
    (setStagedPage g s).seq = s.seq ∧
    (setStagedPage g s).lanes = s.lanes ∧
    (setStagedPage g s).portA = s.portA ∧
    (setStagedPage g s).portB = s.portB ∧
    (setStagedPage g s).engine = s.engine ∧
    (setStagedPage g s).lines = s.lines ∧
    (setStagedPage g s).freeCount = s.freeCount ∧
    (setStagedPage g s).building = s.building ∧
    (setStagedPage g s).pending = s.pending := by
  unfold setStagedPage; repeat' split
  all_goals simp

@[simp] theorem makePendingSwap_frame (s : State) :
    (makePendingSwap s).table = s.table ∧
    (makePendingSwap s).tallies = s.tallies ∧
    (makePendingSwap s).settings = s.settings ∧
    (makePendingSwap s).link = s.link ∧
    (makePendingSwap s).sources = s.sources ∧
    (makePendingSwap s).phase = s.phase ∧
    (makePendingSwap s).seq = s.seq ∧
    (makePendingSwap s).lanes = s.lanes ∧
    (makePendingSwap s).engine = s.engine ∧
    (makePendingSwap s).lines = s.lines ∧
    (makePendingSwap s).building = s.building ∧
    (makePendingSwap s).pending = s.pending := by
  unfold makePendingSwap; repeat' split
  all_goals simp

@[simp] theorem orderClaim_frame (x : OrderParts) (s : State) :
    ((orderClaim x s).1).table = s.table ∧
    ((orderClaim x s).1).tallies = s.tallies ∧
    ((orderClaim x s).1).settings = s.settings ∧
    ((orderClaim x s).1).link = s.link ∧
    ((orderClaim x s).1).sources = s.sources ∧
    ((orderClaim x s).1).phase = s.phase ∧
    ((orderClaim x s).1).seq = s.seq ∧
    ((orderClaim x s).1).lanes = s.lanes ∧
    ((orderClaim x s).1).portA = s.portA ∧
    ((orderClaim x s).1).portB = s.portB ∧
    ((orderClaim x s).1).engine = s.engine ∧
    ((orderClaim x s).1).lines = s.lines ∧
    ((orderClaim x s).1).freeCount = s.freeCount ∧
    ((orderClaim x s).1).building = s.building ∧
    ((orderClaim x s).1).pending = s.pending := by
  unfold orderClaim; repeat' split
  all_goals simp

@[simp] theorem swapClaim_frame (p : Port) (s : State) :
    ((swapClaim p s).1).table = s.table ∧
    ((swapClaim p s).1).tallies = s.tallies ∧
    ((swapClaim p s).1).settings = s.settings ∧
    ((swapClaim p s).1).link = s.link ∧
    ((swapClaim p s).1).sources = s.sources ∧
    ((swapClaim p s).1).phase = s.phase ∧
    ((swapClaim p s).1).seq = s.seq ∧
    ((swapClaim p s).1).lanes = s.lanes ∧
    ((swapClaim p s).1).engine = s.engine ∧
    ((swapClaim p s).1).lines = s.lines ∧
    ((swapClaim p s).1).freeCount = s.freeCount ∧
    ((swapClaim p s).1).building = s.building ∧
    ((swapClaim p s).1).pending = s.pending := by
  unfold swapClaim; repeat' split
  all_goals simp

@[simp] theorem scheduleLockChange_frame (old new : Lock) (s : State) :
    (scheduleLockChange old new s).table = s.table ∧
    (scheduleLockChange old new s).tallies = s.tallies ∧
    (scheduleLockChange old new s).settings = s.settings ∧
    (scheduleLockChange old new s).link = s.link ∧
    (scheduleLockChange old new s).sources = s.sources ∧
    (scheduleLockChange old new s).phase = s.phase ∧
    (scheduleLockChange old new s).seq = s.seq ∧
    (scheduleLockChange old new s).lanes = s.lanes ∧
    (scheduleLockChange old new s).engine = s.engine ∧
    (scheduleLockChange old new s).lines = s.lines ∧
    (scheduleLockChange old new s).building = s.building ∧
    (scheduleLockChange old new s).pending = s.pending := by
  unfold scheduleLockChange; repeat' split
  all_goals simp

@[simp] theorem commitTally_frame (v : Valve) (t : Tally) (origin : UnfitOrigin) (s : State) :
    (commitTally v t origin s).table = s.table ∧
    (commitTally v t origin s).settings = s.settings ∧
    (commitTally v t origin s).link = s.link ∧
    (commitTally v t origin s).sources = s.sources ∧
    (commitTally v t origin s).phase = s.phase ∧
    (commitTally v t origin s).schedule = s.schedule ∧
    (commitTally v t origin s).engine = s.engine ∧
    (commitTally v t origin s).lines = s.lines ∧
    (commitTally v t origin s).freeCount = s.freeCount ∧
    (commitTally v t origin s).building = s.building ∧
    (commitTally v t origin s).pending = s.pending := by
  unfold commitTally; dsimp only; repeat' split
  all_goals simp

@[simp] theorem commitRecord_frame (v : Valve) (p : Position) (new : LevelRecord) (origin : UnfitOrigin) (s : State) :
    (commitRecord v p new origin s).settings = s.settings ∧
    (commitRecord v p new origin s).link = s.link ∧
    (commitRecord v p new origin s).sources = s.sources ∧
    (commitRecord v p new origin s).phase = s.phase ∧
    (commitRecord v p new origin s).schedule = s.schedule ∧
    (commitRecord v p new origin s).engine = s.engine ∧
    (commitRecord v p new origin s).lines = s.lines ∧
    (commitRecord v p new origin s).freeCount = s.freeCount ∧
    (commitRecord v p new origin s).building = s.building ∧
    (commitRecord v p new origin s).pending = s.pending := by
  unfold commitRecord; dsimp only; split <;> simp

@[simp] theorem changeClaim_frame (v : Valve) (p : Position) (e : Option Word16) (k : Change) (s : State) :
    ((changeClaim v p e k s).1).settings = s.settings ∧
    ((changeClaim v p e k s).1).link = s.link ∧
    ((changeClaim v p e k s).1).sources = s.sources ∧
    ((changeClaim v p e k s).1).phase = s.phase ∧
    ((changeClaim v p e k s).1).schedule = s.schedule ∧
    ((changeClaim v p e k s).1).engine = s.engine ∧
    ((changeClaim v p e k s).1).lines = s.lines ∧
    ((changeClaim v p e k s).1).freeCount = s.freeCount ∧
    ((changeClaim v p e k s).1).building = s.building ∧
    ((changeClaim v p e k s).1).pending = s.pending := by
  unfold changeClaim; dsimp only; repeat' split
  all_goals simp

@[simp] theorem keyedChange_frame (v p : Byte) (e : Option Word16) (k : Change) (s : State) :
    ((keyedChange v p e k s).1).settings = s.settings ∧
    ((keyedChange v p e k s).1).link = s.link ∧
    ((keyedChange v p e k s).1).sources = s.sources ∧
    ((keyedChange v p e k s).1).phase = s.phase ∧
    ((keyedChange v p e k s).1).schedule = s.schedule ∧
    ((keyedChange v p e k s).1).engine = s.engine ∧
    ((keyedChange v p e k s).1).lines = s.lines ∧
    ((keyedChange v p e k s).1).freeCount = s.freeCount ∧
    ((keyedChange v p e k s).1).building = s.building ∧
    ((keyedChange v p e k s).1).pending = s.pending := by
  unfold keyedChange; repeat' split
  all_goals simp

@[simp] theorem admitClaim_frame (v p : Byte) (c : Option EmitClass) (t : Option Word24) (s : State) :
    ((admitClaim v p c t s).1).settings = s.settings ∧
    ((admitClaim v p c t s).1).link = s.link ∧
    ((admitClaim v p c t s).1).sources = s.sources ∧
    ((admitClaim v p c t s).1).phase = s.phase ∧
    ((admitClaim v p c t s).1).schedule = s.schedule ∧
    ((admitClaim v p c t s).1).engine = s.engine ∧
    ((admitClaim v p c t s).1).lines = s.lines ∧
    ((admitClaim v p c t s).1).freeCount = s.freeCount ∧
    ((admitClaim v p c t s).1).building = s.building ∧
    ((admitClaim v p c t s).1).pending = s.pending := by
  unfold admitClaim; repeat' split
  all_goals simp

@[simp] theorem offerCheck_frame (v : Valve) (p : Position) (s : State) :
    (offerCheck v p s).table = s.table ∧
    (offerCheck v p s).tallies = s.tallies ∧
    (offerCheck v p s).settings = s.settings ∧
    (offerCheck v p s).link = s.link ∧
    (offerCheck v p s).phase = s.phase ∧
    (offerCheck v p s).schedule = s.schedule ∧
    (offerCheck v p s).seq = s.seq ∧
    (offerCheck v p s).lanes = s.lanes ∧
    (offerCheck v p s).engine = s.engine ∧
    (offerCheck v p s).lines = s.lines ∧
    (offerCheck v p s).freeCount = s.freeCount ∧
    (offerCheck v p s).building = s.building ∧
    (offerCheck v p s).pending = s.pending := by
  unfold offerCheck; repeat' split
  all_goals simp

@[simp] theorem checkClaim_frame (v f n : Byte) (s : State) :
    ((checkClaim v f n s).1).table = s.table ∧
    ((checkClaim v f n s).1).tallies = s.tallies ∧
    ((checkClaim v f n s).1).settings = s.settings ∧
    ((checkClaim v f n s).1).link = s.link ∧
    ((checkClaim v f n s).1).phase = s.phase ∧
    ((checkClaim v f n s).1).schedule = s.schedule ∧
    ((checkClaim v f n s).1).seq = s.seq ∧
    ((checkClaim v f n s).1).lanes = s.lanes ∧
    ((checkClaim v f n s).1).portA = s.portA ∧
    ((checkClaim v f n s).1).portB = s.portB ∧
    ((checkClaim v f n s).1).engine = s.engine ∧
    ((checkClaim v f n s).1).lines = s.lines ∧
    ((checkClaim v f n s).1).freeCount = s.freeCount ∧
    ((checkClaim v f n s).1).building = s.building ∧
    ((checkClaim v f n s).1).pending = s.pending := by
  unfold checkClaim; repeat' split
  all_goals simp

@[simp] theorem moveCursor_frame (v : Valve) (s : State) :
    (moveCursor v s).table = s.table ∧
    (moveCursor v s).tallies = s.tallies ∧
    (moveCursor v s).settings = s.settings ∧
    (moveCursor v s).link = s.link ∧
    (moveCursor v s).phase = s.phase ∧
    (moveCursor v s).schedule = s.schedule ∧
    (moveCursor v s).seq = s.seq ∧
    (moveCursor v s).lanes = s.lanes ∧
    (moveCursor v s).portA = s.portA ∧
    (moveCursor v s).portB = s.portB ∧
    (moveCursor v s).engine = s.engine ∧
    (moveCursor v s).lines = s.lines ∧
    (moveCursor v s).freeCount = s.freeCount ∧
    (moveCursor v s).building = s.building ∧
    (moveCursor v s).pending = s.pending := by
  unfold moveCursor; repeat' split
  all_goals simp

@[simp] theorem sweepOccasion_frame (s : State) :
    (sweepOccasion s).table = s.table ∧
    (sweepOccasion s).tallies = s.tallies ∧
    (sweepOccasion s).settings = s.settings ∧
    (sweepOccasion s).link = s.link ∧
    (sweepOccasion s).phase = s.phase ∧
    (sweepOccasion s).schedule = s.schedule ∧
    (sweepOccasion s).seq = s.seq ∧
    (sweepOccasion s).lanes = s.lanes ∧
    (sweepOccasion s).portA = s.portA ∧
    (sweepOccasion s).portB = s.portB ∧
    (sweepOccasion s).engine = s.engine ∧
    (sweepOccasion s).lines = s.lines ∧
    (sweepOccasion s).freeCount = s.freeCount ∧
    (sweepOccasion s).building = s.building ∧
    (sweepOccasion s).pending = s.pending := by
  unfold sweepOccasion; repeat' split
  all_goals simp

@[simp] theorem sweepTick_frame (s : State) :
    (sweepTick s).table = s.table ∧
    (sweepTick s).tallies = s.tallies ∧
    (sweepTick s).settings = s.settings ∧
    (sweepTick s).link = s.link ∧
    (sweepTick s).phase = s.phase ∧
    (sweepTick s).schedule = s.schedule ∧
    (sweepTick s).seq = s.seq ∧
    (sweepTick s).lanes = s.lanes ∧
    (sweepTick s).portA = s.portA ∧
    (sweepTick s).portB = s.portB ∧
    (sweepTick s).engine = s.engine ∧
    (sweepTick s).lines = s.lines ∧
    (sweepTick s).freeCount = s.freeCount ∧
    (sweepTick s).building = s.building ∧
    (sweepTick s).pending = s.pending := by
  unfold sweepTick; repeat' split
  all_goals simp

@[simp] theorem tellEnded_frame (p : Poll) (s : State) :
    (tellEnded p s).table = s.table ∧
    (tellEnded p s).tallies = s.tallies ∧
    (tellEnded p s).settings = s.settings ∧
    (tellEnded p s).link = s.link ∧
    (tellEnded p s).phase = s.phase ∧
    (tellEnded p s).schedule = s.schedule ∧
    (tellEnded p s).seq = s.seq ∧
    (tellEnded p s).lanes = s.lanes ∧
    (tellEnded p s).portA = s.portA ∧
    (tellEnded p s).portB = s.portB ∧
    (tellEnded p s).engine = s.engine ∧
    (tellEnded p s).lines = s.lines ∧
    (tellEnded p s).freeCount = s.freeCount ∧
    (tellEnded p s).building = s.building ∧
    (tellEnded p s).pending = s.pending := by
  unfold tellEnded; dsimp only; repeat' split
  all_goals simp

@[simp] theorem applyResult_frame (res : Result) (s : State) :
    (applyResult res s).settings = s.settings ∧
    (applyResult res s).link = s.link ∧
    (applyResult res s).phase = s.phase ∧
    (applyResult res s).schedule = s.schedule ∧
    (applyResult res s).engine = s.engine ∧
    (applyResult res s).lines = s.lines ∧
    (applyResult res s).freeCount = s.freeCount ∧
    (applyResult res s).building = s.building ∧
    (applyResult res s).pending = s.pending := by
  unfold applyResult; dsimp only; repeat' split
  all_goals simp

@[simp] theorem sendExpectation_frame (s : State) :
    (sendExpectation s).table = s.table ∧
    (sendExpectation s).tallies = s.tallies ∧
    (sendExpectation s).settings = s.settings ∧
    (sendExpectation s).sources = s.sources ∧
    (sendExpectation s).phase = s.phase ∧
    (sendExpectation s).schedule = s.schedule ∧
    (sendExpectation s).seq = s.seq ∧
    (sendExpectation s).lanes = s.lanes ∧
    (sendExpectation s).portA = s.portA ∧
    (sendExpectation s).portB = s.portB ∧
    (sendExpectation s).engine = s.engine ∧
    (sendExpectation s).lines = s.lines ∧
    (sendExpectation s).freeCount = s.freeCount ∧
    (sendExpectation s).building = s.building ∧
    (sendExpectation s).pending = s.pending := by
  unfold sendExpectation; repeat' split
  all_goals simp

@[simp] theorem enterInterval_frame (s : State) :
    (enterInterval s).table = s.table ∧
    (enterInterval s).tallies = s.tallies ∧
    (enterInterval s).settings = s.settings ∧
    (enterInterval s).sources = s.sources ∧
    (enterInterval s).phase = s.phase ∧
    (enterInterval s).schedule = s.schedule ∧
    (enterInterval s).seq = s.seq ∧
    (enterInterval s).lanes = s.lanes ∧
    (enterInterval s).portA = s.portA ∧
    (enterInterval s).portB = s.portB ∧
    (enterInterval s).engine = s.engine ∧
    (enterInterval s).lines = s.lines ∧
    (enterInterval s).freeCount = s.freeCount ∧
    (enterInterval s).building = s.building ∧
    (enterInterval s).pending = s.pending := by
  unfold enterInterval; repeat' split
  all_goals simp

@[simp] theorem completePoll_frame (p : Poll) (s : State) :
    (completePoll p s).table = s.table ∧
    (completePoll p s).tallies = s.tallies ∧
    (completePoll p s).settings = s.settings ∧
    (completePoll p s).phase = s.phase ∧
    (completePoll p s).schedule = s.schedule ∧
    (completePoll p s).seq = s.seq ∧
    (completePoll p s).lanes = s.lanes ∧
    (completePoll p s).engine = s.engine ∧
    (completePoll p s).lines = s.lines ∧
    (completePoll p s).building = s.building ∧
    (completePoll p s).pending = s.pending := by
  unfold completePoll holdOr; dsimp only; repeat' split
  all_goals simp

@[simp] theorem abortPoll_frame (p : Poll) (s : State) :
    (abortPoll p s).table = s.table ∧
    (abortPoll p s).tallies = s.tallies ∧
    (abortPoll p s).settings = s.settings ∧
    (abortPoll p s).phase = s.phase ∧
    (abortPoll p s).schedule = s.schedule ∧
    (abortPoll p s).seq = s.seq ∧
    (abortPoll p s).lanes = s.lanes ∧
    (abortPoll p s).engine = s.engine ∧
    (abortPoll p s).lines = s.lines ∧
    (abortPoll p s).building = s.building ∧
    (abortPoll p s).pending = s.pending := by
  unfold abortPoll holdOr; dsimp only; repeat' split
  all_goals simp

@[simp] theorem cutPoll_frame (p : Poll) (s : State) :
    (cutPoll p s).table = s.table ∧
    (cutPoll p s).tallies = s.tallies ∧
    (cutPoll p s).settings = s.settings ∧
    (cutPoll p s).phase = s.phase ∧
    (cutPoll p s).schedule = s.schedule ∧
    (cutPoll p s).seq = s.seq ∧
    (cutPoll p s).lanes = s.lanes ∧
    (cutPoll p s).engine = s.engine ∧
    (cutPoll p s).lines = s.lines ∧
    (cutPoll p s).building = s.building ∧
    (cutPoll p s).pending = s.pending := by
  unfold cutPoll holdOr; split <;> simp

@[simp] theorem goOn_frame (p : Poll) (s : State) :
    (goOn p s).table = s.table ∧
    (goOn p s).tallies = s.tallies ∧
    (goOn p s).settings = s.settings ∧
    (goOn p s).phase = s.phase ∧
    (goOn p s).schedule = s.schedule ∧
    (goOn p s).seq = s.seq ∧
    (goOn p s).lanes = s.lanes ∧
    (goOn p s).engine = s.engine ∧
    (goOn p s).lines = s.lines ∧
    (goOn p s).building = s.building ∧
    (goOn p s).pending = s.pending := by
  unfold goOn holdOr; repeat' split
  all_goals simp

@[simp] theorem takeBlocking_frame (v : Valve) (b : Bool) (s : State) :
    (takeBlocking v b s).table = s.table ∧
    (takeBlocking v b s).tallies = s.tallies ∧
    (takeBlocking v b s).settings = s.settings ∧
    (takeBlocking v b s).link = s.link ∧
    (takeBlocking v b s).sources = s.sources ∧
    (takeBlocking v b s).phase = s.phase ∧
    (takeBlocking v b s).schedule = s.schedule ∧
    (takeBlocking v b s).lanes = s.lanes ∧
    (takeBlocking v b s).portA = s.portA ∧
    (takeBlocking v b s).portB = s.portB ∧
    (takeBlocking v b s).engine = s.engine ∧
    (takeBlocking v b s).lines = s.lines ∧
    (takeBlocking v b s).freeCount = s.freeCount ∧
    (takeBlocking v b s).building = s.building ∧
    (takeBlocking v b s).pending = s.pending := by
  unfold takeBlocking; repeat' split
  all_goals simp

@[simp] theorem handBlocking_frame (p : Poll) (b : Bool) (s : State) :
    (handBlocking p b s).table = s.table ∧
    (handBlocking p b s).tallies = s.tallies ∧
    (handBlocking p b s).settings = s.settings ∧
    (handBlocking p b s).link = s.link ∧
    (handBlocking p b s).sources = s.sources ∧
    (handBlocking p b s).phase = s.phase ∧
    (handBlocking p b s).schedule = s.schedule ∧
    (handBlocking p b s).lanes = s.lanes ∧
    (handBlocking p b s).portA = s.portA ∧
    (handBlocking p b s).portB = s.portB ∧
    (handBlocking p b s).engine = s.engine ∧
    (handBlocking p b s).lines = s.lines ∧
    (handBlocking p b s).freeCount = s.freeCount ∧
    (handBlocking p b s).building = s.building ∧
    (handBlocking p b s).pending = s.pending := by
  unfold handBlocking; repeat' split
  all_goals simp

@[simp] theorem setVmuFault_frame (v : Valve) (b : Bool) (s : State) :
    (setVmuFault v b s).table = s.table ∧
    (setVmuFault v b s).tallies = s.tallies ∧
    (setVmuFault v b s).settings = s.settings ∧
    (setVmuFault v b s).sources = s.sources ∧
    (setVmuFault v b s).phase = s.phase ∧
    (setVmuFault v b s).schedule = s.schedule ∧
    (setVmuFault v b s).seq = s.seq ∧
    (setVmuFault v b s).lanes = s.lanes ∧
    (setVmuFault v b s).engine = s.engine ∧
    (setVmuFault v b s).lines = s.lines ∧
    (setVmuFault v b s).freeCount = s.freeCount ∧
    (setVmuFault v b s).building = s.building ∧
    (setVmuFault v b s).pending = s.pending := by
  unfold setVmuFault; dsimp only; split <;> simp

@[simp] theorem acceptHeader_frame (p : Poll) (w : Word16) (s : State) :
    (acceptHeader p w s).table = s.table ∧
    (acceptHeader p w s).tallies = s.tallies ∧
    (acceptHeader p w s).settings = s.settings ∧
    (acceptHeader p w s).phase = s.phase ∧
    (acceptHeader p w s).schedule = s.schedule ∧
    (acceptHeader p w s).lanes = s.lanes ∧
    (acceptHeader p w s).engine = s.engine ∧
    (acceptHeader p w s).lines = s.lines ∧
    (acceptHeader p w s).building = s.building ∧
    (acceptHeader p w s).pending = s.pending := by
  unfold acceptHeader; dsimp only; split <;> simp

@[simp] theorem replyHeader_frame (w : Word16) (s : State) :
    (replyHeader w s).table = s.table ∧
    (replyHeader w s).tallies = s.tallies ∧
    (replyHeader w s).settings = s.settings ∧
    (replyHeader w s).phase = s.phase ∧
    (replyHeader w s).schedule = s.schedule ∧
    (replyHeader w s).lanes = s.lanes ∧
    (replyHeader w s).engine = s.engine ∧
    (replyHeader w s).lines = s.lines ∧
    (replyHeader w s).building = s.building ∧
    (replyHeader w s).pending = s.pending := by
  unfold replyHeader; repeat' split
  all_goals simp

@[simp] theorem resultWord_frame (w : Word16) (s : State) :
    (resultWord w s).settings = s.settings ∧
    (resultWord w s).phase = s.phase ∧
    (resultWord w s).schedule = s.schedule ∧
    (resultWord w s).engine = s.engine ∧
    (resultWord w s).lines = s.lines ∧
    (resultWord w s).building = s.building ∧
    (resultWord w s).pending = s.pending := by
  unfold resultWord; dsimp only; repeat' split
  all_goals simp

@[simp] theorem receive_frame (f : BitVec 20) (s : State) :
    (receive f s).settings = s.settings ∧
    (receive f s).phase = s.phase ∧
    (receive f s).schedule = s.schedule ∧
    (receive f s).engine = s.engine ∧
    (receive f s).lines = s.lines ∧
    (receive f s).building = s.building ∧
    (receive f s).pending = s.pending := by
  unfold receive; repeat' split
  all_goals simp

@[simp] theorem wordIntervalEnd_frame (s : State) :
    (wordIntervalEnd s).table = s.table ∧
    (wordIntervalEnd s).tallies = s.tallies ∧
    (wordIntervalEnd s).settings = s.settings ∧
    (wordIntervalEnd s).sources = s.sources ∧
    (wordIntervalEnd s).phase = s.phase ∧
    (wordIntervalEnd s).schedule = s.schedule ∧
    (wordIntervalEnd s).seq = s.seq ∧
    (wordIntervalEnd s).lanes = s.lanes ∧
    (wordIntervalEnd s).portA = s.portA ∧
    (wordIntervalEnd s).portB = s.portB ∧
    (wordIntervalEnd s).engine = s.engine ∧
    (wordIntervalEnd s).lines = s.lines ∧
    (wordIntervalEnd s).freeCount = s.freeCount ∧
    (wordIntervalEnd s).building = s.building ∧
    (wordIntervalEnd s).pending = s.pending := by
  unfold wordIntervalEnd; repeat' split
  all_goals simp

@[simp] theorem awaitedTimeout_frame (a : LinkState) (s : State) :
    (awaitedTimeout a s).table = s.table ∧
    (awaitedTimeout a s).tallies = s.tallies ∧
    (awaitedTimeout a s).settings = s.settings ∧
    (awaitedTimeout a s).phase = s.phase ∧
    (awaitedTimeout a s).schedule = s.schedule ∧
    (awaitedTimeout a s).seq = s.seq ∧
    (awaitedTimeout a s).lanes = s.lanes ∧
    (awaitedTimeout a s).engine = s.engine ∧
    (awaitedTimeout a s).lines = s.lines ∧
    (awaitedTimeout a s).building = s.building ∧
    (awaitedTimeout a s).pending = s.pending := by
  unfold awaitedTimeout; repeat' split
  all_goals simp

@[simp] theorem requestCut_frame (s : State) :
    (requestCut s).table = s.table ∧
    (requestCut s).tallies = s.tallies ∧
    (requestCut s).settings = s.settings ∧
    (requestCut s).phase = s.phase ∧
    (requestCut s).schedule = s.schedule ∧
    (requestCut s).seq = s.seq ∧
    (requestCut s).lanes = s.lanes ∧
    (requestCut s).engine = s.engine ∧
    (requestCut s).lines = s.lines ∧
    (requestCut s).building = s.building ∧
    (requestCut s).pending = s.pending := by
  unfold requestCut; repeat' split
  all_goals simp

@[simp] theorem supersede_frame (v : Valve) (s : State) :
    (supersede v s).table = s.table ∧
    (supersede v s).tallies = s.tallies ∧
    (supersede v s).settings = s.settings ∧
    (supersede v s).sources = s.sources ∧
    (supersede v s).phase = s.phase ∧
    (supersede v s).schedule = s.schedule ∧
    (supersede v s).seq = s.seq ∧
    (supersede v s).lanes = s.lanes ∧
    (supersede v s).portA = s.portA ∧
    (supersede v s).portB = s.portB ∧
    (supersede v s).engine = s.engine ∧
    (supersede v s).lines = s.lines ∧
    (supersede v s).freeCount = s.freeCount ∧
    (supersede v s).building = s.building ∧
    (supersede v s).pending = s.pending := by
  unfold supersede; repeat' split
  all_goals simp

@[simp] theorem joinCycle_frame (v : Valve) (s : State) :
    (joinCycle v s).table = s.table ∧
    (joinCycle v s).tallies = s.tallies ∧
    (joinCycle v s).settings = s.settings ∧
    (joinCycle v s).phase = s.phase ∧
    (joinCycle v s).schedule = s.schedule ∧
    (joinCycle v s).seq = s.seq ∧
    (joinCycle v s).lanes = s.lanes ∧
    (joinCycle v s).engine = s.engine ∧
    (joinCycle v s).lines = s.lines ∧
    (joinCycle v s).building = s.building ∧
    (joinCycle v s).pending = s.pending := by
  unfold joinCycle; repeat' split
  all_goals simp

@[simp] theorem checkPoint_frame (v : Valve) (s : State) :
    (checkPoint v s).table = s.table ∧
    (checkPoint v s).tallies = s.tallies ∧
    (checkPoint v s).settings = s.settings ∧
    (checkPoint v s).phase = s.phase ∧
    (checkPoint v s).schedule = s.schedule ∧
    (checkPoint v s).seq = s.seq ∧
    (checkPoint v s).lanes = s.lanes ∧
    (checkPoint v s).engine = s.engine ∧
    (checkPoint v s).lines = s.lines ∧
    (checkPoint v s).building = s.building ∧
    (checkPoint v s).pending = s.pending := by
  unfold checkPoint; repeat' split
  all_goals simp

@[simp] theorem holdClaim_frame (q : Port) (s : State) :
    ((holdClaim q s).1).table = s.table ∧
    ((holdClaim q s).1).tallies = s.tallies ∧
    ((holdClaim q s).1).settings = s.settings ∧
    ((holdClaim q s).1).phase = s.phase ∧
    ((holdClaim q s).1).schedule = s.schedule ∧
    ((holdClaim q s).1).seq = s.seq ∧
    ((holdClaim q s).1).lanes = s.lanes ∧
    ((holdClaim q s).1).portA = s.portA ∧
    ((holdClaim q s).1).portB = s.portB ∧
    ((holdClaim q s).1).engine = s.engine ∧
    ((holdClaim q s).1).lines = s.lines ∧
    ((holdClaim q s).1).freeCount = s.freeCount ∧
    ((holdClaim q s).1).building = s.building ∧
    ((holdClaim q s).1).pending = s.pending := by
  unfold holdClaim; repeat' split
  all_goals simp

@[simp] theorem releaseClaim_frame (s : State) :
    ((releaseClaim s).1).table = s.table ∧
    ((releaseClaim s).1).tallies = s.tallies ∧
    ((releaseClaim s).1).settings = s.settings ∧
    ((releaseClaim s).1).sources = s.sources ∧
    ((releaseClaim s).1).phase = s.phase ∧
    ((releaseClaim s).1).schedule = s.schedule ∧
    ((releaseClaim s).1).seq = s.seq ∧
    ((releaseClaim s).1).lanes = s.lanes ∧
    ((releaseClaim s).1).portA = s.portA ∧
    ((releaseClaim s).1).portB = s.portB ∧
    ((releaseClaim s).1).engine = s.engine ∧
    ((releaseClaim s).1).lines = s.lines ∧
    ((releaseClaim s).1).freeCount = s.freeCount ∧
    ((releaseClaim s).1).building = s.building ∧
    ((releaseClaim s).1).pending = s.pending := by
  unfold releaseClaim; repeat' split
  all_goals simp

@[simp] theorem arbiterStart_frame (s : State) :
    (arbiterStart s).table = s.table ∧
    (arbiterStart s).tallies = s.tallies ∧
    (arbiterStart s).settings = s.settings ∧
    (arbiterStart s).phase = s.phase ∧
    (arbiterStart s).schedule = s.schedule ∧
    (arbiterStart s).seq = s.seq ∧
    (arbiterStart s).lanes = s.lanes ∧
    (arbiterStart s).portA = s.portA ∧
    (arbiterStart s).portB = s.portB ∧
    (arbiterStart s).engine = s.engine ∧
    (arbiterStart s).lines = s.lines ∧
    (arbiterStart s).freeCount = s.freeCount ∧
    (arbiterStart s).building = s.building ∧
    (arbiterStart s).pending = s.pending := by
  unfold arbiterStart startCycle startDirected startSweep; repeat' split
  all_goals simp

@[simp] theorem sourcesLockChange_frame (new : Lock) (s : State) :
    (sourcesLockChange new s).table = s.table ∧
    (sourcesLockChange new s).tallies = s.tallies ∧
    (sourcesLockChange new s).settings = s.settings ∧
    (sourcesLockChange new s).link = s.link ∧
    (sourcesLockChange new s).phase = s.phase ∧
    (sourcesLockChange new s).schedule = s.schedule ∧
    (sourcesLockChange new s).seq = s.seq ∧
    (sourcesLockChange new s).lanes = s.lanes ∧
    (sourcesLockChange new s).portA = s.portA ∧
    (sourcesLockChange new s).portB = s.portB ∧
    (sourcesLockChange new s).engine = s.engine ∧
    (sourcesLockChange new s).lines = s.lines ∧
    (sourcesLockChange new s).freeCount = s.freeCount ∧
    (sourcesLockChange new s).building = s.building ∧
    (sourcesLockChange new s).pending = s.pending := by
  unfold sourcesLockChange; repeat' split
  all_goals simp

@[simp] theorem changeLock_frame (new : Lock) (s : State) :
    (changeLock new s).table = s.table ∧
    (changeLock new s).tallies = s.tallies ∧
    (changeLock new s).settings = s.settings ∧
    (changeLock new s).link = s.link ∧
    (changeLock new s).engine = s.engine ∧
    (changeLock new s).lines = s.lines ∧
    (changeLock new s).building = s.building ∧
    (changeLock new s).pending = s.pending := by
  simp [changeLock]

@[simp] theorem becomeLost_frame (s : State) :
    (becomeLost s).table = s.table ∧
    (becomeLost s).tallies = s.tallies ∧
    (becomeLost s).settings = s.settings ∧
    (becomeLost s).link = s.link ∧
    (becomeLost s).engine = s.engine ∧
    (becomeLost s).lines = s.lines ∧
    (becomeLost s).building = s.building ∧
    (becomeLost s).pending = s.pending := by
  simp [becomeLost]

@[simp] theorem crossStopped_frame (s : State) :
    (crossStopped s).table = s.table ∧
    (crossStopped s).tallies = s.tallies ∧
    (crossStopped s).settings = s.settings ∧
    (crossStopped s).link = s.link ∧
    (crossStopped s).engine = s.engine ∧
    (crossStopped s).lines = s.lines ∧
    (crossStopped s).building = s.building ∧
    (crossStopped s).pending = s.pending := by
  simp [crossStopped]

@[simp] theorem crossHolding_frame (s : State) :
    (crossHolding s).table = s.table ∧
    (crossHolding s).tallies = s.tallies ∧
    (crossHolding s).settings = s.settings ∧
    (crossHolding s).link = s.link ∧
    (crossHolding s).engine = s.engine ∧
    (crossHolding s).lines = s.lines ∧
    (crossHolding s).building = s.building ∧
    (crossHolding s).pending = s.pending := by
  simp [crossHolding]

@[simp] theorem crossAcquiring_frame (k : CrossingClass) (s : State) :
    (crossAcquiring k s).table = s.table ∧
    (crossAcquiring k s).tallies = s.tallies ∧
    (crossAcquiring k s).settings = s.settings ∧
    (crossAcquiring k s).link = s.link ∧
    (crossAcquiring k s).engine = s.engine ∧
    (crossAcquiring k s).lines = s.lines ∧
    (crossAcquiring k s).building = s.building ∧
    (crossAcquiring k s).pending = s.pending := by
  unfold crossAcquiring; dsimp only; repeat' split
  all_goals simp

@[simp] theorem crossLocked_frame (k : CrossingClass) (s : State) :
    (crossLocked k s).table = s.table ∧
    (crossLocked k s).tallies = s.tallies ∧
    (crossLocked k s).settings = s.settings ∧
    (crossLocked k s).link = s.link ∧
    (crossLocked k s).engine = s.engine ∧
    (crossLocked k s).lines = s.lines ∧
    (crossLocked k s).building = s.building ∧
    (crossLocked k s).pending = s.pending := by
  unfold crossLocked; dsimp only; repeat' split
  all_goals simp

@[simp] theorem crossDisturbed_frame (k : CrossingClass) (s : State) :
    (crossDisturbed k s).table = s.table ∧
    (crossDisturbed k s).tallies = s.tallies ∧
    (crossDisturbed k s).settings = s.settings ∧
    (crossDisturbed k s).link = s.link ∧
    (crossDisturbed k s).engine = s.engine ∧
    (crossDisturbed k s).lines = s.lines ∧
    (crossDisturbed k s).building = s.building ∧
    (crossDisturbed k s).pending = s.pending := by
  unfold crossDisturbed; dsimp only; repeat' split
  all_goals simp

@[simp] theorem takeCrossing_frame (n : Nat) (s : State) :
    (takeCrossing n s).table = s.table ∧
    (takeCrossing n s).tallies = s.tallies ∧
    (takeCrossing n s).settings = s.settings ∧
    (takeCrossing n s).link = s.link ∧
    (takeCrossing n s).engine = s.engine ∧
    (takeCrossing n s).lines = s.lines ∧
    (takeCrossing n s).building = s.building ∧
    (takeCrossing n s).pending = s.pending := by
  unfold takeCrossing; dsimp only; split <;> simp

@[simp] theorem missedCrossing_frame (s : State) :
    (missedCrossing s).table = s.table ∧
    (missedCrossing s).tallies = s.tallies ∧
    (missedCrossing s).settings = s.settings ∧
    (missedCrossing s).link = s.link ∧
    (missedCrossing s).engine = s.engine ∧
    (missedCrossing s).lines = s.lines ∧
    (missedCrossing s).building = s.building ∧
    (missedCrossing s).pending = s.pending := by
  unfold missedCrossing; dsimp only; repeat' split
  all_goals simp

@[simp] theorem expireTimes_frame (n : Nat) (s : State) :
    (expireTimes n s).table = s.table ∧
    (expireTimes n s).tallies = s.tallies ∧
    (expireTimes n s).settings = s.settings ∧
    (expireTimes n s).link = s.link ∧
    (expireTimes n s).engine = s.engine ∧
    (expireTimes n s).lines = s.lines ∧
    (expireTimes n s).building = s.building ∧
    (expireTimes n s).pending = s.pending := by
  induction n generalizing s with
  | zero => simp [expireTimes]
  | succ n ih => simp [expireTimes, ih]

@[simp] theorem referenceCrossing_frame (n : Nat) (s : State) :
    (referenceCrossing n s).table = s.table ∧
    (referenceCrossing n s).tallies = s.tallies ∧
    (referenceCrossing n s).settings = s.settings ∧
    (referenceCrossing n s).link = s.link ∧
    (referenceCrossing n s).engine = s.engine ∧
    (referenceCrossing n s).lines = s.lines ∧
    (referenceCrossing n s).building = s.building ∧
    (referenceCrossing n s).pending = s.pending := by
  simp [referenceCrossing]

@[simp] theorem trimClaim_frame (i d : Bool) (s : State) :
    ((trimClaim i d s).1).table = s.table ∧
    ((trimClaim i d s).1).tallies = s.tallies ∧
    ((trimClaim i d s).1).settings = s.settings ∧
    ((trimClaim i d s).1).link = s.link ∧
    ((trimClaim i d s).1).sources = s.sources ∧
    ((trimClaim i d s).1).schedule = s.schedule ∧
    ((trimClaim i d s).1).seq = s.seq ∧
    ((trimClaim i d s).1).lanes = s.lanes ∧
    ((trimClaim i d s).1).portA = s.portA ∧
    ((trimClaim i d s).1).portB = s.portB ∧
    ((trimClaim i d s).1).engine = s.engine ∧
    ((trimClaim i d s).1).lines = s.lines ∧
    ((trimClaim i d s).1).freeCount = s.freeCount ∧
    ((trimClaim i d s).1).building = s.building ∧
    ((trimClaim i d s).1).pending = s.pending := by
  unfold trimClaim trimBy; dsimp only; repeat' split
  all_goals simp

@[simp] theorem offsetSet_frame (s : State) :
    (offsetSet s).table = s.table ∧
    (offsetSet s).tallies = s.tallies ∧
    (offsetSet s).settings = s.settings ∧
    (offsetSet s).link = s.link ∧
    (offsetSet s).engine = s.engine ∧
    (offsetSet s).lines = s.lines ∧
    (offsetSet s).building = s.building ∧
    (offsetSet s).pending = s.pending := by
  unfold offsetSet; repeat' split
  all_goals simp

@[simp] theorem cycleStartWork_frame (s : State) :
    (cycleStartWork s).table = s.table ∧
    (cycleStartWork s).tallies = s.tallies ∧
    (cycleStartWork s).settings = s.settings ∧
    (cycleStartWork s).link = s.link ∧
    (cycleStartWork s).phase = s.phase ∧
    (cycleStartWork s).engine = s.engine ∧
    (cycleStartWork s).lines = s.lines ∧
    (cycleStartWork s).building = s.building ∧
    (cycleStartWork s).pending = s.pending := by
  unfold cycleStartWork swapAtCycleStart; split <;> simp

@[simp] theorem takeCheckPoint_frame (s : State) (v : Valve) :
    (takeCheckPoint s v).table = s.table ∧
    (takeCheckPoint s v).tallies = s.tallies ∧
    (takeCheckPoint s v).settings = s.settings ∧
    (takeCheckPoint s v).phase = s.phase ∧
    (takeCheckPoint s v).schedule = s.schedule ∧
    (takeCheckPoint s v).seq = s.seq ∧
    (takeCheckPoint s v).lanes = s.lanes ∧
    (takeCheckPoint s v).engine = s.engine ∧
    (takeCheckPoint s v).lines = s.lines ∧
    (takeCheckPoint s v).building = s.building ∧
    (takeCheckPoint s v).pending = s.pending := by
  simp [takeCheckPoint]

@[simp] theorem checkPoints_frame (passed : List Nat) (armed : Vector (Option Nat) 12) (s : State) :
    (checkPoints passed armed s).table = s.table ∧
    (checkPoints passed armed s).tallies = s.tallies ∧
    (checkPoints passed armed s).settings = s.settings ∧
    (checkPoints passed armed s).phase = s.phase ∧
    (checkPoints passed armed s).schedule = s.schedule ∧
    (checkPoints passed armed s).seq = s.seq ∧
    (checkPoints passed armed s).lanes = s.lanes ∧
    (checkPoints passed armed s).engine = s.engine ∧
    (checkPoints passed armed s).lines = s.lines ∧
    (checkPoints passed armed s).building = s.building ∧
    (checkPoints passed armed s).pending = s.pending := by
  refine ⟨foldl_keeps _ State.table (fun t v => by simp) _ _, foldl_keeps _ State.tallies (fun t v => by simp) _ _, foldl_keeps _ State.settings (fun t v => by simp) _ _, foldl_keeps _ State.phase (fun t v => by simp) _ _, foldl_keeps _ State.schedule (fun t v => by simp) _ _, foldl_keeps _ State.seq (fun t v => by simp) _ _, foldl_keeps _ State.lanes (fun t v => by simp) _ _, foldl_keeps _ State.engine (fun t v => by simp) _ _, foldl_keeps _ State.lines (fun t v => by simp) _ _, foldl_keeps _ State.building (fun t v => by simp) _ _, foldl_keeps _ State.pending (fun t v => by simp) _ _⟩

@[simp] theorem bypassPart_frame (before : Conv) (n : Nat) (s : State) :
    (bypassPart before n s).table = s.table ∧
    (bypassPart before n s).tallies = s.tallies ∧
    (bypassPart before n s).settings = s.settings ∧
    (bypassPart before n s).link = s.link ∧
    (bypassPart before n s).sources = s.sources ∧
    (bypassPart before n s).phase = s.phase ∧
    (bypassPart before n s).schedule = s.schedule ∧
    (bypassPart before n s).portA = s.portA ∧
    (bypassPart before n s).portB = s.portB ∧
    (bypassPart before n s).engine = s.engine ∧
    (bypassPart before n s).lines = s.lines ∧
    (bypassPart before n s).freeCount = s.freeCount ∧
    (bypassPart before n s).building = s.building ∧
    (bypassPart before n s).pending = s.pending := by
  unfold bypassPart; repeat' split
  all_goals simp

@[simp] theorem settleTrip_frame (s : State) :
    (settleTrip s).table = s.table ∧
    (settleTrip s).tallies = s.tallies ∧
    (settleTrip s).settings = s.settings ∧
    (settleTrip s).link = s.link ∧
    (settleTrip s).sources = s.sources ∧
    (settleTrip s).phase = s.phase ∧
    (settleTrip s).schedule = s.schedule ∧
    (settleTrip s).lanes = s.lanes ∧
    (settleTrip s).portA = s.portA ∧
    (settleTrip s).portB = s.portB ∧
    (settleTrip s).engine = s.engine ∧
    (settleTrip s).lines = s.lines ∧
    (settleTrip s).freeCount = s.freeCount ∧
    (settleTrip s).building = s.building ∧
    (settleTrip s).pending = s.pending := by
  simp [settleTrip]

@[simp] theorem settleTrip_seq (s : State) : (settleTrip s).seq = { s.seq with freshTrip := false } := rfl

@[simp] theorem stepEvent_frame (s : State) :
    (stepEvent s).table = s.table ∧
    (stepEvent s).tallies = s.tallies ∧
    (stepEvent s).settings = s.settings ∧
    (stepEvent s).engine = s.engine ∧
    (stepEvent s).lines = s.lines ∧
    (stepEvent s).building = s.building ∧
    (stepEvent s).pending = s.pending := by
  unfold stepEvent; dsimp only; repeat' split
  all_goals simp

@[simp] theorem regrade_frame (v : Valve) (s : State) :
    (regrade v s).table = s.table ∧
    (regrade v s).settings = s.settings ∧
    (regrade v s).link = s.link ∧
    (regrade v s).sources = s.sources ∧
    (regrade v s).phase = s.phase ∧
    (regrade v s).schedule = s.schedule ∧
    (regrade v s).engine = s.engine ∧
    (regrade v s).lines = s.lines ∧
    (regrade v s).freeCount = s.freeCount ∧
    (regrade v s).building = s.building ∧
    (regrade v s).pending = s.pending := by
  simp [regrade]

@[simp] theorem setConsequences_frame (σ : Setting) (v : Valve) (s : State) :
    (setConsequences σ v s).table = s.table ∧
    (setConsequences σ v s).settings = s.settings ∧
    (setConsequences σ v s).link = s.link ∧
    (setConsequences σ v s).engine = s.engine ∧
    (setConsequences σ v s).lines = s.lines ∧
    (setConsequences σ v s).building = s.building ∧
    (setConsequences σ v s).pending = s.pending := by
  unfold setConsequences; repeat' split
  all_goals simp

@[simp] theorem storeClaim_frame (σ : Setting) (v : Valve) (n : Nat) (s : State) :
    ((storeClaim σ v n s).1).table = s.table ∧
    ((storeClaim σ v n s).1).link = s.link ∧
    ((storeClaim σ v n s).1).engine = s.engine ∧
    ((storeClaim σ v n s).1).lines = s.lines ∧
    ((storeClaim σ v n s).1).building = s.building ∧
    ((storeClaim σ v n s).1).pending = s.pending := by
  unfold storeClaim; repeat' split
  all_goals simp

@[simp] theorem setClaim_frame (σ : Setting) (v : Byte) (n : Word16) (s : State) :
    ((setClaim σ v n s).1).table = s.table ∧
    ((setClaim σ v n s).1).link = s.link ∧
    ((setClaim σ v n s).1).engine = s.engine ∧
    ((setClaim σ v n s).1).lines = s.lines ∧
    ((setClaim σ v n s).1).building = s.building ∧
    ((setClaim σ v n s).1).pending = s.pending := by
  unfold setClaim; repeat' split
  all_goals simp

@[simp] theorem deblockClaim_frame (s : State) :
    ((deblockClaim s).1).table = s.table ∧
    ((deblockClaim s).1).tallies = s.tallies ∧
    ((deblockClaim s).1).settings = s.settings ∧
    ((deblockClaim s).1).link = s.link ∧
    ((deblockClaim s).1).sources = s.sources ∧
    ((deblockClaim s).1).phase = s.phase ∧
    ((deblockClaim s).1).schedule = s.schedule ∧
    ((deblockClaim s).1).engine = s.engine ∧
    ((deblockClaim s).1).lines = s.lines ∧
    ((deblockClaim s).1).freeCount = s.freeCount ∧
    ((deblockClaim s).1).building = s.building ∧
    ((deblockClaim s).1).pending = s.pending := by
  unfold deblockClaim; repeat' split
  all_goals simp

@[simp] theorem blockClaim_frame (s : State) :
    ((blockClaim s).1).table = s.table ∧
    ((blockClaim s).1).tallies = s.tallies ∧
    ((blockClaim s).1).settings = s.settings ∧
    ((blockClaim s).1).link = s.link ∧
    ((blockClaim s).1).sources = s.sources ∧
    ((blockClaim s).1).phase = s.phase ∧
    ((blockClaim s).1).schedule = s.schedule ∧
    ((blockClaim s).1).engine = s.engine ∧
    ((blockClaim s).1).lines = s.lines ∧
    ((blockClaim s).1).freeCount = s.freeCount ∧
    ((blockClaim s).1).building = s.building ∧
    ((blockClaim s).1).pending = s.pending := by
  unfold blockClaim; repeat' split
  all_goals simp

@[simp] theorem retardClaim_frame (s : State) :
    ((retardClaim s).1).table = s.table ∧
    ((retardClaim s).1).tallies = s.tallies ∧
    ((retardClaim s).1).settings = s.settings ∧
    ((retardClaim s).1).link = s.link ∧
    ((retardClaim s).1).sources = s.sources ∧
    ((retardClaim s).1).phase = s.phase ∧
    ((retardClaim s).1).schedule = s.schedule ∧
    ((retardClaim s).1).engine = s.engine ∧
    ((retardClaim s).1).lines = s.lines ∧
    ((retardClaim s).1).freeCount = s.freeCount ∧
    ((retardClaim s).1).building = s.building ∧
    ((retardClaim s).1).pending = s.pending := by
  unfold retardClaim; repeat' split
  all_goals simp

@[simp] theorem bypassClaim_frame (s : State) :
    ((bypassClaim s).1).table = s.table ∧
    ((bypassClaim s).1).tallies = s.tallies ∧
    ((bypassClaim s).1).settings = s.settings ∧
    ((bypassClaim s).1).link = s.link ∧
    ((bypassClaim s).1).sources = s.sources ∧
    ((bypassClaim s).1).phase = s.phase ∧
    ((bypassClaim s).1).schedule = s.schedule ∧
    ((bypassClaim s).1).engine = s.engine ∧
    ((bypassClaim s).1).lines = s.lines ∧
    ((bypassClaim s).1).freeCount = s.freeCount ∧
    ((bypassClaim s).1).building = s.building ∧
    ((bypassClaim s).1).pending = s.pending := by
  unfold bypassClaim; repeat' split
  all_goals simp

@[simp] theorem clearTripClaim_frame (s : State) :
    ((clearTripClaim s).1).table = s.table ∧
    ((clearTripClaim s).1).tallies = s.tallies ∧
    ((clearTripClaim s).1).settings = s.settings ∧
    ((clearTripClaim s).1).link = s.link ∧
    ((clearTripClaim s).1).sources = s.sources ∧
    ((clearTripClaim s).1).phase = s.phase ∧
    ((clearTripClaim s).1).schedule = s.schedule ∧
    ((clearTripClaim s).1).engine = s.engine ∧
    ((clearTripClaim s).1).lines = s.lines ∧
    ((clearTripClaim s).1).freeCount = s.freeCount ∧
    ((clearTripClaim s).1).building = s.building ∧
    ((clearTripClaim s).1).pending = s.pending := by
  unfold clearTripClaim; repeat' split
  all_goals simp

@[simp] theorem takeBlockAssertion_frame (s : State) :
    (takeBlockAssertion s).table = s.table ∧
    (takeBlockAssertion s).tallies = s.tallies ∧
    (takeBlockAssertion s).settings = s.settings ∧
    (takeBlockAssertion s).link = s.link ∧
    (takeBlockAssertion s).sources = s.sources ∧
    (takeBlockAssertion s).phase = s.phase ∧
    (takeBlockAssertion s).schedule = s.schedule ∧
    (takeBlockAssertion s).engine = s.engine ∧
    (takeBlockAssertion s).lines = s.lines ∧
    (takeBlockAssertion s).freeCount = s.freeCount ∧
    (takeBlockAssertion s).building = s.building ∧
    (takeBlockAssertion s).pending = s.pending := by
  simp [takeBlockAssertion]

@[simp] theorem takeLineFault_frame (s : State) :
    (takeLineFault s).table = s.table ∧
    (takeLineFault s).tallies = s.tallies ∧
    (takeLineFault s).settings = s.settings ∧
    (takeLineFault s).link = s.link ∧
    (takeLineFault s).sources = s.sources ∧
    (takeLineFault s).phase = s.phase ∧
    (takeLineFault s).schedule = s.schedule ∧
    (takeLineFault s).engine = s.engine ∧
    (takeLineFault s).lines = s.lines ∧
    (takeLineFault s).freeCount = s.freeCount ∧
    (takeLineFault s).building = s.building ∧
    (takeLineFault s).pending = s.pending := by
  unfold takeLineFault; repeat' split
  all_goals simp

end Sys2Proof.Machine
end

