-- ==== Sys2Proof/Laws/Execution.lean ====
section
/-! SUPPORT. The execution of a request, once for all requests: every command completes; a frame spells the request of
its own sender; the placing of an answer, the beginning of the next request, and the end of an execution. -/

namespace Sys2Proof.Machine

/-! ### Every command completes -/

/-- No command of the part ends in a fault or a refusal. -/
theorem exec_next (c : Instr) (s : State) : ∃ t, exec c s = .next t := by
  cases c
  case deferredSwap occasion => cases occasion <;> exact ⟨_, rfl⟩
  all_goals exact ⟨_, rfl⟩

theorem step_next (s : State) : ∃ t, step s = .next t := by
  unfold step
  split
  · exact exec_next _ _
  · exact ⟨_, rfl⟩

/-- A powered part takes the command. -/
theorem powered_of_powered {s : State} (h : s.lines.porLow = false) (act : State → State) :
    powered act s = .next (act s) := by simp [powered, h]

/-! ### A frame spells the request of its own sender -/

theorem ofOption_eq_command {x : Option Instr} {c : Instr} (h : Parsed.ofOption x = .command c) : x = some c := by
  cases x <;> simp_all [Parsed.ofOption]

theorem setCommand_sender (q : Sender) (v : Byte) (w : Word16) (σ : Setting) :
    ∃ k b, requestOf (setCommand q v w σ) = some (q, k, b) := by
  cases σ <;> exact ⟨_, _, rfl⟩

theorem parseAdmit_sender {q : Sender} {b : List Byte} {c : Instr} (h : parseAdmit q b = .command c) :
    ∃ k x, requestOf c = some (q, k, x) := by
  unfold parseAdmit at h
  split at h
  · split at h
    · obtain ⟨cls, -, rfl⟩ := Option.map_eq_some_iff.1 (ofOption_eq_command h)
      exact ⟨_, _, rfl⟩
    · cases h
  · cases h

theorem parseAmend_sender {q : Sender} {b : List Byte} {c : Instr} (h : parseAmend q b = .command c) :
    ∃ k x, requestOf c = some (q, k, x) := by
  unfold parseAmend at h
  split at h
  · split at h
    · dsimp only at h
      split at h <;> first | (cases h; exact ⟨_, _, rfl⟩) | cases h
    · cases h
  · cases h

theorem parseRetire_sender {q : Sender} {b : List Byte} {c : Instr} (h : parseRetire q b = .command c) :
    ∃ k x, requestOf c = some (q, k, x) := by
  unfold parseRetire at h
  split at h
  · split at h
    · obtain ⟨why, -, rfl⟩ := Option.map_eq_some_iff.1 (ofOption_eq_command h)
      exact ⟨_, _, rfl⟩
    · cases h
  · cases h

theorem parseOrder_sender {q : Sender} {b : List Byte} {c : Instr} (h : parseOrder q b = .command c) :
    ∃ k x, requestOf c = some (q, k, x) := by
  unfold parseOrder at h
  split at h
  · split at h
    · split at h <;> first | (cases h; exact ⟨_, _, rfl⟩) | cases h
    · cases h
  · cases h

theorem parseSet_sender {q : Sender} {b : List Byte} {c : Instr} (h : parseSet q b = .command c) :
    ∃ k x, requestOf c = some (q, k, x) := by
  unfold parseSet at h
  split at h
  · split at h
    · cases h; exact setCommand_sender _ _ _ _
    · cases h
  · cases h

/-- The sender of a request that a payload spells is the sender that the frame came from. -/
theorem parsePayload_sender {q : Sender} {kind : Nat} {payload : List Byte} {c : Instr}
    (h : parsePayload q kind payload = .command c) : ∃ k b, requestOf c = some (q, k, b) := by
  unfold parsePayload parseNone at h
  split at h
  all_goals first
    | exact parseAdmit_sender h
    | exact parseAmend_sender h
    | exact parseRetire_sender h
    | exact parseOrder_sender h
    | exact parseSet_sender h
    | (split at h <;> first | (cases h; exact ⟨_, _, rfl⟩) | cases h)
    | cases h

/-- A frame spells a request of its port with its tag. -/
theorem parseFrame_sender {p : Port} {f : Frame} {c : Instr} (h : parseFrame p f = .command c) :
    ∃ t k b, f.tag = some t ∧ requestOf c = some ({ port := p, tag := t }, k, b) := by
  unfold parseFrame at h
  split at h
  · rename_i t n ht hn
    split at h
    · obtain ⟨k, b, hk⟩ := parsePayload_sender h
      exact ⟨t, k, b, ht, hk⟩
    · cases h
  · cases h

/-! ### Placing an answer -/

/-- Everything that placing an answer does: the port that holds a request with its tag becomes ANSWERED with the
reply, the kind and the tag (R153, R156). -/
theorem placeAnswer_eq {p : Port} {f : Frame} {t : Byte} {s : State} (hf : (s.port p).request = some f)
    (ht : f.tag = some t) (r : Reply) :
    placeAnswer p r s = s.setPort p { s.port p with
      state := .answered, request := none, begun := false,
      answer := some { kind := f.kind, tag := t, code := r.code, reason := r.reason, payload := r.payload } } := by
  simp [placeAnswer, hf, ht]

/-- An answer placed on one port leaves the other as it was. -/
theorem placeAnswer_other (p : Port) (r : Reply) (s : State) :
    (placeAnswer p r s).port (otherPort p) = s.port (otherPort p) := by
  unfold placeAnswer
  split
  · rfl
  · dsimp only
    split
    · simp
    · exact (State.port_congr rfl rfl _).trans (State.setPort_port_other _ _ _)

/-- Outside its slots no port changes by an answer. -/
theorem placeAnswer_rest (p x : Port) (r : Reply) (s : State) :
    ((placeAnswer p r s).port x).rest = (s.port x).rest := by
  rcases eq_or_eq_otherPort p x with rfl | rfl
  · unfold placeAnswer
    split
    · rfl
    · dsimp only
      split
      · simp [PortUnit.rest]
      · cases x <;> rfl
  · rw [placeAnswer_other]

/-! ### Beginning requests -/

theorem beginPort_other (p : Port) (s : State) : (beginPort p s).port (otherPort p) = s.port (otherPort p) :=
  (State.port_congr rfl rfl _).trans (State.setPort_port_other _ _ _)

theorem beginPort_rest (p x : Port) (s : State) : ((beginPort p s).port x).rest = (s.port x).rest := by
  have h : (beginPort p s).port x = (s.setPort p { s.port p with begun := true }).port x :=
    State.port_congr rfl rfl _
  rw [h, State.setPort_port]
  split
  · subst x; rfl
  · rfl

theorem freeEngine_port (s : State) (p : Port) : (freeEngine s).port p = s.port p := State.port_congr rfl rfl p

theorem nextPort_waits {s : State} {p : Port} (h : nextPort s = some p) : waits p s = true := by
  unfold nextPort at h
  split at h
  · cases h; assumption
  · split at h
    · cases h; assumption
    · cases h

/-- A port that does not wait is left alone by the beginning of requests. -/
theorem engineBegin_port {p : Port} (n : Nat) {s : State} (h : waits p s = false) :
    (engineBegin n s).port p = s.port p := by
  induction n generalizing s with
  | zero => rfl
  | succ n ih =>
    unfold engineBegin
    split
    · rfl
    · split
      · rfl
      · rename_i x hx
        have hne : p = otherPort x := by
          rcases eq_or_eq_otherPort x p with rfl | hp
          · simp [nextPort_waits hx] at h
          · exact hp
        subst hne
        dsimp only
        split
        · rw [ih]
          · rw [freeEngine_port, placeAnswer_other, beginPort_other]
          · simpa [waits, freeEngine_port, placeAnswer_other, beginPort_other] using h
        · exact beginPort_other x s

/-- Outside its slots no port changes by the beginning of requests. -/
theorem engineBegin_rest (n : Nat) (p : Port) (s : State) : ((engineBegin n s).port p).rest = (s.port p).rest := by
  induction n generalizing s with
  | zero => rfl
  | succ n ih =>
    unfold engineBegin
    split
    · rfl
    · split
      · rfl
      · dsimp only
        split
        · rw [ih, freeEngine_port, placeAnswer_rest, beginPort_rest]
        · exact beginPort_rest _ _ _

/-- With no request waiting nothing begins. -/
theorem engineBegin_none {s : State} (h : ∀ p, waits p s = false) (n : Nat) : engineBegin n s = s := by
  cases n with
  | zero => rfl
  | succ n => simp [engineBegin, nextPort, h]

/-! ### The execution of a request -/

/-- What an execution finds: a request of the sender, with its kind and tag, begun by a busy engine. -/
theorem Executing.slot {c : Instr} {q : Sender} {k : Byte} {b : List Byte} {s : State}
    (hr : requestOf c = some (q, k, b)) (h : Executing c q s) :
    ∃ f, (s.port q.port).request = some f ∧ f.tag = some q.tag ∧ parseFrame q.port f = .command c ∧
      (s.port q.port).begun = true ∧ s.engine = { busy := true, last := q.port } := by
  obtain ⟨-, h⟩ := h
  simp only [begun, Bool.and_eq_true, decide_eq_true_eq] at h
  obtain ⟨⟨⟨hb, hl⟩, hg⟩, hf⟩ := h
  obtain ⟨f, hf, hc⟩ := Option.map_eq_some_iff.1 hf
  obtain ⟨t, k', b', ht, hq⟩ := parseFrame_sender hc
  rw [hr] at hq
  have hqt : q = { port := q.port, tag := t } := by
    have := congrArg (Option.map Prod.fst) hq
    simpa using this
  have htag : q.tag = t := by rw [hqt]
  refine ⟨f, hf, ht.trans (congrArg some htag.symm), hc, hg, ?_⟩
  cases he : s.engine with
  | mk busy last =>
    rw [he] at hb hl
    exact congrArg₂ Engine.mk hb hl

/-- A request row is its execution when the engine has begun exactly this request. -/
theorem serveClaim_executing {c : Instr} {q : Sender} {k : Byte} {b : List Byte} {s : State}
    (hr : requestOf c = some (q, k, b)) (h : Executing c q s) (claim : State → State × Option Reply) :
    serveClaim c q.port claim s = .next (conclude q.port (claim s)) := by
  simp [serveClaim, powered, h.1, serve, hr, h.2]

/-- The end of an execution, once for all requests: when the claim leaves the sender's slot and the engine alone and
answers, the port holds the answer, the blocks are those that the claim left, and with no request of the other port
waiting the engine is free (R153, R156). -/
theorem conclude_answers {q : Sender} {f : Frame} {s u : State} {r : Reply}
    (hf : (s.port q.port).request = some f) (ht : f.tag = some q.tag)
    (hslot : (u.port q.port).request = (s.port q.port).request) (hlast : u.engine.last = q.port) :
    SameBlocks u (conclude q.port (u, some r)) ∧ Answered q r s (conclude q.port (u, some r)) ∧
      (waits (otherPort q.port) u = false → EngineFree q u (conclude q.port (u, some r))) := by
  have hp := placeAnswer_eq (hslot.trans hf) ht r
  have hc : conclude q.port (u, some r) = engineBegin 2 (freeEngine (placeAnswer q.port r u)) := rfl
  have hw : waits q.port (freeEngine (placeAnswer q.port r u)) = false := by
    simp [waits, freeEngine_port, hp]
  have hport : (conclude q.port (u, some r)).port q.port = (placeAnswer q.port r u).port q.port := by
    rw [hc, engineBegin_port 2 hw, freeEngine_port]
  refine ⟨⟨?_, ?_, ?_⟩, ?_, fun ho => ?_⟩
  · simp [State.blocks]
  · have := engineBegin_rest 2 .a (freeEngine (placeAnswer q.port r u))
    rw [freeEngine_port, placeAnswer_rest] at this
    exact this
  · have := engineBegin_rest 2 .b (freeEngine (placeAnswer q.port r u))
    rw [freeEngine_port, placeAnswer_rest] at this
    exact this
  · simp [Answered, hport, hp, hf]
  · have hn : ∀ p, waits p (freeEngine (placeAnswer q.port r u)) = false := fun p => by
      rcases eq_or_eq_otherPort q.port p with rfl | rfl
      · exact hw
      · simpa [waits, freeEngine_port, placeAnswer_other] using ho
    rw [hc, engineBegin_none hn]
    refine ⟨?_, by rw [freeEngine_port, placeAnswer_other]⟩
    simp [freeEngine, hp, hlast]

/-- An executing request whose claim answers completes (R153). -/
theorem serveClaim_completes {c : Instr} {q : Sender} {k : Byte} {b : List Byte} {s u : State} {r : Reply}
    {claim : State → State × Option Reply} (hr : requestOf c = some (q, k, b)) (h : Executing c q s)
    (hexec : exec c s = serveClaim c q.port claim s) (hclaim : claim s = (u, some r))
    (hslot : (u.port q.port).request = (s.port q.port).request) (heng : u.engine = s.engine)
    (hwait : waits (otherPort q.port) u = waits (otherPort q.port) s) : Completes c q u r s := by
  obtain ⟨f, hf, ht, -, -, he⟩ := h.slot hr
  have := conclude_answers (r := r) hf ht hslot (by rw [heng, he])
  refine ⟨_, by rw [hexec, serveClaim_executing hr h, hclaim], this.1, this.2.1, fun hw => this.2.2 (hwait.trans hw)⟩

/-- The same for a claim that touches of the ports at most the notices. -/
theorem serveClaim_completes_of_samePorts {c : Instr} {q : Sender} {k : Byte} {b : List Byte} {s u : State} {r : Reply}
    {claim : State → State × Option Reply} (hr : requestOf c = some (q, k, b)) (h : Executing c q s)
    (hexec : exec c s = serveClaim c q.port claim s) (hclaim : claim s = (u, some r)) (hports : SamePorts s u)
    (heng : u.engine = s.engine) : Completes c q u r s :=
  serveClaim_completes hr h hexec hclaim (by rw [hports q.port]) heng (by
    unfold waits
    rw [hports (otherPort q.port)])

/-- A claim that changes nothing, a refusal or a lookup, completes with its answer. -/
theorem serveClaim_refuses {c : Instr} {q : Sender} {k : Byte} {b : List Byte} {s : State} {r : Reply}
    {claim : State → State × Option Reply} (hr : requestOf c = some (q, k, b)) (h : Executing c q s)
    (hexec : exec c s = serveClaim c q.port claim s) (hclaim : claim s = (s, some r)) : Completes c q s r s :=
  serveClaim_completes_of_samePorts hr h hexec hclaim (.refl s) rfl

end Sys2Proof.Machine
end

