-- ==== Sys2Proof/Laws/Tally.lean ====
section
/-! SUPPORT. The tally that follows a record change is the recount of the changed records (R24 to R26, R6). -/

namespace Sys2Proof.Machine

/-- A count of records after one of them is replaced. -/
theorem countOf_set (test : LevelRecord → Bool) (rs : List LevelRecord) (i : Nat) (hi : i < rs.length)
    (r : LevelRecord) :
    countOf test (rs.set i r) =
      countOf test rs - (if test rs[i] then 1 else 0) + (if test r then 1 else 0) := by
  simp only [countOf, ← List.countP_eq_length_filter]
  exact List.countP_set hi

/-- The records of a valve after one of its records is replaced. -/
theorem setRecord_valve (s : State) (v : Valve) (p : Position) (r : LevelRecord) :
    (s.setRecord v p r).table[v].toList = s.table[v].toList.set p.val r := by
  simp [State.setRecord, put, Vector.toList_set]

theorem record_eq (s : State) (v : Valve) (p : Position) (h : p.val < s.table[v].toList.length) :
    s.table[v].toList[p.val] = s.record v p := by
  simp [State.record]

theorem length_records (s : State) (v : Valve) : s.table[v].toList.length = 96 := by simp

/-- A count over a whole valve after one of its records is replaced. -/
theorem countOf_setRecord (test : LevelRecord → Bool) (s : State) (v : Valve) (p : Position) (r : LevelRecord) :
    countOf test (s.setRecord v p r).table[v].toList =
      countOf test s.table[v].toList - (if test (s.record v p) then 1 else 0) + (if test r then 1 else 0) := by
  have hp : p.val < s.table[v].toList.length := by rw [length_records]; exact p.isLt
  rw [setRecord_valve, countOf_set _ _ _ hp, record_eq s v p hp]

/-- A count over one bank after a record is replaced: it moves only in the record's own bank (R24). -/
theorem countOf_bankRecords_setRecord (test : LevelRecord → Bool) (s : State) (v : Valve) (b : Bank) (p : Position)
    (r : LevelRecord) :
    countOf test (bankRecords v b (s.setRecord v p r)) =
      if b = bankOf p then
        countOf test (bankRecords v b s) - (if test (s.record v p) then 1 else 0) + (if test r then 1 else 0)
      else countOf test (bankRecords v b s) := by
  have hl : (s.table[v].toList.drop (24 * b.val)).length = 96 - 24 * b.val := by
    rw [List.length_drop, length_records]
  have hp := p.isLt
  have hb := b.isLt
  have hbank : (b = bankOf p) ↔ 24 * b.val ≤ p.val ∧ p.val < 24 * b.val + 24 := by
    simp only [bankOf, Fin.ext_iff]; omega
  unfold bankRecords
  rw [setRecord_valve, List.drop_set]
  by_cases hlt : p.val < 24 * b.val
  · have : b ≠ bankOf p := fun h => by have := hbank.1 h; omega
    simp [hlt, this]
  · simp only [hlt, if_false, List.take_set]
    by_cases hge : 24 * b.val + 24 ≤ p.val
    · have hne : b ≠ bankOf p := fun h => by have := hbank.1 h; omega
      rw [List.set_eq_of_length_le (by rw [List.length_take, hl]; omega)]
      simp [hne]
    · have heq : b = bankOf p := hbank.2 ⟨by omega, by omega⟩
      have hi : p.val - 24 * b.val < ((s.table[v].toList.drop (24 * b.val)).take 24).length := by
        rw [List.length_take, hl]; omega
      rw [countOf_set _ _ _ hi, if_pos heq]
      have hr : ((s.table[v].toList.drop (24 * b.val)).take 24)[p.val - 24 * b.val] = s.record v p := by
        rw [List.getElem_take, List.getElem_drop]
        simp only [show 24 * b.val + (p.val - 24 * b.val) = p.val by omega]
        exact record_eq s v p _
      rw [hr]

/-! ### Top position (R6) -/

/-- The top position over the first `n` records. -/
def topBelow (rs : List LevelRecord) (n : Nat) : Nat :=
  (List.range n).foldl (fun t k => if (rs[k]?.map LevelRecord.life).getD .empty = .empty then t else k + 1) 0

theorem topOf_eq (rs : List LevelRecord) : topOf rs = topBelow rs rs.length := rfl

theorem topBelow_succ (rs : List LevelRecord) (n : Nat) :
    topBelow rs (n + 1) = if (rs[n]?.map LevelRecord.life).getD .empty = .empty then topBelow rs n else n + 1 := by
  simp [topBelow, List.range_succ]

theorem topBelow_le (rs : List LevelRecord) (n : Nat) : topBelow rs n ≤ n := by
  induction n with
  | zero => simp [topBelow]
  | succ n ih => rw [topBelow_succ]; split <;> omega

theorem topBelow_set (rs : List LevelRecord) (i : Nat) (hi : i < rs.length) (r : LevelRecord) (hr : r.life ≠ .empty)
    (n : Nat) : topBelow (rs.set i r) n = if n ≤ i then topBelow rs n else max (topBelow rs n) (i + 1) := by
  induction n with
  | zero => simp [topBelow]
  | succ n ih =>
    have hle := topBelow_le rs n
    rw [topBelow_succ, topBelow_succ, ih]
    rcases Nat.lt_trichotomy n i with h | h | h
    · rw [List.getElem?_set_ne (by omega)]
      simp only [show n ≤ i by omega, show n + 1 ≤ i by omega, if_true]
    · subst h
      rw [List.getElem?_set_self hi]
      simp only [Option.map_some, Option.getD_some, hr, if_false, show ¬ n + 1 ≤ n by omega]
      split <;> omega
    · rw [List.getElem?_set_ne (by omega)]
      simp only [show ¬ n ≤ i by omega, show ¬ n + 1 ≤ i by omega, if_false]
      split <;> omega

/-- An EMPTY record replaced by an EMPTY one moves no top position. -/
theorem topBelow_set_empty (rs : List LevelRecord) (i : Nat) (hi : i < rs.length) (r : LevelRecord)
    (hr : r.life = .empty) (ho : rs[i].life = .empty) (n : Nat) : topBelow (rs.set i r) n = topBelow rs n := by
  induction n with
  | zero => simp [topBelow]
  | succ n ih =>
    rw [topBelow_succ, topBelow_succ, ih]
    by_cases h : i = n
    · subst h
      simp [hi, hr, ho]
    · rw [List.getElem?_set_ne h]

/-! ### The tally -/

theorem moveCount_eq (f : Life → Nat) (old new : Life) :
    moveCount #v[f .empty, f .proving, f .serving, f .suspect, f .shorted, f .dark, f .retired] old new =
      (let g := fun x => f x - (if old = x then 1 else 0) + (if new = x then 1 else 0)
       #v[g .empty, g .proving, g .serving, g .suspect, g .shorted, g .dark, g .retired]) := by
  cases old <;> cases new <;> simp [moveCount, put, lifeIndex]

theorem recount_eq (f : Bank → Nat) (b : Bank) (before after : Bool) :
    recount #v[f 0, f 1, f 2, f 3] b before after =
      (let g := fun x => if x = b then f x - (if before then 1 else 0) + (if after then 1 else 0) else f x
       #v[g 0, g 1, g 2, g 3]) := by
  fin_cases b <;> simp [recount, put]

/-- The tally that follows a record change is the recount of the changed records, where it was the recount before and
no record becomes EMPTY (R24 to R26). -/
theorem after_eq_recounted (s : State) (v : Valve) (p : Position) (new : LevelRecord)
    (h : s.tally v = recounted v s) (he : new.life = .empty → (s.record v p).life = .empty) :
    (s.tally v).after v p (s.record v p) new s.settings = recounted v (s.setRecord v p new) := by
  have hp : p.val < s.table[v].toList.length := by rw [length_records]; exact p.isLt
  have hset : (s.setRecord v p new).settings = s.settings := rfl
  have htop : topOf (s.setRecord v p new).table[v].toList =
      if new.life = .empty then topOf s.table[v].toList else max (topOf s.table[v].toList) (positionNumber p) := by
    rw [topOf_eq, topOf_eq, setRecord_valve, List.length_set]
    split
    · rename_i hn
      exact topBelow_set_empty _ _ hp _ hn (by rw [record_eq s v p hp]; exact he hn) _
    · rename_i hn
      rw [topBelow_set _ _ hp _ hn, if_neg (by omega)]
      rfl
  rw [h]
  unfold recounted Tally.after Tally.refresh
  simp only [hset, htop, countOf_setRecord, countOf_bankRecords_setRecord]
  rw [moveCount_eq (fun x => countOf (fun r => decide (r.life = x)) s.table[v].toList),
    recount_eq (fun b => countOf countsEmitting (bankRecords v b s)),
    recount_eq (fun b => countOf countsLong (bankRecords v b s))]
  simp [lifeIndex]

end Sys2Proof.Machine
end

