-- ==== Sys2Proof/Laws/Values.lean ====
section
/-! SUPPORT. What the shared operations of sequencer, lanes, table and link leave, in the words of Safety.lean. -/

namespace Sys2Proof.Machine

/-! ### Changes of converter state (R120, R122, R128, R131, R145) -/

theorem enterRetarded_eq (x : ExitTarget) (s : State) :
    enterRetarded x s = converterChange (retardedWith x) s := by
  simp only [enterRetarded, enter, isFiring, Bool.not_true, Bool.and_false]
  rfl

theorem enterBypassing_eq (x : ExitTarget) (s : State) :
    enterBypassing x s = converterChange (bypassingWith x) s := by
  simp only [enterBypassing, enter, isFiring, Bool.not_true, Bool.and_false]
  rfl

/-- BLOCKED or TRIPPED entered from a firing state: the lanes are cut. -/
theorem enter_stopped_of_firing {c : Conv} (hc : isStopped c = true) {s : State} (h : isFiring s.seq.conv = true) :
    enter c none s = converterStop (stoppedAs c) s := by
  have hf : isFiring c = false := by cases c <;> first | rfl | exact absurd hc Bool.noConfusion
  unfold enter
  simp only [h, hf, Bool.not_false, Bool.and_true]
  cases c <;> first | rfl | exact absurd hc Bool.noConfusion

/-- BLOCKED or TRIPPED entered from any other state. -/
theorem enter_stopped_of_idle {c : Conv} (hc : isStopped c = true) {s : State} (h : isFiring s.seq.conv = false) :
    enter c none s = converterChange (stoppedAs c) s := by
  unfold enter
  simp only [h, Bool.false_and]
  cases c <;> first | rfl | exact absurd hc Bool.noConfusion

theorem enterDeionizing_of_firing {s : State} (h : isFiring s.seq.conv = true) :
    enterDeionizing s = converterStop deionizingFrom s := by
  have hd : isFiring .deionizing = false := rfl
  unfold enterDeionizing enter
  simp only [h, hd, Bool.not_false, Bool.and_true]
  rfl

/-- A stronger exit target replaces the present one; an equal or weaker one leaves everything as it is (R120). -/
theorem strengthen_of_stronger {x y : ExitTarget} {s : State} (h : s.seq.exitTarget = some y)
    (hr : exitRank y < exitRank x) :
    strengthen x s = converterChange (fun q => { q with exitTarget := some x }) s := by
  simp [strengthen, h, hr, converterChange]

theorem strengthen_of_weaker {x y : ExitTarget} {s : State} (h : s.seq.exitTarget = some y)
    (hr : exitRank x ≤ exitRank y) : strengthen x s = s := by
  simp [strengthen, h, Nat.not_lt.2 hr]

/-- Latching where the latch is clear, and where it is set (R133). -/
theorem latchTrip_of_clear {cause : TripCause} {s : State} (h : s.seq.tripLatch = false) :
    latchTrip cause s = setNotice .trip { s with seq := latched cause s.seq } := by
  simp [latchTrip, h, latched]

theorem latchTrip_of_set {cause : TripCause} {s : State} (h : s.seq.tripLatch = true) : latchTrip cause s = s := by
  simp [latchTrip, h]

/-! ### Burst requests (R141, R142) -/

/-- A burst request in a firing state changes its own lane, as the lane takes it, and nothing else. -/
theorem burstRequest_of_firing (v : Valve) {s : State} (h : isFiring s.seq.conv = true) :
    burstRequest v s = s.setLane v (laneTakes v s (s.lane v)) := by
  have hself : s.setLane v (s.lane v) = s := by
    have : put s.lanes v s.lanes[v] = s.lanes := by
      apply Vector.ext
      intro i hi
      rw [put_getElem]
      split
      · rename_i hv; subst hv; rfl
      · rfl
    simp only [State.setLane, State.lane, this]
  unfold burstRequest laneTakes
  dsimp only
  cases hl : (s.lane v).state <;> simp only [h, if_true]
  · cases activeFrom (compose v s) 0 with
    | none => exact hself.symm
    | some b => rfl
  all_goals rfl

/-! ### Record claims (R4, R15, R25) -/

/-- The record after a claim: its revision is one higher exactly when life state, class or tag changed (R4). -/
theorem commitRecord_record (v : Valve) (p : Position) (new : LevelRecord) (origin : UnfitOrigin) (s : State) :
    (commitRecord v p new origin s).record v p =
      if recordMoves (s.record v p) new then { new with revision := (s.record v p).revision + 1 } else new := by
  have hr : ∀ {t u : State}, t.table = u.table → t.record v p = u.record v p := fun h => by
    simp only [State.record, h]
  unfold commitRecord
  dsimp only
  split
  · rw [hr (commitTally_frame _ _ _ _).1, hr (setNotice_table _ _), State.setRecord_record_same]
  · exact State.setRecord_record_same _ _ _ _

/-- Every other record is as it was. -/
theorem commitRecord_record_other {v w : Valve} {p x : Position} (h : (w, x) ≠ (v, p)) (new : LevelRecord)
    (origin : UnfitOrigin) (s : State) : (commitRecord v p new origin s).record w x = s.record w x := by
  have hr : ∀ {t u : State}, t.table = u.table → t.record w x = u.record w x := fun h => by
    simp only [State.record, h]
  have hne : ¬(v = w ∧ p = x) := fun ⟨a, b⟩ => h (by rw [a, b])
  unfold commitRecord
  dsimp only
  split
  · rw [hr (commitTally_frame _ _ _ _).1, hr (setNotice_table _ _), State.setRecord_record, if_neg hne]
  · rw [State.setRecord_record, if_neg hne]

/-- The tallies after a claim: the valve's own, where life state, class or tag changed (R25, R26). -/
theorem commitTally_tally (v w : Valve) (t : Tally) (origin : UnfitOrigin) (s : State) :
    (commitTally v t origin s).tally w = if v = w then t else s.tally w := by
  have hr : ∀ {a b : State}, a.tallies = b.tallies → a.tally w = b.tally w := fun h => by
    simp only [State.tally, h]
  rw [← State.setTally_tally]
  unfold commitTally
  dsimp only
  split
  · rfl
  · split
    · exact hr ((unfitEntry_frame _ _ _).2.1.trans (setNotice_tallies _ _))
    · exact hr (setNotice_tallies _ _)

theorem commitRecord_tally (v w : Valve) (p : Position) (new : LevelRecord) (origin : UnfitOrigin) (s : State) :
    (commitRecord v p new origin s).tally w =
      if v = w ∧ recordMoves (s.record v p) new then (s.tally v).after v p (s.record v p) new s.settings
      else s.tally w := by
  have hr : ∀ {a b : State}, a.tallies = b.tallies → a.tally w = b.tally w := fun h => by
    simp only [State.tally, h]
  unfold commitRecord
  dsimp only
  split
  · rename_i h
    rw [commitTally_tally, hr (setNotice_tallies _ _)]
    by_cases hv : v = w
    · rw [if_pos hv, if_pos ⟨hv, h⟩]
    · rw [if_neg hv, if_neg (fun x => hv x.1)]
      exact hr rfl
  · rename_i h
    rw [if_neg (fun x => h x.2)]
    exact hr rfl

/-! ### The engine after a word (R61, R69) -/

theorem holdOr_of_hold {q : Port} {s : State} (h : s.link.holdPending = some q) (kept : Option Poll)
    (go : State → State) : holdOr kept go s = placeAnswer q (plain .done) (becomeHeld kept s) := by
  simp [holdOr, h]

theorem holdOr_of_none {s : State} (h : s.link.holdPending = none) (kept : Option Poll) (go : State → State) :
    holdOr kept go s = go s := by
  simp [holdOr, h]

/-! ### Free choices and the building of a converter image (R157, log entries 2 and 18) -/

/-- What a choice takes is one of the candidates. -/
theorem chooseOne_mem {α : Type} (n : Nat) (a : α) (l : List α) : (chooseOne n a l).1 ∈ a :: l := by
  cases l with
  | nil => exact List.mem_singleton.2 rfl
  | cons b l =>
    have h : Config.eventPlace n % (a :: b :: l).length < (a :: b :: l).length := Nat.mod_lt _ (Nat.succ_pos _)
    simp only [chooseOne, List.getD_eq_getElem _ _ h]
    exact List.getElem_mem h

/-- A choice takes a free value where there are several candidates. -/
theorem chooseOne_count {α : Type} (n : Nat) (a : α) (l : List α) :
    (chooseOne n a l).2 = if l = [] then n else n + 1 := by
  cases l <;> rfl

theorem mem_missingParts {b : ImageBuild} {k : Fin 6} : k ∈ missingParts b ↔ b.parts[k] = none := by
  have hk : k ∈ allParts := by revert k; decide
  simp [missingParts, hk]

/-- Everything that taking a part does: one part that was missing is the owner's now, and it was taken at this moment. -/
theorem takePart_eq {s : State} {k : Fin 6} {ks : List (Fin 6)} (h : missingParts s.building = k :: ks) :
    ∃ x ∈ k :: ks, takePart s = { s with
      building := { parts := put s.building.parts x (some (converterPart x s)), taken := true },
      freeCount := if ks = [] then s.freeCount else s.freeCount + 1 } := by
  refine ⟨_, chooseOne_mem s.freeCount k ks, ?_⟩
  simp only [takePart, h, chooseOne_count]

/-- Taking a part changes the image and the count of free values alone. -/
@[simp] theorem takePart_frame (s : State) :
    (takePart s).table = s.table ∧
    (takePart s).tallies = s.tallies ∧
    (takePart s).settings = s.settings ∧
    (takePart s).link = s.link ∧
    (takePart s).sources = s.sources ∧
    (takePart s).phase = s.phase ∧
    (takePart s).schedule = s.schedule ∧
    (takePart s).seq = s.seq ∧
    (takePart s).lanes = s.lanes ∧
    (takePart s).portA = s.portA ∧
    (takePart s).portB = s.portB ∧
    (takePart s).engine = s.engine ∧
    (takePart s).lines = s.lines ∧
    (takePart s).pending = s.pending := by
  unfold takePart; split <;> simp

/-- At a moment that has given a part no second one is taken. -/
theorem lookConverterMoment_of_taken {s : State} (h : s.building.taken = true) (p : Port) :
    lookConverterMoment p s = s := by
  simp [lookConverterMoment, h]

/-- Which parts are missing after one is put. -/
theorem missingParts_put (b : ImageBuild) (k : Fin 6) (bytes : List Byte) (t : Bool) :
    missingParts { parts := put b.parts k (some bytes), taken := t } = (missingParts b).filter fun j => j ≠ k := by
  simp only [missingParts, List.filter_filter]
  refine List.filter_congr fun j _ => ?_
  by_cases hj : j = k
  · subst hj; simp [put]
  · have : k.val ≠ j.val := fun e => hj (Fin.ext e.symm)
    simp [put, hj, this]

end Sys2Proof.Machine
end

