-- ==== Sys2Proof/Tests/Slice0.lean ====
section
/-! SUPPORT. Tests: ill-formed commands, one step of each command, and a state that meets the hypotheses of each
statement, clause by clause. -/

set_option Elab.async false

namespace Sys2Proof.Tests

open Sys2Proof.Machine

/-! ### Helpers -/

/-- System A and system B as senders. -/
def qa : Sender := { port := .a, tag := 7 }
def qb : Sender := { port := .b, tag := 9 }

/-- A field of the next state, or none. -/
def after {α : Type} (c : Instr) (s : State) (f : State → α) : Option α :=
  match exec c s with
  | .next t => some (f t)
  | .fault _ => none
  | .refused _ => none

/-- The answer that Port A holds after a command: its code and payload. -/
def answerA (c : Instr) (s : State) : Option (AnswerCode × List Byte) :=
  (after c s fun t => t.portA.answer.map fun a => (a.code, a.payload)).join

/-- The request engine executes exactly this request. -/
def serving (c : Instr) (s : State) : State :=
  match requestOf c with
  | some (q, kind, payload) =>
    { s.setPort q.port { PortUnit.powerOn with state := .working, request := some (requestFrame q kind payload),
                                                begun := true } with
      engine := { busy := true, last := q.port } }
  | none => s

/-- A chain that runs at 50 Hz, locked, at a phase value. -/
def lockedAt (n : Nat) : Phase :=
  { Phase.afterReset with lock := .locked, mark := .crossing, saved := some 800000, loaded := some 800000,
                          counting := true, phase := n }

/-- A valid page in a role. -/
def page (r : Role) : Page := { Page.afterReset with valid := true, alpha := 1500, role := r }

/-- The chain at a phase value, a converter state with its exit target, a live page in a role. -/
def conv (c : Conv) (x : Option ExitTarget) (r : Role) (n : Nat) : State :=
  { State.reset with
      phase := lockedAt n,
      schedule := { Schedule.powerOn with pageA := page r, pageB := page r },
      seq := { Sequencer.powerOn with
        conv := c, exitTarget := x,
        tripLatch := decide (c = .tripped) || decide (x = some .tripped),
        tripCause := if c = .tripped ∨ x = some .tripped then some (.commutation 5) else none } }

/-- A poll of a source over positions 20 to 27 of valve 4. -/
def pollFrom (x : PollSource) (next : Nat) : Poll :=
  { source := x, kind := .deep, valve := 3, first := 20, last := 27, next := next, superseded := false }

/-- The link in a state with a poll. -/
def linked (l : LinkState) (p : Option Poll) (s : State) : State :=
  { s with link := { s.link with state := l, poll := p, timer := if isPolling l then some 9 else none } }

/-- A record of a life state. -/
def level (l : Life) : LevelRecord := { LevelRecord.powerOn with life := l, revision := 9 }

/-- A state with a record in place and the tally of its valve a recount. -/
def withRecord (v : Valve) (p : Position) (r : LevelRecord) (s : State) : State :=
  (s.setRecord v p r).setTally v (recounted v (s.setRecord v p r))

/-! ### Ill-formed commands -/

/-- The frame of a reply header, and of a result word. -/
def header (w : Word16) : BitVec 20 := linkFrame true w
def result (w : Word16) : BitVec 20 := linkFrame false w

theorem test_wellFormed_replyHeader : (Instr.replyHeader (header 0x0013)).wellFormed = true := by decide
theorem test_illFormed_replyHeader : (Instr.replyHeader (result 0x0013)).wellFormed = false := by decide
theorem test_wellFormed_resultWord : (Instr.resultWord (result 0x4828)).wellFormed = true := by decide
theorem test_illFormed_resultWord : (Instr.resultWord (header 0x4828)).wellFormed = false := by decide
theorem test_wellFormed_sweepCut : (Instr.sweepCut (header 0x0013)).wellFormed = true := by decide
theorem test_illFormed_sweepCut : (Instr.sweepCut (header 0x0013 ^^^ 2)).wellFormed = false := by decide
theorem test_wellFormed_deferredHold : (Instr.deferredHold none).wellFormed = true := by decide
theorem test_illFormed_deferredHold : (Instr.deferredHold (some (header 0x4828))).wellFormed = false := by decide
theorem test_illFormed_frameError : (Instr.frameError (header 0x0013)).wellFormed = false := by decide
theorem test_wellFormed_frameError : (Instr.frameError (header 0x0013 ^^^ 2)).wellFormed = true := by decide

def entries (n : Nat) : List OrderEntry := List.replicate n { valve := 1, trim := 0, pair := false }

theorem test_wellFormed_order :
    (Instr.order qa { alpha := none, role := none, leg := none, entries := entries 12 }).wellFormed = true := by decide
theorem test_illFormed_order :
    (Instr.order qa { alpha := none, role := none, leg := none, entries := entries 13 }).wellFormed = false := by decide

/-! ### One step of a command -/

theorem test_block_line_stops_running :
    after .blockLineAsserted (conv .running none .inverter 0) (fun t => (t.seq.conv, t.lines.block))
      = some (.blocked, true) := by decide +kernel
theorem test_line_fault_retards :
    after .linefaultEdge (conv .running none .rectifier 0) (fun t => (t.seq.conv, t.seq.exitTarget))
      = some (.retarded, some .deionizing) := by decide +kernel
theorem test_deblock_pending :
    after (.deblock qa) (serving (.deblock qa) { conv .blocked none .rectifier 0 with
      tallies := Vector.replicate 12 { Tally.powerOn with grade := .full } }) (fun t => t.seq.conv)
      = some .pending := by decide +kernel
theorem test_deblock_refused :
    (after (.deblock qa) (serving (.deblock qa) (conv .blocked none .rectifier 0))
      fun t => t.portA.answer.map fun a => (a.code, a.reason)) = some (some (.notReady, some .valveUnfit)) := by
  decide +kernel
theorem test_block_bypasses_an_inverter :
    after (.block qa) (serving (.block qa) (conv .running none .inverter 0)) (fun t => (t.seq.conv, t.seq.exitTarget))
      = some (.bypassing, some .blocked) := by decide +kernel

/-- A bit of a frame alone: start mark 0, type mark 1, word 0000 0000 0001 0100, parity 0, stop mark 1 (R170). -/
theorem test_reply_header_bit_by_bit :
    header 0x0014 = 0b01000000000001010001#20 ∧ isReplyHeader (header 0x0014) = true ∧
    frameWord (header 0x0014) = 0x0014 := by decide

/-- The commutation-failure run of 8.7 at cycle start 705. -/
def failing : State :=
  let s := conv .running none .inverter 3599
  { s with seq := { s.seq with cfMark := true, cfHold := 4, cfRun := 4, lastFailure := some 5 } }

theorem test_commutation_trip :
    after .commutationTrip failing (fun t => (t.seq.conv, t.seq.exitTarget, t.seq.tripCause))
      = some (.bypassing, some .tripped, some (.commutation 5)) := by decide +kernel
theorem test_commutation_hold_counts :
    after .phaseStepEvent { failing with seq := { failing.seq with cfRun := 3 } }
      (fun t => (t.seq.cfHold, t.seq.cfRun, effectiveBase t)) = some (3, 4, some 1400) := by decide +kernel

/-- The acquisition of 6.8 before crossing 10. -/
def acquiring (previous good : Nat) : State :=
  { State.reset with phase := { lockedAt 5 with lock := .acquiring, prevAccepted := some previous, good := good } }

theorem test_lock_at_the_fourth_agreement :
    after (.referenceCrossing 800020) (acquiring 800000 3)
      (fun t => (t.phase.lock, t.phase.good, t.phase.loaded, presentLength t.phase))
      = some (.locked, 0, some 800020, some 222) := by decide +kernel
theorem test_a_jump_restarts_the_good_count :
    after (.referenceCrossing 812000) (acquiring 800050 2) (fun t => (t.phase.lock, t.phase.good))
      = some (.acquiring, 0) := by decide +kernel

/-- The relock of 6.8 at 120.1 ms. -/
def relocking : State :=
  { State.reset with phase := { lockedAt 18 with lock := .disturbed, good := 1 } }

theorem test_relock_steers :
    after (.referenceCrossing 800000) relocking (fun t => (t.phase.lock, t.phase.correction, t.phase.lastError))
      = some (.locked, -18, some 18) := by decide +kernel
theorem test_dropout_holds :
    after .missedCrossing (conv .running none .rectifier 0) (fun t => (t.phase.lock, t.phase.hold, t.seq.conv))
      = some (.holding, 1, .running) := by decide +kernel
/-- R90: the interval expires before the crossing, which then measures no period; at 940,000 the crossing is first. -/
theorem test_crossing_after_the_expiry :
    after (.referenceCrossing 940001) (conv .running none .rectifier 0) (fun t => (t.phase.lock, t.phase.mark))
      = some (.disturbed, .crossing) ∧
    after (.referenceCrossing 940001) (conv .running none .rectifier 0) (fun t => (t.phase.lastError, t.phase.good))
      = some (none, 0) ∧
    after (.referenceCrossing 940000) (conv .running none .rectifier 0) (fun t => (t.phase.lock, t.phase.saved))
      = some (.locked, some 940000) := by decide +kernel
theorem test_suppressed_step :
    after .phaseCorrection { relocking with phase := { relocking.phase with correction := -18, spacing := 9 } }
      (fun t => (t.phase.phase, t.phase.correction, t.phase.spacing)) = some (18, -17, 0) := by decide +kernel

theorem test_window_fires_and_arms :
    after .phaseStepEvent { conv .running none .inverter 1499 with seq := { Sequencer.powerOn with
      conv := .running, windows := put Sequencer.powerOn.windows 0 .opened } }
      (fun t => (t.seq.windows[(0 : Valve)], t.sources.armed[(0 : Valve)])) = some (.fired, some 3300) := by
  decide +kernel

theorem test_poll_start :
    after .arbiterPollStart { State.reset with sources := { Sources.afterReset with
      directed := [{ valve := 3, first := 20, count := 8, origin := .request, inProgress := false }] } }
      (fun t => (t.link.state, t.link.poll)) = some (.header, some (pollFrom .directed 20)) := by decide +kernel
theorem test_header_goes_to_the_first_word :
    after (.replyHeader (header 0x0014)) (linked .header (some (pollFrom .directed 20)) State.reset)
      (fun t => (t.link.state, t.link.timer)) = some (.exchange, some 400) := by decide +kernel
theorem test_the_type_mark_tells_the_word :
    after (.replyHeader (result 0x0014)) (linked .header (some (pollFrom .directed 20)) State.reset)
      (fun t => (t.link.state, t.link.overruns)) = some (.header, 1) := by decide +kernel
theorem test_a_slipped_word_is_a_mismatch :
    after (.resultWord (result 0x8800)) (linked .exchange (some (pollFrom .directed 23)) State.reset)
      (fun t => (t.link.state, t.link.poll.map Poll.next, t.link.mismatches)) = some (.exchange, some 24, 1) := by
  decide +kernel
theorem test_the_last_word_completes :
    after (.resultWord (result 0xB800)) (linked .exchange (some (pollFrom .directed 27)) State.reset)
      (fun t => (t.link.state, t.link.poll)) = some (.idle, none) := by decide +kernel
theorem test_the_eighth_abort_sets_link_down :
    after .linkDown { linked .header (some (pollFrom .directed 20)) State.reset with
      link := { (linked .header (some (pollFrom .directed 20)) State.reset).link with failures := 7, timeouts := 21 } }
      (fun t => (t.link.failures, t.link.down, t.link.timeouts)) = some (8, true, 22) := by decide +kernel
theorem test_release_resumes :
    after (.releaseLink qa) (serving (.releaseLink qa) (linked .held (some (pollFrom .directed 25)) State.reset))
      (fun t => (t.link.state, t.link.poll.map Poll.first)) = some (.header, some 25) := by decide +kernel

theorem test_missing_indication_at_the_limit :
    after (.resultWord (result 0x4000))
      (linked .exchange (some (pollFrom .directed 20))
        (withRecord 3 19 { level .serving with missRun := 2 } State.reset))
      (fun t => ((t.record 3 19).life, (t.record 3 19).cause, (t.record 3 19).revision))
      = some (.shorted, some .noIndication, 10) := by decide +kernel
theorem test_the_fourth_sample_closes_the_window :
    after (.resultWord (result 0x4828))
      (linked .exchange (some (pollFrom .directed 20))
        (withRecord 3 19 { level .serving with window := [40, 41, 42] } State.reset))
      (fun t => ((t.record 3 19).window, (t.record 3 19).mean)) = some ([], some 40) := by decide +kernel

theorem test_admit :
    answerA (.admitLevel qa 4 20 none none) (serving (.admitLevel qa 4 20 none none) State.reset)
      = some (.done, [0, 1]) := by decide +kernel
theorem test_retire_stale :
    answerA (.retire qa 4 20 .faulty (some 8))
      (serving (.retire qa 4 20 .faulty (some 8)) (withRecord 3 19 (level .serving) State.reset))
      = some (.stale, [0, 9]) := by decide +kernel
theorem test_amend_clear :
    after (.amendClear qa 4 20 none none none)
      (serving (.amendClear qa 4 20 none none none) (withRecord 3 19 { level .suspect with cause := some .deepTest }
        State.reset)) (fun t => (t.record 3 19).life) = some .serving := by decide +kernel

theorem test_lookups :
    answerA (.lookLevel qa 4 20) (serving (.lookLevel qa 4 20) State.reset)
      = some (.done, [4, 20, 0, 0, 0, 0, 0, 0, 0, 0, 0, 0, 0, 0, 0, 0, 0, 0]) ∧
    answerA (.lookSetting qa 0x13 0) (serving (.lookSetting qa 0x13 0) State.reset)
      = some (.done, [0x13, 0, 0, 50, 0, 50, 3, 132, 0, 50]) ∧
    answerA (.lookNotices qa) (serving (.lookNotices qa) State.reset) = some (.done, [2, 0, 3, 255, 1]) := by
  decide +kernel

theorem test_set_is_clamped_by_range :
    answerA (.setMissLimit qa 0) (serving (.setMissLimit qa 0) State.reset) = some (.badValue, []) ∧
    answerA (.setMissLimit qa 15) (serving (.setMissLimit qa 15) State.reset) = some (.done, []) := by decide +kernel

theorem test_order_clamps_alpha :
    answerA (.order qa { alpha := some 3599, role := some .inverter, leg := some 3, entries := entries 1 })
      (serving (.order qa { alpha := some 3599, role := some .inverter, leg := some 3, entries := entries 1 })
        State.reset) = some (.clamped, []) := by decide +kernel

theorem test_frame_of_look_valve_is_begun :
    after (.transfer .a (.whole [0x12, 7, 1, 5])) State.reset
      (fun t => (t.engine.busy, t.portA.state, begun (.lookValve qa 5) .a t)) = some (true, .working, true) := by
  decide +kernel
theorem test_not_in_authority :
    after (.transfer .b (.whole [0x33, 9, 0])) State.reset (fun t => t.portB.answer.map Answer.code)
      = some (some .notInAuthority) := by decide +kernel

/-- A burst of 9.9: bank 1 ends and bank 3 is next. -/
def burst : Vector BankLight 4 := #v[⟨0xFFFFFF, 3⟩, ⟨0, 3⟩, ⟨0x00FFFF, 6⟩, ⟨0x3FFFFF, 3⟩]

def lit (b : Bank) : Lane := { Lane.powerOn with state := .lit, composition := some burst, bank := some b, timer := 0 }

theorem test_gap_skips_a_dark_bank :
    after (.onTimeEnd 7) (State.reset.setLane 7 (lit 0)) (fun t => ((t.lane 7).state, (t.lane 7).bank))
      = some (.gap, some 2) := by decide +kernel
theorem test_the_last_bank_ends_the_burst :
    after (.onTimeEnd 7) (State.reset.setLane 7 (lit 3)) (fun t => (t.lane 7).state) = some .idle := by decide +kernel

/-! ### Hypotheses that states meet, statement by statement -/

/-- All valves FULL: no valve UNFIT. -/
def fit (s : State) : State := { s with tallies := Vector.replicate 12 { Tally.powerOn with grade := .full, top := 3 } }

/-- The BLOCK line high. -/
def blockHigh (s : State) : State := { s with lines := { s.lines with block := true } }

def porHeld : State := { State.reset with lines := { State.reset.lines with porLow := true } }

theorem meets_StepRunsFrontCommand :
    ({ State.reset with pending := [.swap qa, .swap qb] } : State).pending = .swap qa :: [.swap qb] := rfl

/-- An interval count at its limit, with a crossing in the queue or not. -/
def expiring (queue : List Instr) : State :=
  { State.reset with phase := { lockedAt 0 with interval := 940000 }, pending := queue }

theorem meets_EmptyQueueStepTakesTime :
    (porHeld.pending = [] ∧ porHeld.lines.porLow = true) ∧
    ((serving (.lookNotices qa) State.reset).pending = [] ∧
      readySteps (serving (.lookNotices qa) State.reset) = [.lookNotices qa]) ∧
    readySteps State.reset = [] ∧ readySteps (expiring []) = [.missedCrossing] ∧
    readySteps { expiring [] with phase := { (expiring []).phase with tick := 222 } } = [.missedCrossing, .phaseStepEvent]
    := by decide +kernel

/-- R90: a crossing taken first at the moment of the expiry ends an interval of 940,000, and the expiry does not occur. -/
theorem test_no_expiry_after_a_crossing_of_that_moment :
    after (.referenceCrossing 0) (expiring []) (fun t => (t.phase.saved, readySteps t)) = some (some 940000, []) := by
  decide +kernel

/-- A transfer in progress on Port A. -/
def transferring (found : PortState) (answer : Option Answer) (discard : Bool) (s : State) : State :=
  { s with portA := { s.portA with
      transfer := some { status := 0, found := found, answer := answer, discard := discard } } }

theorem meets_ControlResetKeepsTheTable :
    (transferring .idle none false State.reset).lines.porLow = false ∧
    (after .restartPulse (transferring .idle none false State.reset) fun t => t.portA.transfer.isSome) = some true ∧
    Executing (.restart qa) qa (serving (.restart qa) State.reset) := by unfold Executing; decide +kernel

theorem meets_NoticesAfterResets :
    (after .powerOnReset State.reset fun t => t.engine.busy) = some false ∧
    (after .restartPulse State.reset fun t => t.engine.busy) = some false ∧
    (Executing (.restart qa) qa (serving (.restart qa) State.reset) ∧
      (after (.restart qa) (serving (.restart qa) State.reset) fun t => t.engine.busy) = some false) := by
  unfold Executing; decide +kernel

theorem meets_BlockLineStopsTheConverter :
    (let s := conv .retarded (some .tripped) .rectifier 0
     s.lines.porLow = false ∧ s.lines.block = false ∧ isStopped s.seq.conv = false) ∧
    (let s := conv .tripped none .rectifier 0
     s.lines.porLow = false ∧ s.lines.block = false ∧ isStopped s.seq.conv = true) ∧
    (let s := serving (.deblock qa) (blockHigh (conv .blocked none .rectifier 0))
     Executing (.deblock qa) qa s ∧ s.seq.conv = .blocked ∧ s.lines.block = true) ∧
    (blockHigh (conv .running none .rectifier 0)).lines.block = true ∧
    (porHeld.lines.porLow = true ∧ porHeld.lines.block = false ∧ porHeld.lines.linefault = false) := by
  unfold Executing; decide +kernel

theorem meets_LineFaultAndRetard :
    (let s := conv .ramping none .rectifier 0
     s.lines.porLow = false ∧ s.lines.linefault = false ∧ s.seq.conv = .ramping) ∧
    (let s := conv .deionizing none .rectifier 0
     s.lines.porLow = false ∧ s.lines.linefault = false ∧ s.seq.conv ≠ .ramping ∧ s.seq.conv ≠ .running) ∧
    ({ State.reset with lines := { State.reset.lines with linefault := true } } : State).lines.linefault = true ∧
    Executing (.retard qa) qa (serving (.retard qa) (conv .running none .inverter 0)) ∧
    Executing (.retard qa) qa (serving (.retard qa) (conv .pending none .inverter 0)) := by unfold Executing; decide +kernel

/-- The engine, put to this request, executes it. -/
def runs (c : Instr) (s : State) : Bool :=
  match requestOf c with
  | some (q, _, _) => !(serving c s).lines.porLow && begun c q.port (serving c s)
  | none => false

theorem executing_of_runs (c : Instr) (s : State) (q : Sender) (kind : Byte) (payload : List Byte)
    (h : requestOf c = some (q, kind, payload)) (r : runs c s = true) : Executing c q (serving c s) := by
  simp only [runs, h, Bool.and_eq_true, Bool.not_eq_true'] at r
  exact r

theorem serving_same (c : Instr) (s : State) :
    (serving c s).seq = s.seq ∧ (serving c s).settings = s.settings ∧ (serving c s).phase = s.phase ∧
    (serving c s).link = s.link ∧ (serving c s).sources = s.sources ∧ (serving c s).tallies = s.tallies ∧
    (serving c s).table = s.table := by
  unfold serving
  split
  · rename_i q _ _ _
    rcases q with ⟨p, _⟩
    cases p <;> exact ⟨rfl, rfl, rfl, rfl, rfl, rfl, rfl⟩
  · exact ⟨rfl, rfl, rfl, rfl, rfl, rfl, rfl⟩

theorem sequencerOk_serving (c : Instr) (s : State) (h : SequencerOk s) : SequencerOk (serving c s) := by
  obtain ⟨h1, h2, -⟩ := serving_same c s
  cases h
  constructor <;> simp only [h1, h2] <;> assumption

theorem phaseOk_serving (c : Instr) (s : State) (h : PhaseOk s) : PhaseOk (serving c s) := by
  obtain ⟨-, -, h1, -⟩ := serving_same c s
  cases h
  constructor <;> simp only [h1] <;> assumption

theorem linkOk_serving (c : Instr) (s : State) (h : LinkOk s) : LinkOk (serving c s) := by
  obtain ⟨-, -, -, h1, h2, h3, -⟩ := serving_same c s
  cases h
  constructor <;> simp only [h1, h2, h3, State.tally] <;> assumption

theorem talliesOk_serving (c : Instr) (s : State) (h : TalliesOk s) : TalliesOk (serving c s) := by
  obtain ⟨-, h1, -, -, -, h2, h3⟩ := serving_same c s
  intro v
  have hv := h v
  simp only [State.tally, recounted, bankRecords, h1, h2, h3] at hv ⊢
  exact hv

theorem sequencer_in_order (c : Instr) :
    SequencerOk (serving c State.reset) ∧ SequencerOk (serving c (conv .running none .inverter 0)) ∧
    SequencerOk (serving c (blockHigh (conv .blocked none .rectifier 0))) ∧
    SequencerOk (serving c (conv .blocked none .rectifier 0)) ∧
    SequencerOk (serving c (fit (conv .blocked none .rectifier 0))) ∧
    SequencerOk (serving c { State.reset with phase := lockedAt 0 }) := by
  refine ⟨?_, ?_, ?_, ?_, ?_, ?_⟩ <;> refine sequencerOk_serving c _ ?_ <;> constructor <;> decide +kernel

theorem meets_DeblockAndBypass :
    (Executing (.deblock qa) qa (serving (.deblock qa) (conv .running none .inverter 0))) ∧
    (let s := serving (.deblock qa) (blockHigh (conv .blocked none .rectifier 0))
     Executing (.deblock qa) qa s ∧ s.seq.conv = .blocked ∧ s.lines.block = true) ∧
    (let s := serving (.deblock qa) State.reset
     Executing (.deblock qa) qa s ∧ s.seq.conv = .blocked ∧ s.lines.block = false ∧ s.phase.lock ≠ .locked) ∧
    (let s := serving (.deblock qa) { State.reset with phase := lockedAt 0 }
     Executing (.deblock qa) qa s ∧ s.phase.lock = .locked ∧ s.livePage.valid = false) ∧
    (let s := serving (.deblock qa) (conv .blocked none .rectifier 0)
     Executing (.deblock qa) qa s ∧ s.phase.lock = .locked ∧ s.livePage.valid = true ∧ 0 < unfitCount s) ∧
    (let s := serving (.deblock qa) (fit (conv .blocked none .rectifier 0))
     Executing (.deblock qa) qa s ∧ s.phase.lock = .locked ∧ s.livePage.valid = true ∧ unfitCount s = 0) ∧
    (let s := serving (.bypass qa) (conv .running none .inverter 0)
     Executing (.bypass qa) qa s ∧ s.seq.conv = .running ∧ s.livePage.role = .inverter) ∧
    (let s := serving (.bypass qa) (conv .running none .rectifier 0)
     Executing (.bypass qa) qa s ∧ s.livePage.role = .rectifier) ∧
    (let s := serving (.bypass qa) (conv .retarded (some .blocked) .inverter 0)
     Executing (.bypass qa) qa s ∧ s.seq.conv ≠ .ramping ∧ s.seq.conv ≠ .running) := by unfold Executing; decide +kernel

theorem meets_BlockRequestByState :
    ∀ x ∈ [(Conv.blocked, none, Role.rectifier), (.pending, none, .rectifier), (.deionizing, none, .rectifier),
        (.ramping, none, .rectifier), (.running, none, .inverter), (.retarded, some ExitTarget.deionizing, .rectifier),
        (.bypassing, some .blocked, .inverter), (.retarded, some .tripped, .rectifier), (.tripped, none, .rectifier)],
      let s := serving (.block qa) (conv x.1 x.2.1 x.2.2 0)
      (s.lines.porLow = false ∧ begun (.block qa) .a s = true) ∧ s.seq.conv = x.1 ∧ s.seq.exitTarget = x.2.1 ∧
        s.livePage.role = x.2.2 := by decide +kernel

theorem meets_ClearTripByState :
    (let s := serving (.clearTrip qa) (fit (conv .tripped none .rectifier 0))
     Executing (.clearTrip qa) qa s ∧ s.seq.conv = .tripped ∧ unfitCount s = 0) ∧
    (let s := serving (.clearTrip qa) (conv .tripped none .rectifier 0)
     Executing (.clearTrip qa) qa s ∧ s.seq.conv = .tripped ∧ 0 < unfitCount s) ∧
    (let s := serving (.clearTrip qa) (conv .blocked none .rectifier 0)
     Executing (.clearTrip qa) qa s ∧ s.seq.conv ≠ .tripped) := by unfold Executing; decide +kernel

/-- A chain with a pending correction. -/
def corrected (n : Int) (k : Nat) (s : State) : State :=
  { s with phase := { s.phase with correction := n, spacing := k } }

theorem phase_in_order (n : Int) (k : Nat) (hn : -50 ≤ n ∧ n ≤ 50) (hk : k ≤ 9) (c : Instr) :
    PhaseOk (serving c (corrected n k (conv .running none .rectifier 0))) ∧ PhaseOk (serving c State.reset) := by
  refine ⟨phaseOk_serving c _ ?_, phaseOk_serving c _ ?_⟩
  · constructor <;> simp [corrected, conv, lockedAt, Phase.afterReset, chainRuns, inAcceptedRange, hn, hk]
  · constructor <;> simp [State.reset, Phase.afterReset, chainRuns, inAcceptedRange]

theorem meets_TrimMovesTheCorrection :
    (let s := serving (.trim qa false false) (corrected 0 0 (conv .running none .rectifier 0))
     Executing (.trim qa false false) qa s) ∧
    (let s := serving (.trim qa true false) State.reset
     Executing (.trim qa true false) qa s ∧ chainRuns s.phase.lock = false) ∧
    (let s := serving (.trim qa true true) (corrected 0 0 (conv .running none .rectifier 0))
     Executing (.trim qa true true) qa s ∧ chainRuns s.phase.lock = true) ∧
    (∀ n ∈ [50, 49, -1], let s := serving (.trim qa true false) (corrected n 9 (conv .running none .rectifier 0))
     (s.lines.porLow = false ∧ begun (.trim qa true false) .a s = true) ∧ chainRuns s.phase.lock = true ∧
       s.phase.correction = n) ∧
    (∀ n ∈ [-50, -49, 1], let s := serving (.trim qa false true) (corrected n 9 (conv .running none .rectifier 0))
     (s.lines.porLow = false ∧ begun (.trim qa false true) .a s = true) ∧ chainRuns s.phase.lock = true ∧
       s.phase.correction = n) := by unfold Executing; decide +kernel

theorem meets_TripCausesByState :
    ∀ x ∈ [(Conv.ramping, none, Role.rectifier, false), (.running, none, .inverter, false),
        (.retarded, some ExitTarget.deionizing, .rectifier, false), (.bypassing, some .blocked, .inverter, false),
        (.deionizing, none, .rectifier, false), (.retarded, some .tripped, .rectifier, true),
        (.bypassing, some .tripped, .inverter, true), (.pending, none, .rectifier, false),
        (.blocked, none, .rectifier, false), (.tripped, none, .rectifier, true)],
      let s := conv x.1 x.2.1 x.2.2.1 0
      s.seq.conv = x.1 ∧ s.seq.exitTarget = x.2.1 ∧ s.livePage.role = x.2.2.1 ∧ s.seq.tripLatch = x.2.2.2 := by
  decide +kernel

theorem meets_PhaseStepMovesTheChain :
    (State.reset.lines.porLow = false ∧ State.reset.phase.counting = false) ∧
    (let s := corrected 5 8 (conv .running none .rectifier 3599)
     s.phase.counting = true ∧ s.phase.spacing < 9 ∧ s.phase.correction ≠ 0 ∧ 0 ∈ passedNext s.phase) ∧
    (let s := corrected 5 9 (conv .running none .rectifier 3598)
     chainRuns s.phase.lock = true ∧ 9 ≤ s.phase.spacing ∧ 0 < s.phase.correction ∧ 0 ∈ passedNext s.phase) ∧
    (let s := corrected (-5) 9 (conv .running none .rectifier 3599)
     chainRuns s.phase.lock = true ∧ 9 ≤ s.phase.spacing ∧ s.phase.correction < 0 ∧ 0 ∉ passedNext s.phase ∧
       s.phase.loaded = some 800000) ∧
    (let s := conv .running none .rectifier 3599
     let s1 := { s with phase := { s.phase with pendingLoad := true } }
     0 ∈ passedNext s1.phase ∧ s1.phase.pendingLoad = true ∧ s1.phase.saved = some 800000) := by decide +kernel

/-- All lines low and a step event that is no cycle start. -/
def stepReady (s : State) : Prop := s.lines.porLow = false ∧ s.phase.counting = true ∧ 0 ∉ passedNext s.phase

/-- All lines low and a step event that is a cycle start. -/
def cycleReady (s : State) : Prop := s.lines.porLow = false ∧ s.phase.counting = true ∧ 0 ∈ passedNext s.phase

theorem meets_FiringWindowsOpenFireClose :
    (stepReady (conv .ramping none .inverter 1399) ∧ (conv .ramping none .inverter 1399).seq.conv ≠ .bypassing) ∧
    stepReady (conv .retarded (some .blocked) .rectifier 1799) ∧
    (after .phaseStepEvent (conv .ramping none .inverter 1399) fun t => (t.seq.conv, t.seq.ramp)) = some (.ramping, 1400) ∧
    (after .phaseStepEvent (conv .running none .inverter 299) fun t => (t.seq.conv, t.seq.cfHold)) = some (.running, 0) ∧
    (after .phaseStepEvent failing fun t => t.seq.conv) = some .bypassing ∧
    (after .phaseStepEvent { failing with phase := lockedAt 298 } fun t => (t.seq.conv, t.seq.cfHold))
      = some (.running, 4) ∧
    (after .phaseStepEvent (conv .retarded (some .blocked) .rectifier 1799) fun t => t.seq.conv) = some .retarded ∧
    (after .phaseStepEvent (conv .blocked none .rectifier 1799) fun t => t.seq.conv) = some .blocked := by
  unfold stepReady; decide +kernel

theorem meets_FiringWindowsOpenFireClose_order : SequencerOk (conv .blocked none .rectifier 1799) := by
  constructor <;> decide +kernel

/-- R122, R126: a converter that becomes RAMPING at a cycle start opens the window of valve 1 at that step; R114: a
RUNNING one judges its windows by the page swapped in at that step. -/
theorem test_windows_at_a_cycle_start :
    (after .phaseStepEvent (conv .pending none .rectifier 3599) fun t => (t.seq.conv, t.seq.windows[(0 : Valve)]))
      = some (.ramping, .opened) ∧
    (let s := conv .running none .inverter 3599
     let s1 := { s with
       schedule := { s.schedule with pageB := { s.schedule.pageB with alpha := 300 }, swapPending := some .a },
       seq := { s.seq with windows := put s.seq.windows 11 .opened } }
     (after .phaseStepEvent s1 fun t => (t.livePage.alpha, t.seq.windows[(11 : Valve)])) = some (300, .fired)) := by
  decide +kernel

/-- A held cycle poll of valve 4. -/
def heldCycle : Poll := { pollFrom .cycle 20 with kind := .cycle }

theorem meets_CheckPointsJoinTheQueue :
    (let s := linked .held (some heldCycle) (fit (conv .running none .inverter 2699))
     s.phase.counting = true ∧ joining s = [3] ∧ s.link.state = .held ∧ s.link.poll = some heldCycle) ∧
    (let s := linked .exchange (some (pollFrom .directed 20)) (fit (conv .running none .inverter 2699))
     let s1 := { s with sources := { s.sources with cycleQueue := [3] } }
     s1.phase.counting = true ∧ requestRaised 3 s1 = true ∧ joining s1 = [] ∧ s1.link.state ≠ .held) ∧
    (let s := fit (conv .running none .inverter 2699)
     s.phase.counting = true ∧ joining s = [3] ∧ s.link.poll = none) := by decide +kernel

/-- A sweep poll of valve 4 in a link state, with its source's mark and the top position it needs. -/
def sweeping (l : LinkState) (cut : Bool) (n : Nat) (s : State) : State :=
  let t := linked l (some (pollFrom .sweep 23)) s
  { t with
      tallies := Vector.replicate 12 { Tally.powerOn with grade := .full, top := 96 },
      phase := lockedAt n, link := { t.link with cutPending := cut },
      sources := { t.sources with sweepInProgress := true } }

theorem link_in_order (l : LinkState) (cut : Bool) (n : Nat) (hl : l ≠ .idle)
    (hc : cut = true → l = .header ∨ l = .exchange) : LinkOk (sweeping l cut n State.reset) := by
  constructor
  case poll => intro _; rfl
  case idle => intro h; exact absurd h hl
  case timer => cases l <;> simp [sweeping, linked, isPolling]
  case hold => intro h; exact absurd h (by simp [sweeping, linked, State.reset, Link.powerOn])
  case cut => exact hc
  case cutSweep => intro _ p h; cases h; rfl
  case range => intro p h; cases h; decide
  case superseded => intro p h _; cases h; contradiction
  case sweepMark => rfl
  case headMark => rfl
  case sweepTop =>
    intro p h _
    cases h
    simp [sweeping, linked, State.tally, pollFrom]
  case tops => intro v; simp [sweeping, linked, State.tally]
  case cycleTop => intro v h; cases h
  case request => intro v h; cases h
  case remainder => intro v n h; cases h

theorem meets_CutRequestedByACycleRequest :
    (let s := sweeping .interval false 0 State.reset
     stepReady s ∧ joining s = [] ∧ s.link.poll = some (pollFrom .sweep 23)) ∧
    (∀ x ∈ [LinkState.header, .exchange, .interval, .held], let s := sweeping x false 2699 State.reset
     joining s ≠ [] ∧ s.settings.preEmption = true ∧ s.settings.sweepPriority < s.settings.cyclePriority ∧
       s.link.cutPending = false ∧ s.link.state = x) := by unfold stepReady; decide +kernel

theorem meets_RampingAndRunning :
    SequencerOk failing ∧
    (cycleReady failing ∧ failing.seq.conv = .running ∧ failing.settings.cfLimit ≤ (failuresCounted failing.seq).cfRun ∧
      failing.seq.lastFailure = some 5 ∧ failing.livePage.role = .inverter) ∧
    (let s := conv .ramping none .inverter 3599
     cycleReady s ∧ (failuresCounted s.seq).cfRun < s.settings.cfLimit ∧ s.seq.conv = .ramping ∧
       s.seq.ramp < s.livePage.alpha) ∧
    (let s := conv .ramping none .inverter 3599
     let s1 := { s with seq := { s.seq with ramp := 1520 } }
     cycleReady s1 ∧ s1.livePage.alpha ≤ s1.seq.ramp ∧ SequencerOk s1) ∧
    (∀ n ∈ [48, 49, 50], let s := conv .running none .inverter 3599
     let s1 := { s with seq := { s.seq with recovery := n } }
     s1.phase.counting = true ∧ s1.seq.conv = .running ∧ s1.seq.recovery = n ∧ s1.settings.recoveryCycles = 50) := by
  refine ⟨?_, ?_, ?_, ⟨?_, ?_, ?_⟩, ?_⟩
  · constructor <;> decide +kernel
  · unfold cycleReady; decide +kernel
  · unfold cycleReady; decide +kernel
  · unfold cycleReady; decide +kernel
  · decide +kernel
  · constructor <;> decide +kernel
  · decide +kernel

/-- A converter state with its counts and the attempts used. -/
def counted (c : Conv) (x : Option ExitTarget) (n attempts : Nat) : State :=
  let s := conv c x .inverter 3599
  { s with seq := { s.seq with retardCount := n, bypassCount := n, deionCount := n, attempts := attempts } }

/-- A converter just stopped by an unfit entry (R134). -/
def tripped (c : Conv) : State :=
  let s := counted c (some .tripped) 0 0
  { s with seq := { s.seq with freshTrip := true } }

theorem meets_StagesEndAtACycleStart :
    (∀ x ∈ [(Conv.pending, none, 0, 0), (.retarded, some ExitTarget.deionizing, 0, 0),
        (.retarded, some .deionizing, 1, 0), (.retarded, some .blocked, 1, 0), (.retarded, some .tripped, 1, 0),
        (.bypassing, some .blocked, 1, 0), (.bypassing, some .blocked, 2, 0), (.bypassing, some .tripped, 2, 0),
        (.deionizing, none, 8, 0), (.deionizing, none, 9, 2), (.deionizing, none, 9, 1), (.blocked, none, 0, 0)],
      let s := counted x.1 x.2.1 x.2.2.1 x.2.2.2
      (s.lines.porLow = false ∧ s.phase.counting = true ∧ 0 ∈ passedNext s.phase) ∧ s.seq.conv = x.1 ∧
        s.seq.exitTarget = x.2.1) ∧
    0 < unfitCount (counted .deionizing none 9 1) ∧ unfitCount (fit (counted .deionizing none 9 1)) = 0 ∧
    SequencerOk (counted .deionizing none 9 2) ∧ SequencerOk (counted .retarded (some .tripped) 1 0) ∧
    SequencerOk (tripped .retarded) ∧ SequencerOk (tripped .bypassing) := by
  refine ⟨by decide +kernel, by decide +kernel, by decide +kernel, ?_, ?_, ?_, ?_⟩ <;> constructor <;> decide +kernel

/-- R134, entry first: the cycle start that comes together with the unfit entry is not counted, the next one is. -/
theorem test_unfit_entry_before_a_cycle_start :
    (let t := stepEvent (unfitEntry 5 .evidence (conv .running none .rectifier 3599))
     t.seq.conv = .retarded ∧ t.seq.retardCount = 0 ∧ t.seq.freshTrip = false) ∧
    (let t := stepEvent (settleTrip (unfitEntry 5 .evidence (conv .running none .rectifier 3599)))
     t.seq.conv = .retarded ∧ t.seq.retardCount = 1) := by decide +kernel

theorem meets_BypassOccasionsRequestBursts :
    (let s := conv .bypassing (some .blocked) .inverter 3599
     let s1 := { s with seq := { s.seq with bypassEntry := true } }
     s1.phase.counting = true ∧ s1.seq.conv = .bypassing ∧ s1.seq.bypassCount + 1 < s1.settings.bypassCycles) ∧
    (let s := conv .bypassing (some .tripped) .inverter 3599
     let s1 := { s with seq := { s.seq with bypassCount := 2, bypassEntry := true, freshTrip := true } }
     s1.lines.porLow = false ∧ s1.phase.counting = true ∧ s1.seq.conv = .bypassing ∧ 0 ∈ passedNext s1.phase ∧
       s1.settings.bypassCycles ≤ s1.seq.bypassCount + 1 ∧ s1.seq.freshTrip = true ∧
       (stepEvent s1).seq.conv = .bypassing ∧ (stepEvent s1).seq.bypassCount = 2) ∧
    (∀ n ∈ [298, 299], let s := conv .bypassing (some .blocked) .inverter 10
     let s1 := { s with seq := { s.seq with bypassSpacing := n } }
     s1.phase.counting = true ∧ 0 ∉ passedNext s1.phase ∧ s1.seq.bypassEntry = false ∧
       s1.seq.bypassSpacing + (passedNext s1.phase).length = n + 1) := by decide +kernel

theorem meets_SweepOccasionsMoveTheCursor :
    (let s := conv .blocked none .rectifier 3599
     cycleReady { s with settings := { s.settings with sweepEnable := false } }) ∧
    (∀ n ∈ [8, 9], let s := conv .blocked none .rectifier 3599
     let s1 := { s with sources := { s.sources with sweepTimer := n } }
     s1.phase.counting = true ∧ 0 ∈ passedNext s1.phase ∧ s1.settings.sweepEnable = true ∧
       s1.settings.sweepInterval = 10 ∧ sweepValve s1 = none) ∧
    (let s := fit (conv .blocked none .rectifier 3599)
     s.sources.sweepRequest = none ∧ s.sources.sweepInProgress = false ∧ s.sources.remainder = none ∧
       sweepValve s = some 11) := by unfold cycleReady; decide +kernel

/-- The Phase Unit in a lock state, its interval marked by a crossing. -/
def phased (l : Lock) (mark : IntervalMark) (good hold : Nat) (n : Nat) : State :=
  { State.reset with phase := { lockedAt n with lock := l, mark := mark, good := good, hold := hold,
                                                prevAccepted := some 800000 } }

theorem meets_AcquisitionToTheLock :
    (∀ l ∈ [Lock.unlocked, .acquiring, .locked, .disturbed, .holding, .lost],
      940000 < (phased l .crossing 0 0 0).phase.interval + 940001 ∧
      (phased l .crossing 0 0 0).phase.interval + 940000 ≤ 940000) ∧
    (phased .lost .missed 0 0 0).phase.lock = .lost ∧ State.reset.phase.lock = .unlocked ∧
    (∀ n ∈ [560000, 940000], (phased .acquiring .crossing 2 0 0).phase.mark = .crossing ∧
      560000 ≤ (phased .acquiring .crossing 2 0 0).phase.interval + n ∧
      (phased .acquiring .crossing 2 0 0).phase.interval + n ≤ 940000) ∧
    (∀ n ∈ [0, 559999], ¬ (560000 ≤ (phased .acquiring .crossing 2 0 0).phase.interval + n ∧
      (phased .acquiring .crossing 2 0 0).phase.interval + n ≤ 940000)) ∧
    (phased .acquiring .missed 2 0 0).phase.mark = .missed := by decide +kernel

theorem meets_LockedAndDisturbed :
    (∀ l ∈ [Lock.locked, .disturbed], ∀ n ∈ [0, 2, 3, 30, 31, 40, 41, 3559, 3560],
      let s := phased l .crossing 1 0 n
      s.lines.porLow = false ∧ s.phase.lock = l ∧ s.phase.mark = .crossing ∧ s.phase.interval + 800000 = 800000) ∧
    (phaseError (lockedAt 40) 0).natAbs ≤ threshold 1 ∧ threshold 1 < (phaseError (lockedAt 41) 0).natAbs ∧
    (phaseError (lockedAt 30) 0).natAbs ≤ relockLimit 1 ∧ relockLimit 1 < (phaseError (lockedAt 31) 0).natAbs ∧
    (phased .disturbed .crossing 0 0 0).phase.good = 0 ∧ (phased .locked .missed 0 0 0).phase.mark = .missed := by
  decide +kernel

theorem meets_HoldingAndLoss :
    (let s := phased .holding .missed 0 4 0
     s.phase.lock = .holding ∧ s.phase.hold + 1 ≤ s.settings.holdLimit ∧ s.phase.hold + 1 ≤ 16) ∧
    (let s := { conv .running none .inverter 0 with phase := (phased .holding .missed 0 5 0).phase }
     s.lines.porLow = false ∧ s.phase.lock = .holding ∧ s.settings.holdLimit < s.phase.hold + 1 ∧
       isStopped s.seq.conv = false ∧ s.schedule.swapPending = none) ∧
    (let s := phased .holding .missed 0 5 0
     s.settings.holdLimit < s.phase.hold + 1 ∧ isStopped s.seq.conv = true) := by decide +kernel

/-- A directed entry of positions 20 to 27 of valve 4. -/
def entry : DirectedEntry := { valve := 3, first := 20, count := 8, origin := .request, inProgress := false }

/-- Sources with something pending. -/
def pendingSources (cycle : List Valve) (directed : List DirectedEntry) (request : Option Valve)
    (remainder : Option (Valve × Nat)) : State :=
  { State.reset with sources := { Sources.afterReset with
      cycleQueue := cycle, directed := directed, sweepRequest := request, remainder := remainder } }

theorem meets_ArbiterPollStart :
    (linked .held none State.reset).link.state ≠ .idle ∧
    (∀ x ∈ [PollSource.cycle, .directed, .sweep], sourcePending State.reset x = false) ∧
    (let s := pendingSources [3] [entry] (some 5) none
     s.link.state = .idle ∧ sourcePending s .cycle = true ∧ s.sources.cycleQueue = [3] ∧
       sourcePriority s.settings .directed < sourcePriority s.settings .cycle ∧
       sourcePriority s.settings .sweep < sourcePriority s.settings .cycle) ∧
    (let s := pendingSources [3] [entry] (some 5) none
     let s1 := { s with settings := { s.settings with cyclePriority := 2, directedPriority := 2, sweepPriority := 2 } }
     (∀ x ∈ [PollSource.cycle, .directed, .sweep], sourcePending s1 x = true ∧ sourcePriority s1.settings x = 2) ∧
       sourceRank .cycle < sourceRank .directed ∧ sourceRank .directed < sourceRank .sweep) ∧
    (let s := pendingSources [] [entry] (some 5) none
     sourcePending s .directed = true ∧ sourcePending s .cycle = false ∧
       sourcePriority s.settings .sweep < sourcePriority s.settings .directed) ∧
    (let s := pendingSources [] [] (some 5) (some (3, 23))
     sourcePending s .sweep = true ∧ sourcePending s .directed = false ∧ s.sources.remainder = some (3, 23)) ∧
    (let s := pendingSources [] [] (some 5) none
     sourcePending s .sweep = true ∧ s.sources.remainder = none ∧ s.sources.sweepRequest = some 5) := by decide +kernel

theorem test_words_of_frames : [(0x0015 : Word16), 0x0034, 0x0014, 0x0004, 0xB900, 0xA900, 0xBB00].all (fun w =>
    isReplyHeader (header w) && isResultWord (result w) && frameWord (header w) == w && frameWord (result w) == w)
      = true := by decide +kernel

theorem meets_ReplyHeaderInHeader :
    (let s := linked .header (some (pollFrom .directed 20)) State.reset
     s.link.state = .header ∧ s.link.poll = some (pollFrom .directed 20) ∧ (0x0015 : Word16).toNat % 16 ≠ 4 ∧
       (0x0034 : Word16).toNat % 16 = 4 ∧ (0x0034 : Word16).getLsbD 5 = true ∧ s.link.vmuFault[(3 : Valve)] = false) ∧
    (let s := sweeping .header true 0 State.reset
     s.link.cutPending = true ∧ s.link.holdPending = none) ∧
    (let s := linked .header (some heldCycle) (conv .running none .inverter 0)
     heldCycle.source = .cycle ∧ (0x0004 : Word16).getLsbD 4 = false ∧ s.seq.conv = .running ∧
       s.livePage.role = .inverter) := by decide +kernel

/-- The link in EXCHANGE with a hold pending. -/
def holding (p : Poll) (s : State) : State :=
  { linked .exchange (some p) s with link := { (linked .exchange (some p) s).link with holdPending := some .b } }

theorem meets_ResultWordInExchange :
    (let s := linked .exchange (some (pollFrom .directed 27)) State.reset
     s.link.state = .exchange ∧ s.link.poll = some (pollFrom .directed 27) ∧ positionNumber 26 = 27) ∧
    ((0xB900 : Word16).toNat / 4096 = 27 % 16 ∧ (0xB900 : Word16).toNat / 256 % 4 = 1) ∧
    (0xA900 : Word16).toNat / 4096 ≠ 27 % 16 ∧ (0xBB00 : Word16).toNat / 256 % 4 = 3 ∧
    (let s := sweeping .exchange true 0 State.reset
     s.link.cutPending = true ∧ (pollFrom .sweep 23).next < (pollFrom .sweep 23).last) ∧
    (let s := holding (pollFrom .directed 23) State.reset
     s.link.cutPending = false ∧ s.link.holdPending = some .b) ∧
    (let s := linked .exchange (some (pollFrom .directed 23)) State.reset
     s.link.cutPending = false ∧ s.link.holdPending = none) := by decide +kernel

theorem meets_PollEndAtItsSource :
    (pollFrom .cycle 20).source = .cycle ∧ (pollFrom .directed 20).source = .directed ∧
    (pollFrom .sweep 20).valve ≠ Sources.afterReset.cursor ∧
    (let s := fit State.reset
     let s1 := { s with sources := { s.sources with cursor := 3 } }
     (pollFrom .sweep 20).valve = s1.sources.cursor ∧ nextCursor 3 s1 = some 2) := by decide +kernel

theorem meets_LinkTimersEndOrAbort :
    (let s := linked .interval (some (pollFrom .directed 20)) State.reset
     s.lines.porLow = false ∧ s.link.state = .interval ∧ s.link.state ≠ .header ∧ s.link.state ≠ .exchange) ∧
    (State.reset.link.state ≠ .interval ∧ State.reset.link.failures ≠ 7) ∧
    (let s := linked .header (some (pollFrom .directed 20)) State.reset
     let s1 := { s with link := { s.link with failures := 7 } }
     s1.link.state = .header ∧ s1.link.failures = 7) ∧
    (let s := holding (pollFrom .directed 20) State.reset
     s.link.state = .exchange ∧ s.link.poll = some (pollFrom .directed 20) ∧ s.link.failures ≠ 7) := by decide +kernel

theorem meets_CutAndHoldAtTheAwaitedWord :
    (LinkOk (sweeping .header true 0 State.reset) ∧ LinkOk (sweeping .exchange true 0 State.reset)) ∧
    (let s := sweeping .header true 0 State.reset
     s.link.cutPending = true ∧ s.link.state = .header ∧ (0x0014 : Word16).toNat % 16 = 4) ∧
    (let s := sweeping .exchange true 0 State.reset
     s.link.state = .exchange ∧ (pollFrom .sweep 23).next < (pollFrom .sweep 23).last) ∧
    State.reset.link.cutPending = false ∧ State.reset.link.holdPending = none ∧
    (let s := holding (pollFrom .directed 23) State.reset
     s.lines.porLow = false ∧ s.link.holdPending.isSome = true ∧ s.link.poll = some (pollFrom .directed 23)) :=
  ⟨⟨link_in_order _ _ _ (by decide) (by decide), link_in_order _ _ _ (by decide) (by decide)⟩, by decide +kernel⟩

theorem meets_UnawaitedWordIsAnOverrun :
    State.reset.lines.porLow = false ∧ (linked .header none State.reset).link.state ≠ .exchange ∧
    isResultWord (result 0xB900) = true ∧ (linked .exchange none State.reset).link.state ≠ .header ∧
    isReplyHeader (header 0x0015) = true := by decide +kernel

theorem meets_LinkFramesCheckTheirParity : frameOk (header 0x0013 ^^^ 2) = false ∧ State.reset.lines.porLow = false := by
  decide

/-- A sweep poll in EXCHANGE with a hold pending. -/
def waitingHold : State :=
  let s := sweeping .exchange false 0 State.reset
  { s with link := { s.link with holdPending := some .b } }

theorem link_in_order_waiting : LinkOk waitingHold := by
  have h := link_in_order .exchange false 0 (by decide) (by decide)
  exact { h with hold := fun _ => rfl }

theorem meets_HoldAndReleaseTheLink_order (c : Instr) :
    LinkOk (serving c State.reset) ∧ (∀ l, l ≠ .idle → LinkOk (serving c (sweeping l false 0 State.reset))) ∧
    LinkOk (serving c (sweeping .header true 0 State.reset)) ∧ LinkOk (serving c waitingHold) := by
  refine ⟨linkOk_serving c _ ?_, fun l hl => linkOk_serving c _ (link_in_order l false 0 hl (by simp)),
    linkOk_serving c _ (link_in_order _ _ _ (by decide) (by decide)), linkOk_serving c _ link_in_order_waiting⟩
  constructor <;>
    first | decide +kernel | (intro p n h; simp [State.reset, Sources.afterReset] at h)

theorem meets_HoldAndReleaseTheLink :
    (∀ x ∈ [LinkState.interval, .header, .exchange, .held],
      let s := serving (.holdLink qa) (sweeping x false 0 State.reset)
      (s.lines.porLow = false ∧ begun (.holdLink qa) .a s = true) ∧ s.link.state = x ∧ s.link.cutPending = false ∧
        s.link.holdPending = none) ∧
    (let s := serving (.holdLink qa) State.reset
     Executing (.holdLink qa) qa s ∧ s.link.state = .idle) ∧
    (let s := serving (.holdLink qa) (sweeping .header true 0 State.reset)
     Executing (.holdLink qa) qa s ∧ s.link.state = .header ∧ s.link.cutPending = true) ∧
    (let s := serving (.holdLink qa) waitingHold
     Executing (.holdLink qa) qa s ∧ s.link.holdPending.isSome = true) ∧
    (let s := serving (.releaseLink qa) State.reset
     Executing (.releaseLink qa) qa s ∧ s.link.state ≠ .held) ∧
    (let s := serving (.releaseLink qa) (linked .held none State.reset)
     Executing (.releaseLink qa) qa s ∧ s.link.state = .held ∧ s.link.poll = none) ∧
    (let s := serving (.releaseLink qa) (linked .held (some { heldCycle with superseded := true }) State.reset)
     Executing (.releaseLink qa) qa s ∧ s.link.poll = some { heldCycle with superseded := true }) ∧
    (let s := serving (.releaseLink qa) (linked .held (some heldCycle) State.reset)
     Executing (.releaseLink qa) qa s ∧ heldCycle.superseded = false) := by unfold Executing; decide +kernel

theorem meets_IgnoredAndMissingResults :
    (∀ l ∈ [Life.empty, .shorted, .dark, .retired], (withRecord 3 19 (level l) State.reset).record 3 19 = level l) ∧
    (∀ n ∈ [1, 2, 15], let s := withRecord 3 19 { level .suspect with missRun := n } State.reset
     isMonitored (s.record 3 19).life = true ∧ (s.record 3 19).missRun = n ∧ s.settings.missLimit = 3) := by
  decide +kernel

theorem meets_ProtectiveFiringByLifeState :
    (∀ l ∈ [Life.proving, .serving, .suspect], ∀ n ∈ [2, 3, 15],
      let s := withRecord 3 19 { level l with pfRun := n } State.reset
      isMonitored (s.record 3 19).life = true ∧ (s.record 3 19).life = l ∧ (s.record 3 19).pfRun = n ∧
        s.settings.darkLimit = 4) ∧
    State.reset.sources.directed.length < 4 ∧
    4 ≤ (pendingSources [] [entry, entry, entry, entry] none none).sources.directed.length := by decide +kernel

theorem meets_CleanResultByLifeState :
    ∀ l ∈ [Life.proving, .serving, .suspect], ∀ n ∈ [2, 3, 6, 7],
      let s := withRecord 3 19 { level l with progress := n, window := [20, 20, 20] } State.reset
      isMonitored (s.record 3 19).life = true ∧ (s.record 3 19).window.length ≤ 3 ∧ (s.record 3 19).life = l ∧
        (s.record 3 19).progress = n ∧ s.settings.clearCount = 4 ∧ s.settings.provingCount = 8 := by decide +kernel

/-- A result without indication for position 20 of valve 4. -/
def noIndication : Result :=
  { valve := 3, position := 19, kind := .deep, present := false, protective := false, deep := .notRun, delay := 0 }

theorem tallies_in_order (c : Instr) :
    TalliesOk (serving c State.reset) ∧ TalliesOk (serving c (withRecord 3 19 (level .serving) State.reset)) ∧
    TalliesOk (serving c (withRecord 3 19 (level .suspect) State.reset)) ∧
    TalliesOk (serving c (withRecord 3 19 (level .dark) State.reset)) := by
  refine ⟨?_, ?_, ?_, ?_⟩ <;> refine talliesOk_serving c _ ?_ <;> unfold TalliesOk <;> decide +kernel

theorem test_grades_at_their_bounds :
    gradeOf 3 0 4 2 = .unfit ∧ gradeOf 4 1 4 2 = .marginal ∧ gradeOf 5 0 4 2 = .marginal ∧ gradeOf 6 1 4 2 = .reduced ∧
    gradeOf 6 0 4 2 = .full ∧ gradeOf 4 0 4 0 = .full := by decide

theorem meets_VerdictConsequences :
    TalliesOk (withRecord 3 19 { level .serving with missRun := 2 } State.reset) ∧
    (let s := withRecord 3 19 { level .serving with missRun := 2 } State.reset
     (s.tally 3).grade = .full ∧ ((applyResult noIndication s).tally 3).grade = .unfit) := by
  refine ⟨?_, ?_⟩
  · unfold TalliesOk; decide +kernel
  · decide +kernel

/-- The converter RUNNING over some state: MARGIN is checked. -/
def runningOver (s : State) : State := { s with seq := { s.seq with conv := .running } }

/-- A spread limit. -/
def limited (n : Nat) (s : State) : State := { s with settings := { s.settings with spreadLimit := n } }

theorem meets_AdmitMakesTheRecordProving_keys :
    (runs (.admitLevel qa 0 1 none none) State.reset && runs (.admitLevel qa 1 97 none none) State.reset) = true ∧
    valveOf? 0 = none ∧ positionOf? (97 : Byte).toNat = none := by decide +kernel

theorem meets_AdmitMakesTheRecordProving_value :
    runs (.admitLevel qa 12 96 (some .long) (some 0)) State.reset = true ∧ valveOf? 12 = some 11 ∧
    positionOf? (96 : Byte).toNat = some 95 := by decide +kernel

theorem meets_AdmitMakesTheRecordProving_state :
    runs (.admitLevel qa 4 20 none none) (withRecord 3 19 (level .serving) State.reset) = true ∧
    ((withRecord 3 19 (level .serving) State.reset).record 3 19).life = .serving := by decide +kernel

theorem meets_AdmitMakesTheRecordProving_spread :
    runs (.admitLevel qa 4 20 none (some 5)) (limited 2 State.reset) = true ∧
    runs (.admitLevel qa 4 20 none (some 5)) (limited 3 State.reset) = true ∧
    (State.reset.record 3 19).life = .empty ∧
    spreadWith 3 19 { level .proving with revision := 1, unitTag := some 5 } State.reset = 3 := by decide +kernel

theorem meets_AmendByItsAction :
    (let c := Instr.amendClear qa 13 1 none none none
     Executing c qa (serving c State.reset) ∧ valveOf? 13 = none) ∧
    (let c := Instr.amendReprove qa 4 20 none none (some 8)
     let s := serving c (withRecord 3 19 (level .suspect) State.reset)
     Executing c qa s ∧ (8 : Word16) ≠ (s.record 3 19).revision) ∧
    (let c := Instr.amend qa 4 20 (some .long) none (some 9)
     let s := serving c State.reset
     Executing c qa s ∧ (s.record 3 19).life = .empty) ∧
    (∀ n ∈ [5, 6], let c := Instr.amend qa 4 20 (some .long) none (some 9)
     let s := serving c (limited n (withRecord 3 19 (level .serving) State.reset))
     begun c .a s = true ∧ some (9 : Word16) = some (s.record 3 19).revision ∧
       spreadWith 3 19 (amended (some .long) none (s.record 3 19)) s = 6) ∧
    (let c := Instr.amendClear qa 4 20 none none none
     let s := serving c (withRecord 3 19 (level .serving) State.reset)
     Executing c qa s ∧ (s.record 3 19).life ≠ .suspect) ∧
    (let c := Instr.amendClear qa 4 20 none (some 0) none
     let s := serving c (withRecord 3 19 (level .suspect) State.reset)
     Executing c qa s ∧ (s.record 3 19).life = .suspect) ∧
    (let c := Instr.amendReprove qa 4 20 none none none
     let s := serving c (withRecord 3 19 (level .serving) State.reset)
     Executing c qa s ∧ (s.record 3 19).life = .serving) ∧
    (let c := Instr.amendReprove qa 4 20 none none none
     let s := serving c (runningOver (withRecord 3 19 (level .suspect) State.reset))
     Executing c qa s ∧ (s.record 3 19).life = .suspect ∧ marginRefuses 3 s = true) ∧
    (let c := Instr.amendReprove qa 4 20 none none none
     let s := serving c (withRecord 3 19 (level .dark) State.reset)
     Executing c qa s ∧ (s.record 3 19).life = .dark ∧ marginRefuses 3 s = false) := by unfold Executing; decide +kernel

theorem meets_RetireKeepsTheEvidence :
    (let c := Instr.retire qa 1 97 .other none
     Executing c qa (serving c State.reset) ∧ positionOf? (97 : Byte).toNat = none) ∧
    (let c := Instr.retire qa 4 20 .other (some 8)
     let s := serving c (withRecord 3 19 (level .serving) State.reset)
     Executing c qa s ∧ (8 : Word16) ≠ (s.record 3 19).revision) ∧
    (let c := Instr.retire qa 4 20 .other none
     Executing c qa (serving c State.reset) ∧ ((serving c State.reset).record 3 19).life = .empty) ∧
    (let c := Instr.retire qa 4 20 .other (some 9)
     let s := serving c (runningOver (withRecord 3 19 (level .serving) State.reset))
     Executing c qa s ∧ isSound (s.record 3 19).life = true ∧ marginRefuses 3 s = true) ∧
    (let c := Instr.retire qa 4 20 .other (some 9)
     let s := serving c (withRecord 3 19 (level .serving) State.reset)
     Executing c qa s ∧ marginRefuses 3 s = false) := by unfold Executing; decide +kernel

theorem meets_CheckJoinsTheDirectedQueue_values :
    ([Instr.check qa 1 1 0, .check qa 1 1 9, .check qa 0 1 1, .check qa 1 0 1, .check qa 1 90 8, .check qa 12 89 8,
      .check qa 1 96 1].all fun c => runs c State.reset) = true := by decide +kernel

theorem meets_CheckJoinsTheDirectedQueue_range :
    (89 : Byte).toNat + (8 : Byte).toNat ≤ 97 ∧ 97 < (90 : Byte).toNat + (8 : Byte).toNat := by decide

theorem meets_CheckJoinsTheDirectedQueue_full :
    runs (.check qa 4 20 8) (pendingSources [] [entry, entry, entry, entry] none none) = true ∧
    4 ≤ (pendingSources [] [entry, entry, entry, entry] none none).sources.directed.length := by decide +kernel

/-- An ORDER. -/
def orderOf (valve trim leg : Byte) (alpha : Word16) (role : Option Role) : Instr :=
  .order qa { alpha := some alpha, role := role, leg := some leg,
              entries := [{ valve := valve, trim := trim, pair := true }] }

/-- A swap pending from Port B. -/
def swapping (s : State) : State := { s with schedule := { s.schedule with swapPending := some .b } }

theorem meets_OrderWritesTheStagedPage_fields :
    ([orderOf 0 0 1 60 none, orderOf 13 0 1 60 none, orderOf 12 21 1 60 none, orderOf 12 0xEB 1 60 none,
      orderOf 12 0 0 60 none, orderOf 12 0 4 60 none, orderOf 12 0 1 3600 none, orderOf 12 20 3 3599 none,
      orderOf 12 0xEC 1 0 none].all fun c => runs c State.reset) = true := by decide +kernel

theorem meets_OrderWritesTheStagedPage_pending :
    runs (orderOf 1 20 3 1600 none) (swapping State.reset) = true ∧
    (swapping State.reset).schedule.swapPending.isSome = true := by decide +kernel

theorem meets_OrderWritesTheStagedPage_role :
    runs (orderOf 1 20 3 1600 (some .inverter)) (conv .running none .rectifier 0) = true ∧
    (conv .running none .rectifier 0).livePage.role = .rectifier ∧
    isStopped (conv .running none .rectifier 0).seq.conv = false := by decide +kernel

theorem meets_OrderWritesTheStagedPage_taken :
    runs (orderOf 1 20 3 1601 (some .inverter)) (conv .blocked none .rectifier 0) = true ∧
    isStopped (conv .blocked none .rectifier 0).seq.conv = true ∧
    (conv .blocked none .rectifier 0).schedule.swapPending = none := by decide +kernel

/-- The staged page in a role. -/
def staged (r : Role) (s : State) : State := { s with schedule := { s.schedule with pageB := page r } }

theorem meets_SwapMadeOrWaiting_refused :
    (runs (.swap qa) (swapping (conv .running none .inverter 0)) && runs (.swap qa) State.reset
      && runs (.swap qa) (staged .inverter (conv .running none .rectifier 0))) = true ∧
    State.reset.stagedPage.valid = false ∧
    (staged .inverter (conv .running none .rectifier 0)).stagedPage.role = .inverter := by decide +kernel

theorem meets_SwapMadeOrWaiting_taken :
    (runs (.swap qa) (staged .inverter (conv .blocked none .rectifier 0))
      && runs (.swap qa) { conv .blocked none .rectifier 0 with phase := Phase.afterReset }
      && runs (.swap qa) (conv .running none .inverter 0)) = true ∧
    (conv .running none .inverter 0).stagedPage.role = (conv .running none .inverter 0).livePage.role ∧
    chainRuns (conv .running none .inverter 0).phase.lock = true := by decide +kernel

theorem meets_SwapMadeOrWaiting_pending :
    cycleReady (swapping (conv .running none .inverter 3599)) ∧
    (swapping (conv .running none .inverter 3599)).schedule.swapPending = some .b ∧
    stepReady (swapping (conv .running none .inverter 0)) := by unfold cycleReady stepReady; decide +kernel

theorem meets_SwapMadeOrWaiting_lost :
    (let s := { swapping (conv .running none .inverter 0) with phase := (phased .holding .missed 0 5 0).phase }
     chainRuns s.phase.lock = true ∧ s.phase.lock = .holding ∧ s.settings.holdLimit < s.phase.hold + 1) := by
  decide +kernel

theorem meets_SetChecksAndStores_key :
    setCommand qa 13 0 .reserve = .setReserve qa 13 0 ∧ runs (.setReserve qa 13 0) State.reset = true ∧
    valveOf? 13 = none := by decide +kernel

theorem meets_SetChecksAndStores_state :
    runs (.setSpreadLimit qa 10) (conv .running none .inverter 0) = true ∧ Setting.spreadLimit.anyTime = false ∧
    isStopped (conv .running none .inverter 0).seq.conv = false := by decide +kernel

theorem meets_SetChecksAndStores_values :
    ([Instr.setMissLimit qa 1, .setMissLimit qa 2, .setMissLimit qa 15, .setMissLimit qa 16, .setWindowLow qa 119,
      .setWindowLow qa 120, .setWindowHigh qa 20, .setWindowHigh qa 21, .setStandardOnTime qa 6,
      .setStandardOnTime qa 7, .setLongOnTime qa 2, .setLongOnTime qa 3, .setSweepEnable qa 0, .setAlphaMin qa 900,
      .setReferenceOffset qa 3599].all fun c => runs c State.reset) = true ∧ Setting.missLimit.range = (2, 15) := by
  decide +kernel

theorem meets_SetChecksAndStores_pending :
    runs (.setAlphaMin qa 900) (swapping State.reset) = true ∧
    runs (.setReferenceOffset qa 3599) (conv .blocked none .rectifier 0) = true ∧
    runs (.setReferenceOffset qa 3599) (swapping (conv .blocked none .rectifier 0)) = true ∧
    chainRuns (conv .blocked none .rectifier 0).phase.lock = true := by decide +kernel

theorem meets_SetChecksAndStores_grade :
    runs (.setReserve qa 4 2) (withRecord 3 19 (level .serving) State.reset) = true ∧
    gradeOf 1 0 1 2 ≠ ((withRecord 3 19 (level .serving) State.reset).tally 3).grade := by decide +kernel

theorem meets_SetChecksAndStores_spread :
    runs (.setLongOnTime qa 4) (limited 4 (withRecord 3 19 { level .serving with emitClass := .long } State.reset)) = true ∧
    runs (.setSpreadLimit qa 10) State.reset = true := by decide +kernel

theorem meets_LookupsAnswerTheirImages :
    (∀ c ∈ [Instr.lookLevel qa 0 1, .lookLevel qa 12 96, .lookLevels qa 1 1 0, .lookLevels qa 1 1 9, .lookLevels qa 1 90 8,
        .lookLevels qa 12 89 8, .lookValve qa 13, .lookValve qa 12, .lookConverter qa, .lookPage qa 0, .lookPage qa 1,
        .lookPage qa 2, .lookSetting qa 0x22 1, .lookSetting qa 0x07 13, .lookSetting qa 0x07 12, .lookSetting qa 0x01 0,
        .lookNotices qa],
      (serving c State.reset).lines.porLow = false ∧ begun c .a (serving c State.reset) = true) ∧
    settingOf? 0x22 = none ∧ settingOf? 0x07 = some .minimumSound ∧ settingOf? 0x01 = some .missLimit := by decide +kernel

/-- A LOOK CONVERTER under execution that has the parts of a state but for some. -/
def looking (from_ : State) (but : List (Fin 6)) (taken : Bool) (s : State) : State :=
  { serving (.lookConverter qa) s with building :=
      { parts := Vector.ofFn fun k => if k ∈ but then none else some (converterPart k from_), taken := taken } }

/-- Lane 8 is in STOPPING. -/
def stopping : State := State.reset.setLane 7 { Lane.powerOn with state := .stopping }

theorem meets_LookupsAnswerTheirImages_converter :
    (let s := looking State.reset [4] false stopping
     Executing (.lookConverter qa) qa s ∧ s.building.taken = false ∧ s.building.parts[(4 : Fin 6)] = none ∧
       missingParts s.building = [4]) ∧
    (let s := looking State.reset [3, 4] true stopping
     Executing (.lookConverter qa) qa s ∧ s.building.taken = true ∧ missingParts s.building = [3, 4]) := by
  unfold Executing; decide +kernel

/-- R157: the parts of an image may be of different moments; each is the owner's of its own. -/
theorem test_image_of_two_moments :
    answerA (.lookConverter qa) (looking (conv .running none .inverter 0) [4] false stopping)
      = some (.done, ([0, 1, 2, 3] : List (Fin 6)).flatMap (fun k => converterPart k (conv .running none .inverter 0))
          ++ converterPart 4 stopping ++ converterPart 5 (conv .running none .inverter 0)) := by decide +kernel

/-- R157: a moment that has given a part gives no other; the next one does. -/
theorem test_one_part_at_a_moment :
    (let s := looking State.reset [4] true State.reset
     readySteps s = [] ∧ readySteps (countTick s) = [.lookConverter qa] ∧
       after (.lookConverter qa) s (fun t => t.portA.state) = some .working ∧
       after (.lookConverter qa) (countTick s) (fun t => (t.portA.state, t.building)) = some (.answered, ImageBuild.empty))
    := by decide +kernel

theorem meets_NoticeRequestsActOnTheirPort :
    Executing (.clearNotices qb 0x3FF) qb (serving (.clearNotices qb 0x3FF) State.reset) ∧
    Executing (.setNoticeMask qa 0) qa (serving (.setNoticeMask qa 0) State.reset) ∧
    Executing (.lookNotices qa) qa (serving (.lookNotices qa) State.reset) := by unfold Executing; decide +kernel

/-- An answer of five bytes. -/
def shortAnswer : Answer := { kind := 0x33, tag := 7, code := .done, reason := none, payload := [] }

theorem meets_TransferByTheStateFound :
    (State.reset.lines.porLow = false ∧ State.reset.portA.transfer = none) ∧
    (transferring .answered (some shortAnswer) true State.reset).portA.transfer.isSome = true ∧
    (answerBytes shortAnswer).length = 5 ∧
    (let s := transferring .answered (some shortAnswer) false State.reset
     ([0, 0, 0, 0, 0, 0] : List Byte).head? = some 0 ∧ s.portA.transfer.map Transfer.found = some .answered ∧
       5 + 1 ≤ ([0, 0, 0, 0, 0, 0] : List Byte).length ∧ ([0, 0, 0, 0, 0] : List Byte).length < 5 + 1) ∧
    (transferring .idle none false State.reset).portA.transfer.map Transfer.found = some .idle ∧
    (frameOfBytes [0x33, 7, 0]).isSome = true ∧
    (transferring .working none false State.reset).portA.transfer.map Transfer.found = some .working ∧
    (serving (.lookNotices qb) (transferring .idle none false State.reset)).engine.busy = true := by decide +kernel

theorem meets_EngineBeginsOrRefuses :
    (∀ x ∈ [([0x32, 7] : List Byte), [0x33, 9, 0], [0x50, 7, 4, 0x22, 0, 0, 1], [0x12, 7, 1, 5], [0x77]],
      (frameOfBytes x).isSome = true) ∧
    (State.reset.engine.busy = false ∧ State.reset.portA.transfer = none ∧ State.reset.portA.state ≠ .working ∧
      waits .b State.reset = false) ∧
    (frameOfBytes [0x32, 7]).map (parseFrame .a) = some .badFrame ∧
    (frameOfBytes [0x50, 7, 4, 0x22, 0, 0, 1]).map (parseFrame .a) = some .badKey ∧
    (frameOfBytes [0x33, 7, 0]).map (parseFrame .a) = some (.command (.block qa)) ∧
    (let s := serving (.block qa) (State.reset.setPort .b { PortUnit.powerOn with
       state := .working, request := some (requestFrame qb 0x12 [5]) })
     Executing (.block qa) qa s ∧ waits .b s = true ∧
       s.portB.request.map (parseFrame .b) = some (.command (.lookValve qb 5)) ∧ isChange (.lookValve qb 5) = false) := by
  unfold Executing; decide +kernel

theorem no_part (k : Fin 6) (bytes : List Byte) : ImageBuild.empty.parts[k] ≠ some bytes := by
  have h : ∀ j : Fin 6, ImageBuild.empty.parts[j] = none := by decide
  simp [h k]

theorem ports_in_order : PortsOk (serving (.block qa) (State.reset.setPort .b { PortUnit.powerOn with
    state := .working, request := some (requestFrame qb 0x12 [5]) })) := by
  constructor
  · intro p
    cases p <;> constructor <;> decide +kernel
  · intro p; cases p <;> decide +kernel
  · intro h; exact absurd h (by decide +kernel)
  · intro h; exact absurd (by decide +kernel) h
  · decide +kernel
  · intro k bytes h; exact absurd h (no_part k bytes)

/-- An image of which one part is missing, and a request of the other port that waits. -/
def lookingWithWaiting : State :=
  looking State.reset [4] false (State.reset.setPort .b { PortUnit.powerOn with
    state := .working, request := some (requestFrame qb 0x12 [5]) })

theorem ports_in_order_looking : PortsOk lookingWithWaiting ∧ Executing (.lookConverter qa) qa lookingWithWaiting ∧
    waits .b lookingWithWaiting = true ∧ (missingParts lookingWithWaiting.building).length = 1 := by
  refine ⟨⟨?_, ?_, ?_, fun _ => ⟨qa, by decide +kernel⟩, by decide +kernel, ?_⟩, by unfold Executing; decide +kernel,
    by decide +kernel, by decide +kernel⟩
  · intro p
    cases p <;> constructor <;> decide +kernel
  · intro p; cases p <;> decide +kernel
  · intro h; exact absurd h (by decide +kernel)
  · intro k bytes h
    have h' : (if k ∈ [(4 : Fin 6)] then none else some (converterPart k State.reset)) = some bytes := by
      simpa [lookingWithWaiting, looking] using h
    split at h'
    · cases h'
    · cases h'; exact ⟨_, rfl⟩

theorem meets_RequestRowSendsItsFrame :
    requestOf (.lookValve qa 5) = some (qa, 0x12, [5]) ∧ (Instr.lookValve qa 5).wellFormed = true ∧
    begun (.lookValve qa 5) .a (transferring .idle none false State.reset) = false ∧
    (let s := serving (.swap qa) State.reset
     begun (.lookValve qa 5) .a s = false ∧ s.portA.state = .working ∧ s.portA.transfer = none) ∧
    (State.reset.engine.busy = false ∧ State.reset.portA.transfer = none ∧ State.reset.portA.state ≠ .working ∧
      waits .b State.reset = false ∧ isChange (.lookValve qa 5) = false) := by decide +kernel

theorem meets_RequestFramesReadBack :
    (orderOf 12 0x80 255 65535 (some .inverter)).wellFormed = true ∧
    (requestOf (orderOf 12 0x80 255 65535 (some .inverter))).isSome = true ∧
    (requestOf (.amendReprove qb 255 255 (some .long) (some 0) (some 65535))).isSome = true := by decide +kernel

theorem meets_LaneEventsAndCuts :
    (let l := (State.reset.setLane 7 (lit 0)).lane 7
     l.state = .lit ∧ l.composition = some burst ∧ l.bank = some 0 ∧ isActive burst 2 = true ∧ isActive burst 1 = false) ∧
    (let l := (State.reset.setLane 7 (lit 3)).lane 7
     l.bank = some 3 ∧ ∀ k : Bank, 3 < k → isActive burst k = false) ∧
    (let l := (State.reset.setLane 7 { lit 2 with state := .gap }).lane 7
     l.state = .gap ∧ l.composition = some burst ∧ l.bank = some 2) ∧
    (State.reset.setLane 7 { Lane.powerOn with state := .stopping }).lane 7 = { Lane.powerOn with state := .stopping } ∧
    (State.reset.lane 7).state ≠ .lit ∧ (State.reset.lane 7).state ≠ .gap ∧ (State.reset.lane 7).state ≠ .stopping := by
  decide +kernel

theorem meets_BurstRequestTakesTheLane :
    (isFiring (conv .running none .inverter 0).seq.conv = true ∧ ((conv .running none .inverter 0).lane 3).state = .idle) ∧
    isFiring State.reset.seq.conv = false ∧
    ((State.reset.setLane 7 { lit 3 with drops := 255 }).lane 7).state ≠ .idle ∧
    TalliesOk (withRecord 3 19 { level .serving with emitClass := .long } State.reset) := by
  refine ⟨?_, ?_, ?_, ?_⟩
  · decide +kernel
  · decide +kernel
  · decide +kernel
  · unfold TalliesOk; decide +kernel

theorem meets_RevisionCountsChanges :
    (after (.resultWord (result 0x4000))
      (linked .exchange (some (pollFrom .directed 20))
        (withRecord 3 19 { level .serving with missRun := 2, revision := 65535 } State.reset))
      fun t => ((t.record 3 19).life, (t.record 3 19).revision)) = some (.shorted, 0) ∧
    (after .missedCrossing State.reset fun t => (t.record 3 19).revision) = some 0 := by decide +kernel

theorem meets_NoticesFollowChanges :
    (after (.resultWord (result 0x4000))
      (linked .exchange (some (pollFrom .directed 20)) (runningOver
        (withRecord 3 19 { level .serving with missRun := 2 } State.reset)))
      fun t => ((t.record 3 19).life, (t.tally 3).grade, t.seq.conv, t.seq.tripLatch))
      = some (.shorted, .unfit, .retarded, true) ∧
    (after .missedCrossing (conv .running none .inverter 0) fun t => t.phase.lock) = some .holding ∧
    (after (.swap qa) (serving (.swap qa) (staged .inverter (conv .blocked none .rectifier 0)))
      fun t => t.schedule.live) = some .b ∧
    (after .linkDown { linked .header (some (pollFrom .directed 20)) State.reset with
      link := { (linked .header (some (pollFrom .directed 20)) State.reset).link with failures := 7 } }
      fun t => t.link.down) = some true ∧
    (after (.replyHeader (header 0x0034)) (linked .header (some (pollFrom .directed 20)) State.reset)
      fun t => t.link.vmuFault[(3 : Valve)]) = some true := by decide +kernel

/-! ### A state in order away from reset: RETARDED, a directed poll in EXCHANGE, a lane stopping, Port A waiting for
its swap, Port B with an answer, and a step event in the queue -/

def busyState : State :=
  let s := conv .retarded (some .deionizing) .rectifier 299
  let t := linked .exchange (some (pollFrom .directed 23)) s
  { t with
      seq := { t.seq with retardCount := 1, windows := put t.seq.windows 11 .opened },
      sources := { t.sources with directed := [{ entry with inProgress := true }, entry] },
      schedule := { t.schedule with swapPending := some .a },
      lanes := put t.lanes 7 { lit 2 with drops := 3 },
      portA := { t.portA with state := .working, begun := true, request := some (requestFrame qa 0x31 []) },
      portB := { t.portB with state := .answered, answer := some shortAnswer },
      pending := [.phaseStepEvent, .resultWord (result 0x7800)] }

theorem busyState_settings : SettingsOk busyState := by
  constructor
  · intro σ v; cases σ <;> revert v <;> decide +kernel
  · decide +kernel
  · decide +kernel

theorem busyState_records : RecordsOk busyState := by
  intro v p
  have h : busyState.record v p = LevelRecord.powerOn := by
    simp [busyState, linked, conv, State.record, State.reset]
  rw [h]
  constructor <;> decide

theorem busyState_link : LinkOk busyState := by
  constructor
  case poll => decide +kernel
  case idle => decide +kernel
  case timer => decide +kernel
  case hold => decide +kernel
  case cut => decide +kernel
  case cutSweep => intro _ p h; cases h; contradiction
  case range => intro p h; cases h; decide +kernel
  case superseded => intro p h _; cases h; contradiction
  case sweepMark => decide +kernel
  case headMark => decide +kernel
  case sweepTop => intro p h hs; cases h; contradiction
  case tops => decide +kernel
  case cycleTop => decide +kernel
  case request => intro v h; cases h
  case remainder => intro v n h; cases h

theorem busyState_lanes : LanesOk busyState := by
  constructor
  · intro v
    by_cases h : v = 7
    · subst h
      constructor
      · decide +kernel
      · decide +kernel
      · intro c b hc hb; cases hc; cases hb; decide +kernel
      · decide +kernel
    · have hl : busyState.lane v = Lane.powerOn := by
        revert v; decide +kernel
      rw [hl]
      constructor
      · rfl
      · rfl
      · intro c b hc; cases hc
      · decide
  · decide +kernel

theorem busyState_ports : PortsOk busyState := by
  constructor
  · intro p
    cases p <;> constructor <;> decide +kernel
  · intro p; cases p <;> decide +kernel
  · intro _ p; cases p <;> decide +kernel
  · intro h; exact absurd (by decide +kernel) h
  · decide +kernel
  · intro k bytes h; exact absurd h (no_part k bytes)

theorem busyState_in_order : Inv busyState where
  settings := busyState_settings
  tallies := by unfold TalliesOk; decide +kernel
  spreads := by unfold SpreadsOk; decide +kernel
  fit := by unfold FitOk; decide +kernel
  records := busyState_records
  queues := by constructor <;> decide +kernel
  link := busyState_link
  phase := by
    constructor <;> first
      | decide +kernel
      | (simp [busyState, linked, conv, lockedAt, Phase.afterReset, inAcceptedRange])
  sequencer := by constructor <;> decide +kernel
  converter := by constructor <;> decide +kernel
  lanes := busyState_lanes
  schedule := by constructor <;> decide +kernel
  ports := busyState_ports

theorem meets_StepKeeps :
    Inv busyState ∧ ∃ t, step busyState = .next t :=
  ⟨busyState_in_order, _, rfl⟩

end Sys2Proof.Tests
end

/-! The Evidence Unit's claim on a result that is ignored and on a result with indication ABSENT (R38, R40, R41, R52),
over three facts that serve every claim on a record: the work that follows a notice clears no flag, a write of a record
is `WrittenOnly`, and a claim that moves the record is a `Verdict`. -/

namespace Sys2Proof.Machine

/-! ### Notice flags that stay set (R159) -/

/-- Every notice flag that is set in a port before is set in it after. -/
def FlagsStay (s t : State) : Prop := ∀ p, ∃ more, (t.port p).flags = (s.port p).flags ||| more

theorem FlagsStay.refl (s : State) : FlagsStay s s := fun _ => ⟨0, by simp⟩

theorem FlagsStay.trans {s t u : State} (h : FlagsStay s t) (k : FlagsStay t u) : FlagsStay s u := fun p => by
  obtain ⟨a, ha⟩ := h p
  obtain ⟨b, hb⟩ := k p
  exact ⟨a ||| b, by rw [hb, ha, BitVec.or_assoc]⟩

theorem FlagsStay.of_eq {s t : State} (ha : t.portA = s.portA) (hb : t.portB = s.portB) : FlagsStay s t := fun p =>
  ⟨0, by simp [State.port_congr ha hb]⟩

theorem setNotice_flagsStay (n : Notice) (s : State) : FlagsStay s (setNotice n s) := fun p =>
  ⟨noticeBit n, by rw [setNotice_port]⟩

theorem enter_flagsStay (c : Conv) (x : Option ExitTarget) (s : State) : FlagsStay s (enter c x s) := by
  have raised : FlagsStay s (setNotice .converter { s with seq := enterItems c x s.seq }) :=
    .trans (.of_eq rfl rfl) (setNotice_flagsStay .converter _)
  unfold enter; dsimp only; split
  · exact raised.trans (.of_eq (cutLanes_portA _) (cutLanes_portB _))
  · exact raised

theorem stopByRole_flagsStay (x : ExitTarget) (s : State) : FlagsStay s (stopByRole x s) := by
  unfold stopByRole; split
  · exact (enter_flagsStay .retarded (some x) s).trans (.of_eq rfl rfl)
  · exact (enter_flagsStay .bypassing (some x) s).trans (.of_eq rfl rfl)

theorem strengthen_flagsStay (x : ExitTarget) (s : State) : FlagsStay s (strengthen x s) := by
  unfold strengthen; repeat' split
  · exact .trans (.of_eq rfl rfl) (setNotice_flagsStay .converter _)
  · exact .refl s
  · exact .refl s

theorem latchTrip_flagsStay (cause : TripCause) (s : State) : FlagsStay s (latchTrip cause s) := by
  unfold latchTrip; split
  · exact .refl s
  · exact .trans (.of_eq rfl rfl) (setNotice_flagsStay .trip _)

theorem raiseTrip_flagsStay (cause : TripCause) (s : State) : FlagsStay s (raiseTrip cause s) := by
  have latched := latchTrip_flagsStay cause s
  unfold raiseTrip; split
  case h_1 | h_2 => exact latched.trans (stopByRole_flagsStay _ _)
  case h_3 | h_4 => exact latched.trans (strengthen_flagsStay _ _)
  case h_5 => exact latched.trans (enter_flagsStay _ _ _)
  case h_6 => exact enter_flagsStay _ _ s
  case h_7 | h_8 => exact .refl s

theorem unfitEntry_flagsStay (v : Valve) (origin : UnfitOrigin) (s : State) :
    FlagsStay s (unfitEntry v origin s) := by
  cases origin with
  | evidence =>
    unfold unfitEntry
    exact (raiseTrip_flagsStay (.valveUnfit v) s).trans (.of_eq (by simp) (by simp))
  | change =>
    unfold unfitEntry; dsimp only; split
    · exact enter_flagsStay _ _ s
    · exact .refl s

theorem commitTally_flagsStay (v : Valve) (t : Tally) (origin : UnfitOrigin) (s : State) :
    FlagsStay s (commitTally v t origin s) := by
  have graded : FlagsStay s (setNotice .grade (s.setTally v t)) :=
    .trans (.of_eq rfl rfl) (setNotice_flagsStay .grade _)
  unfold commitTally; dsimp only; repeat' split
  · exact .of_eq rfl rfl
  · exact graded.trans (unfitEntry_flagsStay v origin _)
  · exact graded

theorem noticeBit_ne_zero (n : Notice) : noticeBit n ≠ 0 := by cases n <;> decide

/-- A flag word that meets a mask still meets it with more flags set. -/
theorem or_and_ne_zero {w : Nat} {flags mask : BitVec w} (h : flags &&& mask ≠ 0) (more : BitVec w) :
    (flags ||| more) &&& mask ≠ 0 := by
  rw [BitVec.and_comm, BitVec.and_or_distrib_left, BitVec.and_comm mask flags]
  exact fun h0 => h (BitVec.or_eq_zero_iff.mp h0).1

/-- A notice event leaves its flag set in both ports (R159). -/
theorem setNotice_noticeSet (n : Notice) (s : State) : NoticeSet n (setNotice n s) := by
  have raised (flags : BitVec 10) : (flags ||| noticeBit n) &&& noticeBit n ≠ 0 := by
    rw [BitVec.or_comm]
    exact or_and_ne_zero (by rw [BitVec.and_self]; exact noticeBit_ne_zero n) flags
  exact ⟨raised _, raised _⟩

theorem NoticeSet.stays {n : Notice} {s t : State} (h : NoticeSet n s) (k : FlagsStay s t) : NoticeSet n t := by
  obtain ⟨setA, setB⟩ := h
  obtain ⟨moreA, eqA⟩ := k .a
  obtain ⟨moreB, eqB⟩ := k .b
  exact ⟨eqA ▸ or_and_ne_zero setA moreA, eqB ▸ or_and_ne_zero setB moreB⟩

/-! ### Claims with and without a move of the record (R4, R15, R16) -/

theorem commitRecord_onlyRecord (v : Valve) (p : Position) (new : LevelRecord) (origin : UnfitOrigin) (s : State) :
    OnlyRecord v p s (commitRecord v p new origin s) := by
  refine ⟨fun w x h => commitRecord_record_other h new origin s, fun w h => ?_, ?_⟩
  · rw [commitRecord_tally, if_neg fun k => h k.1.symm]
  · simp

/-- A claim that moves neither life state nor class nor tag is a write of the record (R4, R16). -/
theorem commitRecord_of_unmoved {v : Valve} {p : Position} {new : LevelRecord} {s : State}
    (h : recordMoves (s.record v p) new = false) (origin : UnfitOrigin) :
    commitRecord v p new origin s = s.setRecord v p new := by
  simp [commitRecord, h]

theorem setRecord_writtenOnly (v : Valve) (p : Position) (new : LevelRecord) (s : State) :
    WrittenOnly v p new s (s.setRecord v p new) := by
  have other (w : Valve) (x : Position) (h : (w, x) ≠ (v, p)) :
      (s.setRecord v p new).record w x = s.record w x := by
    rw [State.setRecord_record, if_neg fun ⟨hv, hp⟩ => h (by rw [hv, hp])]
  exact ⟨State.setRecord_record_same s v p new, ⟨other, fun _ _ => rfl, by simp⟩, rfl, rfl, rfl⟩

/-- A claim that moves the record sets LEVEL, whatever the tally and the sequencer do after it (R15). -/
theorem commitRecord_level {v : Valve} {p : Position} {new : LevelRecord} {s : State}
    (h : recordMoves (s.record v p) new = true) (origin : UnfitOrigin) :
    NoticeSet .level (commitRecord v p new origin s) := by
  unfold commitRecord
  rw [if_pos h]
  exact (setNotice_noticeSet .level _).stays (commitTally_flagsStay _ _ _ _)

theorem commitRecord_verdict {v : Valve} {p : Position} {new : LevelRecord} {s : State}
    (h : recordMoves (s.record v p) new = true) (origin : UnfitOrigin) :
    Verdict v p { new with revision := (s.record v p).revision + 1 } s (commitRecord v p new origin s) :=
  ⟨by rw [commitRecord_record, if_pos h], commitRecord_onlyRecord v p new origin s, commitRecord_level h origin⟩

theorem recordMoves_eq_true_of_life {old new : LevelRecord} (h : old.life ≠ new.life) :
    recordMoves old new = true := by
  simp [recordMoves, h]

theorem recordMoves_eq_false {old new : LevelRecord} (hl : new.life = old.life)
    (hc : new.emitClass = old.emitClass) (ht : new.unitTag = old.unitTag) : recordMoves old new = false := by
  simp [recordMoves, hl, hc, ht]

/-! ### The claim on a result (R38, R40, R41) -/

theorem isMonitored_eq_false {l : Life} (hp : l ≠ .proving) (hs : l ≠ .serving) (hu : l ≠ .suspect) :
    isMonitored l = false := by
  cases l with
  | proving => exact absurd rfl hp
  | serving => exact absurd rfl hs
  | suspect => exact absurd rfl hu
  | _ => rfl

theorem applyResult_of_unmonitored {res : Result} {s : State}
    (h : isMonitored (s.record res.valve res.position).life = false) : applyResult res s = s := by
  simp [applyResult, h]

/-- A result with indication ABSENT makes no offer: its claim is that of R40 with the common close of R52. -/
theorem applyResult_of_absent {res : Result} {s : State}
    (hm : isMonitored (s.record res.valve res.position).life = true) (ha : res.present = false) :
    applyResult res s = commitRecord res.valve res.position
      { missingIndication s.settings (s.record res.valve res.position) with lastCycle := some s.phase.cycle }
      .evidence s := by
  simp [applyResult, resultRecord, offers, hm, ha]

theorem missingIndication_below {settings : Settings} {r : LevelRecord}
    (h : min (r.missRun + 1) 15 < settings.missLimit) :
    missingIndication settings r = { r with missRun := min (r.missRun + 1) 15, progress := 0 } :=
  if_neg (Nat.not_le.mpr h)

theorem missingIndication_atLimit {settings : Settings} {r : LevelRecord}
    (h : settings.missLimit ≤ min (r.missRun + 1) 15) :
    missingIndication settings r =
      { r with missRun := min (r.missRun + 1) 15, progress := 0, life := .shorted, cause := some .noIndication } :=
  if_pos h

theorem applyResult_absent_below {res : Result} {s : State}
    (hm : isMonitored (s.record res.valve res.position).life = true) (ha : res.present = false)
    (h : min ((s.record res.valve res.position).missRun + 1) 15 < s.settings.missLimit) :
    let r := s.record res.valve res.position
    let t := applyResult res s
    WrittenOnly res.valve res.position
      { r with missRun := min (r.missRun + 1) 15, progress := 0, lastCycle := some s.phase.cycle } s t ∧
    t.sources = s.sources ∧ t.portA = s.portA ∧ t.portB = s.portB := by
  dsimp only
  rw [applyResult_of_absent hm ha, missingIndication_below h, commitRecord_of_unmoved]
  · exact ⟨setRecord_writtenOnly _ _ _ s, rfl, rfl, rfl⟩
  · exact recordMoves_eq_false rfl rfl rfl

theorem applyResult_absent_atLimit {res : Result} {s : State}
    (hm : isMonitored (s.record res.valve res.position).life = true) (ha : res.present = false)
    (h : s.settings.missLimit ≤ min ((s.record res.valve res.position).missRun + 1) 15) :
    let r := s.record res.valve res.position
    let t := applyResult res s
    Verdict res.valve res.position
      { r with missRun := min (r.missRun + 1) 15, progress := 0, lastCycle := some s.phase.cycle, life := .shorted,
               cause := some .noIndication, revision := r.revision + 1 } s t ∧
    t.sources = s.sources := by
  dsimp only
  rw [applyResult_of_absent hm ha, missingIndication_atLimit h]
  have moved : (s.record res.valve res.position).life ≠ .shorted := fun k => by
    rw [k] at hm; exact absurd hm (by decide)
  exact ⟨commitRecord_verdict (recordMoves_eq_true_of_life moved) .evidence, by simp⟩

/-- Settles O34: by the life state and the indication, then by the new miss run against the miss limit. -/
theorem ignoredAndMissingResults : Obligations.IgnoredAndMissingResults := by
  unfold Obligations.IgnoredAndMissingResults
  refine ⟨fun res s hp hs hu => applyResult_of_unmonitored (isMonitored_eq_false hp hs hu), fun res s hm ha => ?_⟩
  exact ⟨applyResult_absent_below hm ha, applyResult_absent_atLimit hm ha⟩

end Sys2Proof.Machine

/-! A frame that passes its checks and whose word the engine does not await (R67): the type mark directs the receipt to
one of the two words, and outside that word's state the word is an overrun. -/

namespace Sys2Proof.Machine

/-! ### The type mark directs the receipt of a frame (R170) -/

theorem receive_of_isReplyHeader {f : BitVec 20} (h : isReplyHeader f = true) (s : State) :
    receive f s = replyHeader (frameWord f) s :=
  if_pos h

theorem isReplyHeader_eq_false_of_isResultWord {f : BitVec 20} (h : isResultWord f = true) :
    isReplyHeader f = false := by
  have ⟨_, mark⟩ : frameOk f = true ∧ frameType f = false := by simpa [isResultWord] using h
  simp [isReplyHeader, mark]

theorem receive_of_isResultWord {f : BitVec 20} (h : isResultWord f = true) (s : State) :
    receive f s = resultWord (frameWord f) s := by
  simp [receive, isReplyHeader_eq_false_of_isResultWord h, h]

/-! ### A word outside its state is an overrun (R67) -/

theorem replyHeader_of_unawaited {s : State} (h : s.link.state ≠ .header) (w : Word16) :
    replyHeader w s = overrun s := by
  unfold replyHeader
  split
  case h_1 awaited _ => exact absurd awaited h
  case h_2 => rfl

theorem resultWord_of_unawaited {s : State} (h : s.link.state ≠ .exchange) (w : Word16) :
    resultWord w s = overrun s := by
  unfold resultWord
  split
  case h_1 awaited _ => exact absurd awaited h
  case h_2 => rfl

/-! ### The rows of the two words, with POR_L high -/

theorem exec_replyHeader_of_powered {s : State} (h : s.lines.porLow = false) (f : BitVec 20) :
    exec (.replyHeader f) s = .next (receive f s) :=
  powered_of_powered h (receive f)

theorem exec_resultWord_of_powered {s : State} (h : s.lines.porLow = false) (f : BitVec 20) :
    exec (.resultWord f) s = .next (receive f s) :=
  powered_of_powered h (receive f)

/-- Settles O31: the type mark names the word that arrives, and the engine's state is not the one that awaits it. -/
theorem unawaitedWordIsAnOverrun : Obligations.UnawaitedWordIsAnOverrun := by
  unfold Obligations.UnawaitedWordIsAnOverrun
  intro f s porHigh
  constructor
  · intro isResult unawaited
    rw [exec_resultWord_of_powered porHigh, receive_of_isResultWord isResult, resultWord_of_unawaited unawaited]
    rfl
  · intro isReply unawaited
    rw [exec_replyHeader_of_powered porHigh, receive_of_isReplyHeader isReply, replyHeader_of_unawaited unawaited]
    rfl

end Sys2Proof.Machine

/-! CLEAR TRIP (R135): what its claim is in each of the three rows of the rule's table, and the completion of the request
with it. -/

namespace Sys2Proof.Machine

/-- A change of converter state touches of the ports at most the notices. -/
theorem converterChange_samePorts (f : Sequencer → Sequencer) (s : State) : SamePorts s (converterChange f s) :=
  .trans (.of_eq rfl rfl) (setNotice_samePorts .converter _)

/-! ### The rows of R135 -/

theorem unlatch_converterChange (f : Sequencer → Sequencer) (s : State) :
    unlatch (converterChange f s) = converterChange (fun x => { f x with tripLatch := false, tripCause := none }) s :=
  rfl

theorem clearTripClaim_of_fit {s : State} (tripped : s.seq.conv = .tripped) (fit : unfitCount s = 0) :
    clearTripClaim s =
      (converterChange (fun x => { stoppedAs .blocked x with tripLatch := false, tripCause := none }) s,
        some (plain .done)) := by
  have notFiring : isFiring s.seq.conv = false := by rw [tripped]; rfl
  have entered : enter .blocked none s = converterChange (stoppedAs .blocked) s := enter_stopped_of_idle rfl notFiring
  simp [clearTripClaim, tripped, fit, entered, unlatch_converterChange]

theorem clearTripClaim_of_unfit {s : State} (tripped : s.seq.conv = .tripped) (unfit : 0 < unfitCount s) :
    clearTripClaim s = (s, some (notReady .valveUnfit)) := by
  simp [clearTripClaim, tripped, unfit]

theorem clearTripClaim_of_not_tripped {s : State} (elsewhere : s.seq.conv ≠ .tripped) :
    clearTripClaim s = (s, some (plain .wrongState)) := by
  unfold clearTripClaim
  split
  case h_1 tripped => exact absurd tripped elsewhere
  case h_2 => rfl

/-! ### The request -/

theorem exec_clearTrip (q : Sender) (s : State) :
    exec (.clearTrip q) s = serveClaim (.clearTrip q) q.port clearTripClaim s := rfl

/-- Settles O10: each row of R135 is one value of the claim, and an executing request completes with what its claim
leaves. -/
theorem clearTripByState : Obligations.ClearTripByState := by
  unfold Obligations.ClearTripByState
  refine ⟨fun q s executing => ⟨fun tripped fit => ?_, fun tripped unfit => ?_, fun elsewhere => ?_⟩, fun _ => rfl⟩
  · exact serveClaim_completes_of_samePorts rfl executing (exec_clearTrip q s) (clearTripClaim_of_fit tripped fit)
      (converterChange_samePorts _ s) rfl
  · exact serveClaim_refuses rfl executing (exec_clearTrip q s) (clearTripClaim_of_unfit tripped unfit)
  · exact serveClaim_refuses rfl executing (exec_clearTrip q s) (clearTripClaim_of_not_tripped elsewhere)

end Sys2Proof.Machine

/-! The notice flags, their masks and the NOTICE lines (R160, R161, R163): the NOTICE line bit by bit, the three notice
requests as claims on the requesting port, and both ports after each of the resets. -/

namespace Sys2Proof.Machine

/-! ### The NOTICE line (R160) -/

/-- Two flag words meet exactly where some bit is set in both. -/
theorem and_ne_zero_iff_exists_getLsbD {w : Nat} (flags mask : BitVec w) :
    flags &&& mask ≠ 0 ↔ ∃ k : Fin w, flags.getLsbD k.val = true ∧ mask.getLsbD k.val = true := by
  have apart_iff : flags &&& mask = 0 ↔ ∀ k : Fin w, ¬(flags.getLsbD k.val = true ∧ mask.getLsbD k.val = true) := by
    rw [BitVec.eq_of_getLsbD_eq_iff, Fin.forall_iff]
    simp only [BitVec.getLsbD_and, BitVec.ofNat_eq_ofNat, BitVec.getLsbD_zero, ← Bool.and_eq_true, Bool.not_eq_true]
  rw [Ne, apart_iff, not_forall_not]

theorem noticeLine_iff_and_ne_zero (u : PortUnit) : noticeLine u = true ↔ u.flags &&& u.mask ≠ 0 := by
  simp [noticeLine]

theorem noticeLine_iff_exists_flag (u : PortUnit) :
    noticeLine u = true ↔ ∃ k : Fin 10, u.flags.getLsbD k.val = true ∧ u.mask.getLsbD k.val = true :=
  (noticeLine_iff_and_ne_zero u).trans (and_ne_zero_iff_exists_getLsbD u.flags u.mask)

/-- With one flag set alone the line follows that flag's mask mark. -/
theorem noticeLine_of_only {n : Notice} {u : PortUnit} (only : u.flags = noticeBit n) :
    noticeLine u = true ↔ u.mask &&& noticeBit n ≠ 0 := by
  rw [noticeLine_iff_and_ne_zero, only, BitVec.and_comm]

/-! ### The notice requests (R161) -/

theorem exec_clearNotices (q : Sender) (flags : BitVec 10) (s : State) :
    exec (.clearNotices q flags) s = serveClaim (.clearNotices q flags) q.port (clearNoticesClaim q.port flags) s := rfl

theorem exec_setNoticeMask (q : Sender) (mask : BitVec 10) (s : State) :
    exec (.setNoticeMask q mask) s = serveClaim (.setNoticeMask q mask) q.port (setMaskClaim q.port mask) s := rfl

theorem exec_lookNotices (q : Sender) (s : State) :
    exec (.lookNotices q) s = serveClaim (.lookNotices q) q.port (readOnly (lookNoticesReply q.port)) s := rfl

/-- An executing request whose claim rewrites its own port, with the request left in the slot, completes: the engine and
the other port are no part of what such a claim writes. -/
theorem serveClaim_completes_of_setPort {c : Instr} {q : Sender} {k : Byte} {b : List Byte} {s : State} {r : Reply}
    {u : PortUnit} {claim : State → State × Option Reply} (hr : requestOf c = some (q, k, b)) (h : Executing c q s)
    (hexec : exec c s = serveClaim c q.port claim s) (hclaim : claim s = (s.setPort q.port u, some r))
    (hslot : u.request = (s.port q.port).request) : Completes c q (s.setPort q.port u) r s :=
  serveClaim_completes hr h hexec hclaim (by rw [State.setPort_port_same, hslot]) (State.setPort_engine s q.port u)
    (by unfold waits; rw [State.setPort_port_other])

/-- Settles O46: two claims that rewrite the notices of the requesting port, one that changes nothing, and the line bit
by bit. -/
theorem noticeRequestsActOnTheirPort : Obligations.NoticeRequestsActOnTheirPort := by
  unfold Obligations.NoticeRequestsActOnTheirPort
  refine ⟨fun q flags s executing => ?_, fun q mask s executing => ?_, fun q s executing => ?_,
    noticeLine_iff_exists_flag⟩
  · exact serveClaim_completes_of_setPort rfl executing (exec_clearNotices q flags s) rfl rfl
  · exact serveClaim_completes_of_setPort rfl executing (exec_setNoticeMask q mask s) rfl rfl
  · exact serveClaim_refuses rfl executing (exec_lookNotices q s) rfl

/-! ### The ports after the resets (R163) -/

theorem powerOn_port (lines : Lines) (s : State) (p : Port) : (powerOn lines s).port p = State.reset.port p := by
  cases p <;> rfl

theorem reset_port_notices (p : Port) :
    (State.reset.port p).flags = noticeBit .reset ∧ (State.reset.port p).mask = 0x3FF := by
  cases p <;> exact ⟨rfl, rfl⟩

theorem controlReset_port (keep : Option Port) (s : State) (p : Port) :
    (controlReset keep s).port p = resetPort (decide (keep = some p)) (s.port p) := by
  cases p <;> rfl

/-- The notices of both ports as a control reset leaves them, whichever port keeps its answer. -/
theorem controlReset_notices (keep : Option Port) (s : State) (p : Port) :
    ((controlReset keep s).port p).flags = noticeBit .reset ∧
    ((controlReset keep s).port p).mask = (s.port p).mask ∧
    (noticeLine ((controlReset keep s).port p) = true ↔ (s.port p).mask &&& noticeBit .reset ≠ 0) := by
  rw [controlReset_port]
  exact ⟨rfl, rfl, noticeLine_of_only rfl⟩

theorem placeAnswer_mask (p x : Port) (r : Reply) (s : State) : ((placeAnswer p r s).port x).mask = (s.port x).mask :=
  congrArg PortRest.mask (placeAnswer_rest p x r s)

/-! ### The rows of the resets -/

theorem exec_powerOnReset (s : State) :
    exec .powerOnReset s = .next (powerOn { s.lines with porLow := false } s) := rfl

theorem exec_restartPulse_of_powered {s : State} (h : s.lines.porLow = false) :
    exec .restartPulse s = .next (controlReset none s) :=
  powered_of_powered h (controlReset none)

/-- An executing RESTART places its answer, then makes the control reset that keeps it (R158). -/
theorem exec_restart_of_executing {q : Sender} {s : State} (h : Executing (.restart q) q s) :
    exec (.restart q) s = .next (controlReset (some q.port) (placeAnswer q.port (plain .done) s)) := by
  obtain ⟨porHigh, hbegun⟩ := h
  have served : serve (.restart q) (fun t => controlReset (some q.port) (placeAnswer q.port (plain .done) t)) s =
      controlReset (some q.port) (placeAnswer q.port (plain .done) s) := by
    simp [serve, requestOf, hbegun]
  exact (powered_of_powered porHigh _).trans (congrArg _ served)

/-- Settles O5: the power-on ports are fixed values, and both control resets are `controlReset`, the RESTART request's
after an answer that touches no mask. -/
theorem noticesAfterResets : Obligations.NoticesAfterResets := by
  unfold Obligations.NoticesAfterResets
  refine ⟨fun s t reached p => ?_, fun s t porHigh reached p => ?_, fun q s t executing reached p => ?_,
    fun s => ⟨_, exec_powerOnReset s⟩, rfl⟩
  · cases (exec_powerOnReset s).symm.trans reached
    obtain ⟨flags, mask⟩ := reset_port_notices p
    rw [powerOn_port]
    exact ⟨flags, mask, (noticeLine_of_only flags).mpr (by rw [mask]; decide)⟩
  · cases (exec_restartPulse_of_powered porHigh).symm.trans reached
    exact controlReset_notices none s p
  · cases (exec_restart_of_executing executing).symm.trans reached
    rw [← placeAnswer_mask q.port p (plain .done) s]
    exact controlReset_notices (some q.port) _ p

end Sys2Proof.Machine

/-! What a command can do, once for all commands (R153, R167): a reset, a change of the line levels with at most one event
of the part's own after it, or a request, whose execution is one claim, a RESTART or a moment of LOOK CONVERTER. The
invariants and the statements about every command go through this inversion. -/

namespace Sys2Proof.Machine

/-! ### Requests -/

/-- The claim of a request whose execution is one claim, with the request's sender. -/
def claimOf : Instr → Option (Sender × (State → State × Option Reply))
  | .lookLevel q v p => some (q, readOnly (lookLevelReply v p))
  | .lookLevels q v p n => some (q, readOnly (lookLevelsReply v p n))
  | .lookValve q v => some (q, readOnly (lookValveReply v))
  | .lookPage q x => some (q, readOnly (lookPageReply x))
  | .lookSetting q x v => some (q, readOnly (lookSettingReply x v))
  | .lookNotices q => some (q, readOnly (lookNoticesReply q.port))
  | .admitLevel q v p cls tag => some (q, admitClaim v p cls tag)
  | .amend q v p cls tag rev => some (q, keyedChange v p rev (amendChange cls tag))
  | .amendClear q v p cls tag rev => some (q, keyedChange v p rev (clearChange cls tag))
  | .amendReprove q v p cls tag rev => some (q, keyedChange v p rev (reproveChange cls tag))
  | .retire q v p why rev => some (q, keyedChange v p rev (retireChange why))
  | .check q v p n => some (q, checkClaim v p n)
  | .order q o => some (q, orderClaim o)
  | .swap q => some (q, swapClaim q.port)
  | .deblock q => some (q, deblockClaim)
  | .block q => some (q, blockClaim)
  | .retard q => some (q, retardClaim)
  | .bypass q => some (q, bypassClaim)
  | .clearTrip q => some (q, clearTripClaim)
  | .trim q i d => some (q, trimClaim i d)
  | .holdLink q => some (q, holdClaim q.port)
  | .releaseLink q => some (q, releaseClaim)
  | .clearNotices q f => some (q, clearNoticesClaim q.port f)
  | .setNoticeMask q m => some (q, setMaskClaim q.port m)
  | .setMissLimit q w => some (q, setClaim .missLimit 0 w)
  | .setDarkLimit q w => some (q, setClaim .darkLimit 0 w)
  | .setProvingCount q w => some (q, setClaim .provingCount 0 w)
  | .setClearCount q w => some (q, setClaim .clearCount 0 w)
  | .setWindowLow q w => some (q, setClaim .windowLow 0 w)
  | .setWindowHigh q w => some (q, setClaim .windowHigh 0 w)
  | .setMinimumSound q v w => some (q, setClaim .minimumSound v w)
  | .setReserve q v w => some (q, setClaim .reserve v w)
  | .setWordIntervalCode q w => some (q, setClaim .wordIntervalCode 0 w)
  | .setCyclePriority q w => some (q, setClaim .cyclePriority 0 w)
  | .setDirectedPriority q w => some (q, setClaim .directedPriority 0 w)
  | .setSweepPriority q w => some (q, setClaim .sweepPriority 0 w)
  | .setSweepEnable q w => some (q, setClaim .sweepEnable 0 w)
  | .setSweepInterval q w => some (q, setClaim .sweepInterval 0 w)
  | .setPreEmption q w => some (q, setClaim .preEmption 0 w)
  | .setReferenceOffset q w => some (q, setClaim .referenceOffset 0 w)
  | .setDisturbanceGear q w => some (q, setClaim .disturbanceGear 0 w)
  | .setHoldLimit q w => some (q, setClaim .holdLimit 0 w)
  | .setAlphaMin q w => some (q, setClaim .alphaMin 0 w)
  | .setAlphaMax q w => some (q, setClaim .alphaMax 0 w)
  | .setRetardAngle q w => some (q, setClaim .retardAngle 0 w)
  | .setRampRate q w => some (q, setClaim .rampRate 0 w)
  | .setRetardCycles q w => some (q, setClaim .retardCycles 0 w)
  | .setDeionizationCycles q w => some (q, setClaim .deionizationCycles 0 w)
  | .setRestartLimit q w => some (q, setClaim .restartLimit 0 w)
  | .setRecoveryCycles q w => some (q, setClaim .recoveryCycles 0 w)
  | .setBypassCycles q w => some (q, setClaim .bypassCycles 0 w)
  | .setCommutationFailureAdvance q w => some (q, setClaim .cfAdvance 0 w)
  | .setCommutationFailureHold q w => some (q, setClaim .cfHold 0 w)
  | .setCommutationFailureLimit q w => some (q, setClaim .cfLimit 0 w)
  | .setStandardOnTime q w => some (q, setClaim .standardOnTime 0 w)
  | .setLongOnTime q w => some (q, setClaim .longOnTime 0 w)
  | .setSpreadLimit q w => some (q, setClaim .spreadLimit 0 w)
  | _ => none

theorem exec_of_claimOf {c : Instr} {q : Sender} {claim : State → State × Option Reply}
    (h : claimOf c = some (q, claim)) (s : State) : exec c s = serveClaim c q.port claim s := by
  cases c <;> cases h <;> rfl

theorem requestOf_of_claimOf {c : Instr} {q : Sender} {claim : State → State × Option Reply}
    (h : claimOf c = some (q, claim)) : ∃ kind payload, requestOf c = some (q, kind, payload) := by
  cases c <;> cases h <;> exact ⟨_, _, rfl⟩

/-- What an execution does to the part: the claim with its conclusion, the RESTART, or a moment of LOOK CONVERTER. -/
inductive RunOf : Instr → Sender → (State → State) → Prop
  | claim {c : Instr} {q : Sender} {k : State → State × Option Reply} (h : claimOf c = some (q, k)) :
      RunOf c q fun s => conclude q.port (k s)
  | restart (q : Sender) :
      RunOf (.restart q) q fun s => controlReset (some q.port) (placeAnswer q.port (plain .done) s)
  | lookConverter (q : Sender) : RunOf (.lookConverter q) q (lookConverterMoment q.port)

/-- A state as a request row finds it: the part's own, or the one that the request's frame leaves (log entry 6). -/
def Sent (s u : State) : Prop := u = s ∨ ∃ p f, u = sendFrame p f s

/-- What a request row can do: nothing but send its frame, or also execute the request that the engine has begun. -/
theorem serve_cases (c : Instr) (run : State → State) (s : State) :
    ∃ u, Sent s u ∧ (serve c run s = u ∨
      ∃ q kind payload, requestOf c = some (q, kind, payload) ∧ begun c q.port u = true ∧ serve c run s = run u) := by
  unfold serve
  split
  case h_1 => exact ⟨s, .inl rfl, .inl rfl⟩
  case h_2 q kind payload h =>
    dsimp only
    have sent : Sent s (if begun c q.port s then s else sendFrame q.port (requestFrame q kind payload) s) := by
      split
      · exact .inl rfl
      · exact .inr ⟨_, _, rfl⟩
    generalize (if begun c q.port s then s else sendFrame q.port (requestFrame q kind payload) s) = u at sent ⊢
    refine ⟨u, sent, ?_⟩
    split
    case isTrue hb => exact .inr ⟨q, kind, payload, h, hb, rfl⟩
    case isFalse => exact .inl rfl

/-! ### Events -/

/-- The events of the part's own and of its lines, as acts of a powered part. -/
inductive EventOf : (State → State) → Prop
  | restartPulse : EventOf (controlReset none)
  | blockAssertion : EventOf takeBlockAssertion
  | lineFault : EventOf takeLineFault
  | crossing (since : Nat) : EventOf (referenceCrossing since)
  | missed : EventOf missedCrossing
  | step : EventOf stepEvent
  | word (f : BitVec 20) : EventOf (receive f)
  | timeout (awaiting : LinkState) : EventOf (awaitedTimeout awaiting)
  | interval : EventOf wordIntervalEnd
  | arbiter : EventOf arbiterStart
  | onTime (v : Valve) : EventOf fun s => s.setLane v (laneOnTimeEnd (s.lane v))
  | gap (v : Valve) : EventOf fun s => s.setLane v (laneGapEnd (s.lane v))
  | stopFrame (v : Valve) : EventOf fun s => s.setLane v (laneStopEnd (s.lane v))
  | transfer (p : Port) (part : TransferPart) : EventOf (transferEvent p part)

/-- A state with new line levels and at most one event after them. -/
def LinesThenEvent (s t : State) : Prop :=
  ∃ l, t = setLines l s ∨ ∃ f, EventOf f ∧ t = f (setLines l s)

theorem LinesThenEvent.same (s : State) : LinesThenEvent s s := ⟨s.lines, .inl rfl⟩

theorem LinesThenEvent.of_event {f : State → State} (h : EventOf f) (s : State) : LinesThenEvent s (f s) :=
  ⟨s.lines, .inr ⟨f, h, rfl⟩⟩

theorem LinesThenEvent.of_powered {f : State → State} {s t : State} (h : LinesThenEvent s (f s))
    (reached : powered f s = .next t) : LinesThenEvent s t := by
  cases reached
  split
  · exact .same s
  · exact h

theorem LinesThenEvent.of_due (due : State → Bool) {f : State → State} {s : State} (h : LinesThenEvent s (f s)) :
    LinesThenEvent s (whenDue due f s) := by
  unfold whenDue
  split
  · exact h
  · exact .same s

/-- What every command can do (R153, R167). -/
inductive Reaches (c : Instr) (s t : State) : Prop
  | reset (l : Lines) (h : t = powerOn l s)
  | event (h : LinesThenEvent s t)
  | sent (h : Sent s t)
  | run (q : Sender) (f : State → State) (u : State) (hs : Sent s u)
      (hr : ∃ kind payload, requestOf c = some (q, kind, payload)) (hb : begun c q.port u = true)
      (hf : RunOf c q f) (h : t = f u)

/-- A request row whose execution is `run` reaches what the row sends, or `run` of it. -/
theorem reaches_of_serve {c : Instr} {q : Sender} {k : Byte} {b : List Byte} (hr : requestOf c = some (q, k, b))
    {run : State → State} (hf : RunOf c q run) {s t : State} (h : powered (serve c run) s = .next t) :
    Reaches c s t := by
  cases h
  split
  · exact .sent (.inl rfl)
  · obtain ⟨u, hu, h | ⟨q', k', b', hr', hb, h⟩⟩ := serve_cases c run s
    · exact .sent (h ▸ hu)
    · obtain rfl : q = q' := congrArg Prod.fst (Option.some.inj (hr.symm.trans hr'))
      exact .run q run u hu ⟨k, b, hr⟩ hb hf h

theorem reaches_of_claimOf {c : Instr} {q : Sender} {claim : State → State × Option Reply}
    (hc : claimOf c = some (q, claim)) {s t : State} (h : exec c s = .next t) : Reaches c s t := by
  obtain ⟨k, b, hr⟩ := requestOf_of_claimOf hc
  exact reaches_of_serve hr (.claim hc) ((exec_of_claimOf hc s).symm.trans h)

theorem exec_reaches {c : Instr} {s t : State} (h : exec c s = .next t) : Reaches c s t := by
  have step {due : State → Bool} (h : powered (whenDue due stepEvent) s = .next t) : Reaches c s t :=
    .event (.of_powered (.of_due due (.of_event .step s)) h)
  have act {f : State → State} (hf : EventOf f) (h : powered f s = .next t) : Reaches c s t :=
    .event (.of_powered (.of_event hf s) h)
  cases c
  case powerOnReset => cases h; exact .reset _ rfl
  case porAsserted => cases h; exact .reset _ rfl
  case blockLineAsserted =>
    cases h
    split
    · exact .event (.same s)
    · dsimp only
      split
      · exact .event ⟨_, .inl rfl⟩
      · exact .event ⟨_, .inr ⟨_, .blockAssertion, rfl⟩⟩
  case linefaultEdge =>
    cases h
    split
    · exact .event (.same s)
    · dsimp only
      split
      · exact .event ⟨_, .inl rfl⟩
      · exact .event ⟨_, .inr ⟨_, .lineFault, rfl⟩⟩
  case blockLineReleased | linefaultReleased | authSelChange => cases h; exact .event ⟨_, .inl rfl⟩
  case restartPulse => exact act .restartPulse h
  case referenceCrossing since => exact act (.crossing since) h
  case missedCrossing => exact act .missed h
  case phaseLost => exact .event (.of_powered (.of_due _ (.of_event .missed s)) h)
  case phaseStepEvent => exact act .step h
  case phaseCorrection | recoveryComplete | commutationTrip | retardExpiry | deionizationEnd | bypassExpiry
    | bypassOccasion | sweepOccasion => exact step h
  case sweepCut frame => exact .event (.of_powered (.of_due _ (.of_event (.word frame) s)) h)
  case arbiterPollStart => exact act .arbiter h
  case replyHeader frame | resultWord frame | frameError frame => exact act (.word frame) h
  case deferredHold frame =>
    cases frame with
    | none => exact .event (.of_powered (.of_due _ (.of_event (.timeout .exchange) s)) h)
    | some x => exact .event (.of_powered (.of_due _ (.of_event (.word x) s)) h)
  case wordIntervalEnd => exact act .interval h
  case replyTimeout => exact act (.timeout .header) h
  case wordTimeout => exact act (.timeout .exchange) h
  case linkDown => exact .event (.of_powered (.of_due _ (.of_event (.timeout s.link.state) s)) h)
  case onTimeEnd v => exact act (.onTime v) h
  case gapEnd v => exact act (.gap v) h
  case stopFrameEnd v => exact act (.stopFrame v) h
  case deferredSwap occasion =>
    cases occasion with
    | cycleStart => exact step h
    | phaseLost => exact .event (.of_powered (.of_due _ (.of_event .missed s)) h)
  case transfer p part => exact act (.transfer p part) h
  case lookConverter q => exact reaches_of_serve rfl (.lookConverter q) h
  case restart q => exact reaches_of_serve rfl (.restart q) h
  all_goals exact reaches_of_claimOf rfl h

end Sys2Proof.Machine

/-! How an invariant over the blocks is kept by every step: from the blocks' part of `Inv`, through the events, the claims,
the resets and the base tick, with the queue, the ports and the engine aside. -/

namespace Sys2Proof.Machine

/-- Every part of the invariant but the ports'. -/
structure BlocksOk (s : State) : Prop where
  settings  : SettingsOk s
  tallies   : TalliesOk s
  spreads   : SpreadsOk s
  fit       : FitOk s
  records   : RecordsOk s
  queues    : QueuesOk s
  link      : LinkOk s
  phase     : PhaseOk s
  sequencer : SequencerOk s
  converter : ConverterOk s
  lanes     : LanesOk s
  schedule  : ScheduleOk s

theorem Inv.blocks {s : State} (h : Inv s) : BlocksOk s :=
  { settings := h.settings, tallies := h.tallies, spreads := h.spreads, fit := h.fit, records := h.records,
    queues := h.queues, link := h.link, phase := h.phase, sequencer := h.sequencer, converter := h.converter,
    lanes := h.lanes, schedule := h.schedule }

/-- The nine blocks that the invariants read are the same. -/
structure SameParts (s t : State) : Prop where
  table    : t.table = s.table
  tallies  : t.tallies = s.tallies
  settings : t.settings = s.settings
  link     : t.link = s.link
  sources  : t.sources = s.sources
  phase    : t.phase = s.phase
  schedule : t.schedule = s.schedule
  seq      : t.seq = s.seq
  lanes    : t.lanes = s.lanes

theorem SameParts.refl (s : State) : SameParts s s := ⟨rfl, rfl, rfl, rfl, rfl, rfl, rfl, rfl, rfl⟩

theorem SameParts.trans {s t u : State} (h : SameParts s t) (k : SameParts t u) : SameParts s u :=
  ⟨k.table.trans h.table, k.tallies.trans h.tallies, k.settings.trans h.settings, k.link.trans h.link,
    k.sources.trans h.sources, k.phase.trans h.phase, k.schedule.trans h.schedule, k.seq.trans h.seq,
    k.lanes.trans h.lanes⟩

theorem Sent.sameParts {s u : State} (h : Sent s u) : SameParts s u := by
  rcases h with rfl | ⟨p, f, rfl⟩
  · exact .refl u
  · constructor <;> simp

theorem conclude_sameParts (p : Port) (done : State × Option Reply) : SameParts done.1 (conclude p done) := by
  constructor <;> simp

theorem placeAnswer_sameParts (p : Port) (r : Reply) (s : State) : SameParts s (placeAnswer p r s) := by
  constructor <;> simp

theorem setLines_sameParts (l : Lines) (s : State) : SameParts s (setLines l s) := by
  constructor <;> rfl

theorem transferEvent_sameParts (p : Port) (part : TransferPart) (s : State) :
    SameParts s (transferEvent p part s) := by
  constructor <;> simp

theorem queue_sameParts (queue : List Instr) (count : Nat) (s : State) :
    SameParts s { s with pending := queue, freeCount := count } := by
  constructor <;> rfl

theorem lookConverterMoment_sameParts (p : Port) (s : State) : SameParts s (lookConverterMoment p s) := by
  unfold lookConverterMoment
  split
  · exact .refl s
  · dsimp only
    split <;> constructor <;> simp

/-- A statement about a state that reads the nine blocks alone. -/
def ReadsParts (P : State → Prop) : Prop := ∀ {s t : State}, SameParts s t → P s → P t

theorem SameParts.record {s t : State} (h : SameParts s t) (v : Valve) (p : Position) : t.record v p = s.record v p := by
  simp only [State.record, h.table]

theorem tally_congr {s t : State} (h : t.tallies = s.tallies) (v : Valve) : t.tally v = s.tally v := by
  simp only [State.tally, h]

theorem record_congr {s t : State} (h : t.table = s.table) (v : Valve) (p : Position) : t.record v p = s.record v p := by
  simp only [State.record, h]

theorem lane_congr {s t : State} (h : t.lanes = s.lanes) (v : Valve) : t.lane v = s.lane v := by
  simp only [State.lane, h]

theorem livePage_congr {s t : State} (h : t.schedule = s.schedule) : t.livePage = s.livePage := by
  simp only [State.livePage, h]

theorem stagedPage_congr {s t : State} (h : t.schedule = s.schedule) : t.stagedPage = s.stagedPage := by
  simp only [State.stagedPage, h]

theorem recounted_congr {s t : State} (ht : t.table = s.table) (hs : t.settings = s.settings) (v : Valve) :
    recounted v t = recounted v s := by
  simp only [recounted, bankRecords, ht, hs]

/-! ### What each part of the invariant reads -/

theorem SettingsOk.congr {s t : State} (e : t.settings = s.settings) (h : SettingsOk s) : SettingsOk t :=
  ⟨by rw [e]; exact h.range, by rw [e]; exact h.window, by rw [e]; exact h.onTime⟩

theorem TalliesOk.congr {s t : State} (et : t.table = s.table) (ey : t.tallies = s.tallies)
    (es : t.settings = s.settings) (h : TalliesOk s) : TalliesOk t := fun v => by
  rw [tally_congr ey, recounted_congr et es, h v]

theorem SpreadsOk.congr {s t : State} (ey : t.tallies = s.tallies) (es : t.settings = s.settings) (h : SpreadsOk s) :
    SpreadsOk t := fun v => by
  rw [tally_congr ey, es]; exact h v

/-- With the tallies kept, fitness is kept by every change of state but one into PENDING, RAMPING or RUNNING. -/
theorem FitOk.congr {s t : State} (ey : t.tallies = s.tallies)
    (ec : needsFitValves t.seq.conv = true → needsFitValves s.seq.conv = true) (h : FitOk s) : FitOk t := fun hc v => by
  rw [tally_congr ey]; exact h (ec hc) v

theorem RecordsOk.congr {s t : State} (et : t.table = s.table) (h : RecordsOk s) : RecordsOk t := fun v p => by
  rw [record_congr et]; exact h v p

theorem QueuesOk.congr {s t : State} (ec : t.sources.cycleQueue = s.sources.cycleQueue)
    (ed : t.sources.directed = s.sources.directed) (h : QueuesOk s) : QueuesOk t :=
  ⟨by rw [ec]; exact h.cycle, by rw [ed]; exact h.room, by rw [ed]; exact h.entries, by rw [ed]; exact h.headOnly⟩

theorem PhaseOk.congr {s t : State} (e : t.phase = s.phase) (h : PhaseOk s) : PhaseOk t := by
  constructor <;> rw [e]
  exacts [h.interval, h.phase, h.spread, h.loaded, h.runs, h.stopped, h.saved, h.savedIn, h.loadedIn, h.correction,
    h.steered, h.spacing, h.good, h.hold, h.holding, h.error, h.crossed]

theorem SequencerOk.congr {s t : State} (e : t.seq = s.seq) (es : t.settings = s.settings) (h : SequencerOk s) :
    SequencerOk t := by
  constructor <;> rw [e]
  case attempts => rw [es]; exact h.attempts
  exacts [h.exit, h.bypass, h.latch, h.cause, h.windows, h.failures, h.failed, h.recovery, h.fresh, h.trip]

theorem ConverterOk.congr {s t : State} (e : t.seq.conv = s.seq.conv) (el : t.phase.lock = s.phase.lock)
    (h : ConverterOk s) : ConverterOk t :=
  ⟨by rw [e, el]; exact h.pending, by rw [e, el]; exact h.running⟩

theorem LanesOk.congr {s t : State} (el : t.lanes = s.lanes) (e : t.seq.conv = s.seq.conv) (h : LanesOk s) :
    LanesOk t :=
  ⟨fun v => by rw [lane_congr el]; exact h.lane v, fun v => by rw [lane_congr el, e]; exact h.firing v⟩

theorem ScheduleOk.congr {s t : State} (e : t.schedule = s.schedule) (es : t.settings = s.settings)
    (ec : t.seq.conv = s.seq.conv) (el : t.phase.lock = s.phase.lock) (h : ScheduleOk s) : ScheduleOk t :=
  ⟨by rw [ec, livePage_congr e]; exact h.live, by rw [e, es]; exact h.alphaA, by rw [e, es]; exact h.alphaB,
    by rw [e, el, stagedPage_congr e, livePage_congr e]; exact h.swap⟩

theorem LinkOk.congr {s t : State} (el : t.link = s.link) (eq : t.sources.cycleQueue = s.sources.cycleQueue)
    (ed : t.sources.directed = s.sources.directed) (er : t.sources.sweepRequest = s.sources.sweepRequest)
    (ep : t.sources.sweepInProgress = s.sources.sweepInProgress) (ek : t.sources.remainder = s.sources.remainder)
    (ey : t.tallies = s.tallies) (h : LinkOk s) : LinkOk t := by
  constructor
  case tops => intro v; rw [tally_congr ey]; exact h.tops v
  case cycleTop => intro v; rw [eq, tally_congr ey]; exact h.cycleTop v
  case request => intro v; rw [er, tally_congr ey]; exact h.request v
  case remainder => intro v n; rw [ek, tally_congr ey]; exact h.remainder v n
  case sweepTop => intro p; rw [el, tally_congr ey]; exact h.sweepTop p
  case sweepMark => rw [el, ep]; exact h.sweepMark
  case headMark => rw [el, ed]; exact h.headMark
  all_goals rw [el]
  exacts [h.poll, h.idle, h.timer, h.hold, h.cut, h.cutSweep, h.range, h.superseded]

theorem BlocksOk.congr : ReadsParts BlocksOk := fun e h =>
  { settings := h.settings.congr e.settings
    tallies := h.tallies.congr e.table e.tallies e.settings
    spreads := h.spreads.congr e.tallies e.settings
    fit := h.fit.congr e.tallies (by rw [e.seq]; exact id)
    records := h.records.congr e.table
    queues := h.queues.congr (by rw [e.sources]) (by rw [e.sources])
    link := h.link.congr e.link (by rw [e.sources]) (by rw [e.sources]) (by rw [e.sources]) (by rw [e.sources])
      (by rw [e.sources]) e.tallies
    phase := h.phase.congr e.phase
    sequencer := h.sequencer.congr e.seq e.settings
    converter := h.converter.congr (by rw [e.seq]) (by rw [e.phase])
    lanes := h.lanes.congr e.lanes (by rw [e.seq])
    schedule := h.schedule.congr e.schedule e.settings (by rw [e.seq]) (by rw [e.phase]) }

/-! ### Claims by kind -/

/-- The kinds of claims, each with the port of its sender. -/
inductive ClaimKind (p : Port) : (State → State × Option Reply) → Prop
  | lookup (r : State → Reply) : ClaimKind p (readOnly r)
  | clearNotices (flags : BitVec 10) : ClaimKind p (clearNoticesClaim p flags)
  | setMask (mask : BitVec 10) : ClaimKind p (setMaskClaim p mask)
  | admission (v x : Byte) (cls : Option EmitClass) (tag : Option Word24) : ClaimKind p (admitClaim v x cls tag)
  | amend (v x : Byte) (rev : Option Word16) (cls : Option EmitClass) (tag : Option Word24) :
      ClaimKind p (keyedChange v x rev (amendChange cls tag))
  | clear (v x : Byte) (rev : Option Word16) (cls : Option EmitClass) (tag : Option Word24) :
      ClaimKind p (keyedChange v x rev (clearChange cls tag))
  | reprove (v x : Byte) (rev : Option Word16) (cls : Option EmitClass) (tag : Option Word24) :
      ClaimKind p (keyedChange v x rev (reproveChange cls tag))
  | retire (v x : Byte) (rev : Option Word16) (why : RetireReason) :
      ClaimKind p (keyedChange v x rev (retireChange why))
  | check (v x n : Byte) : ClaimKind p (checkClaim v x n)
  | order (o : OrderParts) : ClaimKind p (orderClaim o)
  | swap : ClaimKind p (swapClaim p)
  | deblock : ClaimKind p deblockClaim
  | block : ClaimKind p blockClaim
  | retard : ClaimKind p retardClaim
  | bypass : ClaimKind p bypassClaim
  | clearTrip : ClaimKind p clearTripClaim
  | trim (i d : Bool) : ClaimKind p (trimClaim i d)
  | hold : ClaimKind p (holdClaim p)
  | release : ClaimKind p releaseClaim
  | set (σ : Setting) (v : Byte) (w : Word16) : ClaimKind p (setClaim σ v w)

theorem claimKind_of_claimOf {c : Instr} {q : Sender} {k : State → State × Option Reply}
    (h : claimOf c = some (q, k)) : ClaimKind q.port k := by
  cases c <;> cases h <;> constructor

/-! ### Every step -/

/-- What a step must leave for a statement over the blocks to hold after it. -/
structure KeptByParts (P : State → Prop) : Prop where
  reads   : ReadsParts P
  same    : ∀ s, BlocksOk s → P s
  power   : ∀ l s, P (powerOn l s)
  restart : ∀ keep s, BlocksOk s → P (controlReset keep s)
  tick    : ∀ s, BlocksOk s → dueEvents s = [] → P (countTick s)
  event   : ∀ f, EventOf f → ∀ s, BlocksOk s → P (f s)
  claim   : ∀ p k, ClaimKind p k → ∀ s, BlocksOk s → P (k s).1

theorem Reaches.keeps {P : State → Prop} (hP : KeptByParts P) {c : Instr} {s t : State} (h : Reaches c s t)
    (hs : BlocksOk s) : P t := by
  cases h with
  | reset l h => exact h ▸ hP.power l s
  | event h =>
    obtain ⟨l, h⟩ := h
    have hl : BlocksOk (setLines l s) := hs.congr (setLines_sameParts l s)
    rcases h with rfl | ⟨f, hf, rfl⟩
    · exact hP.same _ hl
    · exact hP.event f hf _ hl
  | sent h => exact hP.reads h.sameParts (hP.same s hs)
  | run q f u hu hr hb hf h =>
    have hu : BlocksOk u := hs.congr hu.sameParts
    subst h
    cases hf with
    | claim h => exact hP.reads (conclude_sameParts _ _) (hP.claim _ _ (claimKind_of_claimOf h) u hu)
    | restart => exact hP.restart _ _ (hu.congr (placeAnswer_sameParts _ _ _))
    | lookConverter => exact hP.reads (lookConverterMoment_sameParts _ _) (hP.same u hu)

theorem idleStep_cases (s : State) :
    idleStep s = s ∨ (readySteps s = [] ∧ idleStep s = countTick s) ∨
      ∃ c n, c ∈ readySteps s ∧ idleStep s = { s with pending := [c], freeCount := n } := by
  unfold idleStep
  split
  · exact .inl rfl
  · split
    case h_1 h => exact .inr (.inl ⟨h, rfl⟩)
    case h_2 c cs h => exact .inr (.inr ⟨_, _, h ▸ chooseOne_mem s.freeCount c cs, rfl⟩)

/-- An invariant over the blocks that every event, claim and reset keeps is kept by every step. -/
theorem step_keeps {P : State → Prop} (hP : KeptByParts P) {s t : State} (hs : Inv s) (h : step s = .next t) : P t := by
  unfold step at h
  split at h
  · exact (exec_reaches h).keeps hP (hs.blocks.congr (queue_sameParts _ s.freeCount s))
  · cases h
    obtain h | ⟨hr, h⟩ | ⟨c, n, -, h⟩ := idleStep_cases s <;> rw [h]
    · exact hP.same s hs.blocks
    · exact hP.tick s hs.blocks (List.append_eq_nil_iff.1 hr).2
    · exact hP.reads (queue_sameParts [c] n s) (hP.same s hs.blocks)

end Sys2Proof.Machine

/-! The Phase Unit in range and as its lock state asks (R90 to R103): what each of its operations leaves of the phase, and
the invariant over every step. -/

namespace Sys2Proof.Machine

/-! ### The phase after a step event (R92, R93, R97) -/

/-- The step section's work changes the step section alone. -/
@[simp] theorem nextStep_frame (start : Bool) (f : Phase) :
    (nextStep start f).lock = f.lock ∧
    (nextStep start f).interval = f.interval ∧
    (nextStep start f).mark = f.mark ∧
    (nextStep start f).saved = f.saved ∧
    (nextStep start f).prevAccepted = f.prevAccepted ∧
    (nextStep start f).phase = f.phase ∧
    (nextStep start f).cycle = f.cycle ∧
    (nextStep start f).correction = f.correction ∧
    (nextStep start f).spacing = f.spacing ∧
    (nextStep start f).good = f.good ∧
    (nextStep start f).hold = f.hold ∧
    (nextStep start f).lastError = f.lastError := by
  unfold nextStep
  split <;> simp [loadPeriod, beginStep]

/-- The correction's work changes the pending correction and the spacing count alone. -/
@[simp] theorem afterCorrection_frame (f : Phase) :
    (afterCorrection f).lock = f.lock ∧
    (afterCorrection f).interval = f.interval ∧
    (afterCorrection f).mark = f.mark ∧
    (afterCorrection f).saved = f.saved ∧
    (afterCorrection f).loaded = f.loaded ∧
    (afterCorrection f).prevAccepted = f.prevAccepted ∧
    (afterCorrection f).pendingLoad = f.pendingLoad ∧
    (afterCorrection f).spreadAcc = f.spreadAcc ∧
    (afterCorrection f).counting = f.counting ∧
    (afterCorrection f).good = f.good ∧
    (afterCorrection f).hold = f.hold ∧
    (afterCorrection f).lastError = f.lastError := by
  unfold afterCorrection
  split
  · simp
  · split <;> simp

/-- What no step event changes of the phase, and where its sections come from. -/
@[simp] theorem advancePhase_frame (f : Phase) :
    (advancePhase f).lock = f.lock ∧
    (advancePhase f).interval = f.interval ∧
    (advancePhase f).mark = f.mark ∧
    (advancePhase f).saved = f.saved ∧
    (advancePhase f).prevAccepted = f.prevAccepted ∧
    (advancePhase f).phase = (f.phase + advance f) % 3600 ∧
    (advancePhase f).cycle = (if cycleStartNext f then f.cycle + 1 else f.cycle) ∧
    (advancePhase f).correction = (afterCorrection f).correction ∧
    (advancePhase f).spacing = (afterCorrection f).spacing ∧
    (advancePhase f).good = f.good ∧
    (advancePhase f).hold = f.hold ∧
    (advancePhase f).lastError = f.lastError := by
  simp [advancePhase]

/-- With a load pending at a cycle start the saved period is loaded and its first step starts (R92, R94). -/
theorem advancePhase_of_load {f : Phase} {p : Nat} (start : cycleStartNext f = true) (pending : f.pendingLoad = true)
    (saved : f.saved = some p) :
    (advancePhase f).loaded = some p ∧ (advancePhase f).pendingLoad = false ∧ (advancePhase f).counting = true ∧
    (advancePhase f).tick = 0 ∧ (advancePhase f).longStep = false ∧ (advancePhase f).spreadAcc = p % 3600 := by
  have short : ¬ 3600 ≤ p % 3600 := by omega
  simp [advancePhase, nextStep, start, pending, saved, loadPeriod, beginStep, stepRemainder, short]

/-- Elsewhere the loaded period's next step starts (R92). -/
theorem advancePhase_of_next {f : Phase} {p : Nat}
    (next : cycleStartNext f = false ∨ f.pendingLoad = false ∨ f.saved = none) (loaded : f.loaded = some p) :
    (advancePhase f).loaded = some p ∧ (advancePhase f).pendingLoad = f.pendingLoad ∧
    (advancePhase f).counting = f.counting ∧ (advancePhase f).tick = 0 ∧
    (advancePhase f).longStep = decide (3600 ≤ f.spreadAcc + p % 3600) ∧
    (advancePhase f).spreadAcc =
      if 3600 ≤ f.spreadAcc + p % 3600 then f.spreadAcc + p % 3600 - 3600 else f.spreadAcc + p % 3600 := by
  have following (g : Phase) (hl : g.loaded = some p) (hp : g.pendingLoad = f.pendingLoad) (hs : g.saved = f.saved) :
      nextStep (cycleStartNext f) g = beginStep p g := by
    unfold nextStep
    rw [hl, hp, hs]
    obtain next | next | next := next <;> simp [next]
  simp only [advancePhase]
  rw [following _ (by simpa using loaded) (by simp) (by simp)]
  simp [beginStep, stepRemainder, loaded]

/-- A step event corrects by one toward 0 where a correction is due, and counts the spacing elsewhere (R97). -/
theorem afterCorrection_correction (f : Phase) :
    (afterCorrection f).correction =
      if correctionDue f then (if 0 < f.correction then f.correction - 1 else f.correction + 1) else f.correction := by
  unfold afterCorrection
  split
  · rfl
  · split <;> rfl

theorem afterCorrection_spacing (f : Phase) :
    (afterCorrection f).spacing =
      if correctionDue f then 0
      else if f.correction ≠ 0 ∧ chainRuns f.lock = true then f.spacing + 1 else f.spacing := by
  unfold afterCorrection
  split
  · rfl
  · simp only [Bool.and_eq_true, decide_eq_true_eq]
    split <;> rfl

theorem correctionDue_iff (f : Phase) :
    correctionDue f = true ↔ f.counting = true ∧ f.correction ≠ 0 ∧ chainRuns f.lock = true ∧ 9 ≤ f.spacing := by
  simp [correctionDue, and_assoc]

/-- The phase of a step event: the sections move while the chain counts, and stay otherwise (R92, R95). -/
theorem stepEvent_phase (s : State) :
    (stepEvent s).phase = if s.phase.counting then advancePhase s.phase else s.phase := by
  unfold stepEvent
  split
  · dsimp only
    split <;> simp
  · rfl

/-- A step event keeps the Phase Unit in order. -/
theorem PhaseOk.of_advance {s t : State} (h : PhaseOk s) (counting : s.phase.counting = true)
    (e : t.phase = advancePhase s.phase) : PhaseOk t := by
  obtain ⟨p, loaded⟩ := Option.isSome_iff_exists.1 (h.loaded counting)
  have sections : (advancePhase s.phase).counting = true ∧ (advancePhase s.phase).spreadAcc < 3600 ∧
      ((advancePhase s.phase).pendingLoad = true → s.phase.pendingLoad = true) ∧
      ∃ q, (advancePhase s.phase).loaded = some q ∧ inAcceptedRange q := by
    by_cases load : cycleStartNext s.phase = true ∧ s.phase.pendingLoad = true
    · obtain ⟨q, saved⟩ := Option.isSome_iff_exists.1 (h.saved load.2)
      obtain ⟨hl, hp, hc, -, -, ha⟩ := advancePhase_of_load load.1 load.2 saved
      exact ⟨hc, by omega, by simp [hp], q, hl, h.savedIn q saved⟩
    · obtain ⟨hl, hp, hc, -, -, ha⟩ := advancePhase_of_next (by grind) loaded
      have := h.spread
      exact ⟨hc.trans counting, by rw [ha]; split <;> omega, by rw [hp]; exact id, p, hl, h.loadedIn p loaded⟩
  obtain ⟨counts, spread, pending, q, loads, accepted⟩ := sections
  have corrected := afterCorrection_correction s.phase
  have spaced := afterCorrection_spacing s.phase
  have due := correctionDue_iff s.phase
  have limits := h.correction
  have steered := h.steered
  have spacing := h.spacing
  constructor <;> rw [e]
  case interval => simpa using h.interval
  case phase => simp [Nat.mod_lt]
  case spread => exact spread
  case loaded => exact fun _ => by rw [loads]; rfl
  case runs => exact fun _ => counts
  case stopped =>
    simp only [advancePhase_frame]
    exact fun hl => absurd ((h.stopped hl).symm.trans counting) (by decide)
  case saved => exact fun hp => by simpa using h.saved (pending hp)
  case savedIn => simpa using h.savedIn
  case loadedIn => exact fun p hp => by cases loads.symm.trans hp; exact accepted
  case correction =>
    simp only [advancePhase_frame, corrected]
    grind
  case steered =>
    intro stopped
    simp only [advancePhase_frame, corrected] at stopped ⊢
    grind
  case spacing =>
    simp only [advancePhase_frame, spaced]
    grind
  case good => simpa using h.good
  case hold => simpa using h.hold
  case holding => simpa using h.holding
  case error => simpa using h.error
  case crossed => simpa using h.crossed

/-! ### Crossings and changes of lock state (R90 to R103) -/

/-- Of the phase a change of lock state changes the lock state alone. -/
@[simp] theorem changeLock_phase (new : Lock) (s : State) : (changeLock new s).phase = { s.phase with lock := new } := by
  simp [changeLock]

theorem limitCorrection_limits (n : Int) : -50 ≤ limitCorrection n ∧ limitCorrection n ≤ 50 := by
  unfold limitCorrection; omega

theorem phaseError_limits (f : Phase) (offset : Nat) : -1800 ≤ phaseError f offset ∧ phaseError f offset ≤ 1799 := by
  unfold phaseError foldPhase; omega

/-- The correction that an error leaves pending (R96). -/
def steered (e correction : Int) : Int :=
  if 2 < e.natAbs then limitCorrection (correction - e) else correction

theorem steered_limits {e c : Int} (h : -50 ≤ c ∧ c ≤ 50) : -50 ≤ steered e c ∧ steered e c ≤ 50 := by
  unfold steered
  split
  · exact limitCorrection_limits _
  · exact h

/-- Following the reference saves the period with a load pending and steers; the rest of the phase stays (R94, R96). -/
theorem followReference_eq (period : Nat) (e : Int) (f : Phase) :
    followReference period e f = { f with
      saved := some period, pendingLoad := true, correction := steered e f.correction,
      spacing := if 2 < e.natAbs ∧ steered e f.correction = 0 then 0 else f.spacing } := by
  unfold followReference steer setCorrection steered
  split
  case isTrue big => simp [big]
  case isFalse small => simp [small]

theorem classOf_inRange {mark : IntervalMark} {count p : Nat} (h : classOf mark count = .inRange p) :
    mark = .crossing ∧ p = count ∧ inAcceptedRange p := by
  unfold classOf at h
  split at h
  · cases h
  · split at h
    · cases h
      exact ⟨rfl, rfl, ‹_›⟩
    · cases h

theorem crossStopped_phaseOk {s : State} (h : PhaseOk s) (stopped : s.phase.lock = .unlocked ∨ s.phase.lock = .lost) :
    PhaseOk (crossStopped s) := by
  have notHolding : s.phase.lock ≠ .holding := by rcases stopped with l | l <;> simp [l]
  constructor <;> simp [crossStopped, setCorrection, chainRuns]
  exacts [h.interval, h.phase, h.spread, h.saved, h.savedIn, h.loadedIn, h.hold, h.holding notHolding, h.error]

/-- An accepted period in ACQUIRING: loaded and saved, with the chain counting at the reference offset (R99). -/
theorem acquirePeriod_eq (p offset : Nat) (f : Phase) :
    acquirePeriod p offset f = { f with
      saved := some p, loaded := some p, pendingLoad := false, phase := offset, spreadAcc := p % 3600, tick := 0,
      longStep := false, counting := true, prevAccepted := some p,
      good := if agrees f.prevAccepted p then f.good + 1 else 0 } := by
  have short : ¬ 3600 ≤ p % 3600 := by omega
  simp [acquirePeriod, loadPeriod, beginStep, stepRemainder, short]

theorem crossAcquiring_phaseOk {s : State} {k : CrossingClass} (h : PhaseOk s) (acquiring : s.phase.lock = .acquiring)
    (crossed : s.phase.mark = .crossing) (offset : s.settings.referenceOffset < 3600)
    (accepted : ∀ p, k = .inRange p → inAcceptedRange p) : PhaseOk (crossAcquiring k s) := by
  have notRunning : chainRuns s.phase.lock = false := by rw [acquiring]; rfl
  have steered := h.steered notRunning
  have notHolding := h.holding (by simp [acquiring])
  have mod (p : Nat) : p % 3600 < 3600 := Nat.mod_lt p (by decide)
  cases k with
  | inRange p =>
    have inRange := accepted p rfl
    have good : (if agrees s.phase.prevAccepted p then s.phase.good + 1 else 0) ≤ 4 := by
      have := h.good
      split <;> omega
    simp only [crossAcquiring, acquirePeriod_eq]
    generalize (if agrees s.phase.prevAccepted p then s.phase.good + 1 else 0) = good' at good ⊢
    split
    · constructor <;> simp [crossed, steered, notHolding, mod, offset]
      exacts [h.interval, inRange, inRange, h.spacing, h.error]
    · constructor <;> simp [crossed, steered, notHolding, mod, offset, acquiring]
      exacts [h.interval, inRange, inRange, h.spacing, by omega, h.error]
  | withoutPeriod | outOfRange =>
    constructor <;> simp [crossAcquiring, acquiring, steered, notHolding, chainRuns]
    exacts [h.interval, h.phase, h.spread, h.loaded, h.saved, h.savedIn, h.loadedIn, h.spacing, h.error]

/-- DISTURBED entered with the good count at 0, from a state whose chain runs and whose last mark is a crossing. -/
theorem phaseOk_disturbed {s : State} {f : Phase} (h : PhaseOk s) (runs : chainRuns s.phase.lock = true)
    (crossed : s.phase.mark = .crossing) (e : Option Int) (error : ∀ x, e = some x → -1800 ≤ x ∧ x ≤ 1799)
    (hf : f = { s.phase with lastError := e, good := 0, hold := 0 }) :
    PhaseOk (changeLock .disturbed { s with phase := f }) := by
  subst hf
  have counting := h.runs runs
  constructor <;> simp [crossed, counting, chainRuns]
  exacts [h.interval, h.phase, h.spread, h.loaded counting, h.saved, h.savedIn, h.loadedIn, h.correction, h.spacing,
    error]

theorem crossLocked_phaseOk {s : State} {k : CrossingClass} (h : PhaseOk s) (locked : s.phase.lock = .locked)
    (crossed : s.phase.mark = .crossing) (accepted : ∀ p, k = .inRange p → inAcceptedRange p) :
    PhaseOk (crossLocked k s) := by
  have runs : chainRuns s.phase.lock = true := by rw [locked]; rfl
  have counting := h.runs runs
  have error := phaseError_limits s.phase s.settings.referenceOffset
  have hold := h.holding (by simp [locked])
  have disturbed := phaseOk_disturbed h runs crossed (some (phaseError s.phase s.settings.referenceOffset))
    (by rintro x ⟨⟩; exact error) (f := { s.phase with
      lastError := some (phaseError s.phase s.settings.referenceOffset), good := 0 }) (by simp [hold])
  cases k with
  | inRange p =>
    unfold crossLocked
    dsimp only
    split
    · have limits := steered_limits (e := phaseError s.phase s.settings.referenceOffset) h.correction
      have spacing := h.spacing
      rw [followReference_eq]
      constructor <;> simp [locked, crossed, counting, chainRuns, hold]
      exacts [h.interval, h.phase, h.spread, h.loaded counting, accepted p rfl, h.loadedIn, limits, by split <;> omega, h.good,
        error]
    · exact disturbed
  | withoutPeriod | outOfRange => exact disturbed

theorem crossDisturbed_phaseOk {s : State} {k : CrossingClass} (h : PhaseOk s) (disturbed : s.phase.lock = .disturbed)
    (crossed : s.phase.mark = .crossing) (accepted : ∀ p, k = .inRange p → inAcceptedRange p) :
    PhaseOk (crossDisturbed k s) := by
  have runs : chainRuns s.phase.lock = true := by rw [disturbed]; rfl
  have counting := h.runs runs
  have error := phaseError_limits s.phase s.settings.referenceOffset
  have hold := h.holding (by simp [disturbed])
  have counted (n : Nat) (hn : n ≤ 3) : PhaseOk { s with phase := { s.phase with
      lastError := some (phaseError s.phase s.settings.referenceOffset), good := n } } := by
    constructor <;> simp [disturbed, crossed, counting, chainRuns, hold]
    exacts [h.interval, h.phase, h.spread, h.loaded counting, h.saved, h.savedIn, h.loadedIn, h.correction, h.spacing, hn,
      error]
  cases k with
  | inRange p =>
    unfold crossDisturbed
    dsimp only
    split
    · split
      · have limits := steered_limits (e := phaseError s.phase s.settings.referenceOffset) h.correction
        have spacing := h.spacing
        rw [followReference_eq]
        constructor <;> simp [crossed, counting, chainRuns, hold]
        exacts [h.interval, h.phase, h.spread, h.loaded counting, accepted p rfl, h.loadedIn, limits, by split <;> omega, error]
      · exact counted _ (by omega)
    · exact counted 0 (by decide)
  | withoutPeriod | outOfRange => exact counted 0 (by decide)

theorem crossHolding_phaseOk {s : State} (h : PhaseOk s) (holding : s.phase.lock = .holding)
    (crossed : s.phase.mark = .crossing) : PhaseOk (crossHolding s) :=
  phaseOk_disturbed h (by rw [holding]; rfl) crossed s.phase.lastError h.error rfl

theorem takeCrossing_phaseOk {s : State} (h : PhaseOk s) (offset : s.settings.referenceOffset < 3600) (count : Nat) :
    PhaseOk (takeCrossing count s) := by
  have restarted : PhaseOk { s with phase := { s.phase with interval := 0, mark := .crossing } } := by
    constructor <;> simp
    exacts [h.phase, h.spread, h.loaded, h.runs, h.stopped, h.saved, h.savedIn, h.loadedIn, h.correction, h.steered,
      h.spacing, h.good, h.hold, h.holding, h.error]
  have accepted (p : Nat) (hk : classOf s.phase.mark count = .inRange p) : inAcceptedRange p := (classOf_inRange hk).2.2
  unfold takeCrossing
  dsimp only
  split
  case h_1 l => exact crossStopped_phaseOk restarted (.inl l)
  case h_2 l => exact crossStopped_phaseOk restarted (.inr l)
  case h_3 l => exact crossAcquiring_phaseOk restarted l rfl offset accepted
  case h_4 l => exact crossLocked_phaseOk restarted l rfl accepted
  case h_5 l => exact crossDisturbed_phaseOk restarted l rfl accepted
  case h_6 l => exact crossHolding_phaseOk restarted l rfl

/-- HOLDING with its count, the interval restarted by an expiry (R102). -/
theorem phaseOk_holding {s t : State} (h : PhaseOk s) (runs : chainRuns s.phase.lock = true) {n good : Nat} (hn : n ≤ 16)
    (hg : good ≤ 3) (ht : t.phase = { s.phase with
      lock := .holding, interval := 0, mark := .missed, hold := n, good := good }) : PhaseOk t := by
  have counting := h.runs runs
  constructor <;> simp [ht, counting, chainRuns, hn]
  exacts [h.phase, h.spread, h.loaded counting, h.saved, h.savedIn, h.loadedIn, h.correction, h.spacing, hg, h.error]

/-- LOST, with the chain stopped and its items at 0 (R103). -/
theorem becomeLost_phaseOk {s t : State} (h : PhaseOk s)
    (ht : t.phase = { s.phase with interval := 0, mark := .missed, hold := t.phase.hold }) :
    PhaseOk (becomeLost t) := by
  constructor <;> simp [becomeLost, lostItems, setCorrection, chainRuns] <;> rw [ht]
  exacts [by simp, h.phase, h.spread, h.saved, h.savedIn, h.loadedIn, h.error]

theorem missedCrossing_phaseOk {s : State} (h : PhaseOk s) : PhaseOk (missedCrossing s) := by
  unfold missedCrossing
  dsimp only
  split
  case h_1 l | h_2 l =>
    constructor <;> simp [l]
    exacts [h.phase, h.spread, h.loaded, by simpa [l] using h.runs, by simpa [l] using h.stopped, h.saved, h.savedIn,
      h.loadedIn, h.correction, by simpa [l] using h.steered, h.spacing, h.good, h.hold, by simpa [l] using h.holding,
      h.error]
  case h_3 l =>
    constructor <;> simp [l]
    exacts [h.phase, h.spread, h.loaded, by simpa [l] using h.runs, h.saved, h.savedIn,
      h.loadedIn, h.correction, by simpa [l] using h.steered, h.spacing, h.hold, by simpa [l] using h.holding,
      h.error]
  case h_4 l => exact phaseOk_holding h (by rw [l]; rfl) (n := 1) (by decide) h.good (by simp)
  case h_5 l => exact phaseOk_holding h (by rw [l]; rfl) (n := 1) (by decide) (Nat.zero_le 3) (by simp)
  case h_6 l =>
    split
    · exact becomeLost_phaseOk h rfl
    · exact phaseOk_holding h (by rw [l]; rfl) (n := saturate 16 s.phase.hold) (Nat.min_le_right _ _) h.good (by simp [l])

theorem expireTimes_phaseOk (n : Nat) {s : State} (h : PhaseOk s) : PhaseOk (expireTimes n s) := by
  induction n generalizing s with
  | zero => exact h
  | succ n ih => exact ih (missedCrossing_phaseOk h)

theorem referenceCrossing_phaseOk {s : State} (h : PhaseOk s) (offset : s.settings.referenceOffset < 3600)
    (since : Nat) : PhaseOk (referenceCrossing since s) :=
  takeCrossing_phaseOk (expireTimes_phaseOk _ h) (by simpa using offset) _

/-! ### Requests that reach the Phase Unit (R98, R105) -/

theorem trimBy_phaseOk {s : State} (h : PhaseOk s) (runs : chainRuns s.phase.lock = true) (step : Int) :
    PhaseOk (trimBy step s).1 := by
  have limits := limitCorrection_limits (s.phase.correction + step)
  unfold trimBy
  dsimp only
  split
  · exact h
  · have := h.spacing
    constructor <;> simp [setCorrection, runs]
    exacts [h.interval, h.phase, h.spread, h.loaded, h.runs runs, h.stopped, h.saved, h.savedIn, h.loadedIn, limits,
      by split <;> omega, h.good, h.hold, h.holding, h.error, h.crossed]

theorem trimClaim_phaseOk {s : State} (h : PhaseOk s) (insert suppress : Bool) :
    PhaseOk (trimClaim insert suppress s).1 := by
  unfold trimClaim
  split
  · exact h
  · split
    · exact h
    case isFalse runs =>
      have runs : chainRuns s.phase.lock = true := by simpa using runs
      split
      · exact trimBy_phaseOk h runs 1
      · exact trimBy_phaseOk h runs (-1)
      · exact h

theorem offsetSet_phaseOk {s : State} (h : PhaseOk s) : PhaseOk (offsetSet s) := by
  unfold offsetSet
  split
  case isTrue runs =>
    have counting := h.runs runs
    constructor <;> simp [offsetItems, setCorrection, chainRuns]
    exacts [h.interval, h.phase, h.spread, h.loaded, h.savedIn, h.loadedIn, h.error]
  case isFalse => exact h

theorem setConsequences_phaseOk {s : State} (h : PhaseOk s) (σ : Setting) (v : Valve) :
    PhaseOk (setConsequences σ v s) := by
  unfold setConsequences
  split
  case h_6 => exact offsetSet_phaseOk h
  all_goals exact h.congr (by simp)

theorem storeClaim_phaseOk {s : State} (h : PhaseOk s) (σ : Setting) (v : Valve) (n : Nat) :
    PhaseOk (storeClaim σ v n s).1 := by
  unfold storeClaim
  split
  · exact h
  · exact setConsequences_phaseOk (s := { s with settings := putSetting s.settings v n σ }) (.congr (s := s) rfl h) σ v

/-- The claim of SET is the store's claim for some valve, or changes nothing (R165). -/
theorem setClaim_cases (σ : Setting) (valve : Byte) (value : Word16) (s : State) :
    (setClaim σ valve value s).1 = s ∨
      ∃ v : Valve, setClaim σ valve value s = storeClaim σ v value.toNat s := by
  unfold setClaim
  split
  · exact .inl rfl
  · exact .inr ⟨_, rfl⟩

theorem setClaim_phaseOk {s : State} (h : PhaseOk s) (σ : Setting) (valve : Byte) (value : Word16) :
    PhaseOk (setClaim σ valve value s).1 := by
  obtain e | ⟨v, e⟩ := setClaim_cases σ valve value s
  · rw [e]; exact h
  · rw [e]; exact storeClaim_phaseOk h σ v value.toNat

/-! ### Every step -/

theorem interval_lt_of_not_due {s : State} (h : dueEvents s = []) : s.phase.interval < 940000 := by
  have h : intervalEvents s.phase = [] := by
    simp only [dueEvents, List.append_eq_nil_iff] at h
    exact h.1.1.1
  by_contra due
  simp [intervalEvents, intervalLimit, Nat.not_lt.1 due] at h

theorem countTick_phaseOk {s : State} (h : PhaseOk s) (quiet : dueEvents s = []) : PhaseOk (countTick s) := by
  have e : (countTick s).phase = { s.phase with
      interval := s.phase.interval + 1, tick := (countTick s).phase.tick } := by
    by_cases counting : s.phase.counting = true <;> simp [countTick, tickStep, tickInterval, counting]
  constructor <;> rw [e]
  exacts [interval_lt_of_not_due quiet, h.phase, h.spread, h.loaded, h.runs, h.stopped, h.saved, h.savedIn, h.loadedIn,
    h.correction, h.steered, h.spacing, h.good, h.hold, h.holding, h.error, h.crossed]

/-- A reset's phase (R107) is in order. -/
theorem phaseOk_of_afterReset {s : State} (h : s.phase = Phase.afterReset) : PhaseOk s := by
  constructor <;> simp [h, Phase.afterReset, chainRuns]

theorem stepEvent_phaseOk {s : State} (h : PhaseOk s) : PhaseOk (stepEvent s) := by
  have e := stepEvent_phase s
  by_cases counting : s.phase.counting = true
  · exact h.of_advance counting (e.trans (if_pos counting))
  · exact h.congr (e.trans (if_neg counting))

theorem phaseOk_of_event {f : State → State} (hf : EventOf f) {s : State} (h : BlocksOk s) : PhaseOk (f s) := by
  have offset : s.settings.referenceOffset < 3600 := Nat.lt_succ_of_le (h.settings.range .referenceOffset 0).2
  cases hf with
  | restartPulse => exact phaseOk_of_afterReset rfl
  | crossing since => exact referenceCrossing_phaseOk h.phase offset since
  | missed => exact missedCrossing_phaseOk h.phase
  | step => exact stepEvent_phaseOk h.phase
  | _ => exact h.phase.congr (by simp)

theorem phaseOk_of_claim {p : Port} {k : State → State × Option Reply} (hk : ClaimKind p k) {s : State}
    (h : BlocksOk s) : PhaseOk (k s).1 := by
  cases hk with
  | trim i d => exact trimClaim_phaseOk h.phase i d
  | set σ v w => exact setClaim_phaseOk h.phase σ v w
  | lookup | clearNotices | setMask => exact h.phase.congr (by simp [readOnly, clearNoticesClaim, setMaskClaim])
  | _ => exact h.phase.congr (by simp)

theorem phaseOk_keptByParts : KeptByParts PhaseOk where
  reads e h := h.congr e.phase
  same _ h := h.phase
  power _ _ := phaseOk_of_afterReset rfl
  restart _ _ _ := phaseOk_of_afterReset rfl
  tick _ h quiet := countTick_phaseOk h.phase quiet
  event _ hf _ h := phaseOk_of_event hf h
  claim _ _ hk _ h := phaseOk_of_claim hk h

/-- Settles O58: the Phase Unit's invariant through the events, the claims, the resets and the base tick. -/
theorem stepKeepsPhase : Obligations.StepKeepsPhase := by
  unfold Obligations.StepKeepsPhase
  intro s t invariant reached
  exact step_keeps phaseOk_keptByParts invariant reached

end Sys2Proof.Machine

/-! The tallies as counts of the records (R24 to R32): what the recount reads of a record, the sound count and the spread
after one record change, and the tallies after a claim. -/

namespace Sys2Proof.Machine

/-! ### What the recount reads -/

/-- What the counts of a tally read of a record. -/
def tallyKey (r : LevelRecord) : Life × EmitClass := (r.life, r.emitClass)

theorem countOf_eq_of_keys (f : Life × EmitClass → Bool) {as bs : List LevelRecord}
    (h : as.map tallyKey = bs.map tallyKey) : countOf (fun r => f (tallyKey r)) as = countOf (fun r => f (tallyKey r)) bs := by
  have counted (rs : List LevelRecord) : countOf (fun r => f (tallyKey r)) rs = (rs.map tallyKey).countP f := by
    rw [countOf, ← List.countP_eq_length_filter, List.countP_map]
    rfl
  rw [counted, counted, h]

theorem topOf_eq_of_keys {as bs : List LevelRecord} (h : as.map tallyKey = bs.map tallyKey) : topOf as = topOf bs := by
  have length : as.length = bs.length := by simpa using congrArg List.length h
  have life (k : Nat) : as[k]?.map LevelRecord.life = bs[k]?.map LevelRecord.life := by
    have := congrArg (fun l => l[k]?.map Prod.fst) h
    simpa [List.getElem?_map, Option.map_map, Function.comp_def, tallyKey] using this
  simp only [topOf, length, life]

theorem table_keys {s t : State} {v : Valve} (h : ∀ p, tallyKey (t.record v p) = tallyKey (s.record v p)) :
    t.table[v].toList.map tallyKey = s.table[v].toList.map tallyKey := by
  apply List.ext_getElem
  · simp
  · intro i hi _
    have hi : i < 96 := by simpa using hi
    have := h ⟨i, hi⟩
    simpa [State.record] using this

/-- The settings that a tally reads (R27, R31). -/
structure SameTallySettings (s t : Settings) (v : Valve) : Prop where
  standard : t.standardOnTime = s.standardOnTime
  long     : t.longOnTime = s.longOnTime
  minimum  : t.minimumSound[v] = s.minimumSound[v]
  reserve  : t.reserve[v] = s.reserve[v]

theorem SameTallySettings.of_eq {s t : Settings} (h : t = s) (v : Valve) : SameTallySettings s t v := by
  subst h; exact ⟨rfl, rfl, rfl, rfl⟩

/-- The recount of a valve reads of its records the life states and the emit classes alone. -/
theorem recounted_eq_of_keys {s t : State} {v : Valve} (h : ∀ p, tallyKey (t.record v p) = tallyKey (s.record v p))
    (hs : SameTallySettings s.settings t.settings v) : recounted v t = recounted v s := by
  have keys := table_keys h
  have bank (b : Bank) : (bankRecords v b t).map tallyKey = (bankRecords v b s).map tallyKey := by
    simp only [bankRecords, List.map_take, List.map_drop, keys]
  have lives (x : Life) := countOf_eq_of_keys (fun k => decide (k.1 = x)) keys
  have emitting (b : Bank) : countOf countsEmitting (bankRecords v b t) = countOf countsEmitting (bankRecords v b s) :=
    countOf_eq_of_keys (fun k => isEmitting k.1) (bank b)
  have long (b : Bank) : countOf countsLong (bankRecords v b t) = countOf countsLong (bankRecords v b s) :=
    countOf_eq_of_keys (fun k => isEmitting k.1 && decide (k.2 = .long)) (bank b)
  have lives (x : Life) : countOf (fun r => decide (r.life = x)) t.table[v].toList =
      countOf (fun r => decide (r.life = x)) s.table[v].toList := lives x
  simp only [recounted, lives, emitting, long, topOf_eq_of_keys keys, hs.standard, hs.long, hs.minimum, hs.reserve]

/-! ### The sound count (R26, R27) -/

theorem countOf_le_length (test : LevelRecord → Bool) (rs : List LevelRecord) : countOf test rs ≤ rs.length :=
  List.length_filter_le test rs

/-- A record that passes a test is counted. -/
theorem countOf_pos_of_record {test : LevelRecord → Bool} {s : State} {v : Valve} {p : Position}
    (h : test (s.record v p) = true) : 1 ≤ countOf test s.table[v].toList := by
  have hp : p.val < s.table[v].toList.length := by rw [length_records]; exact p.isLt
  refine List.length_pos_iff_exists_mem.2 ⟨s.record v p, List.mem_filter.2 ⟨?_, h⟩⟩
  rw [← record_eq s v p hp]
  exact List.getElem_mem hp

theorem isSound_eq (l : Life) : isSound l = (decide (l = .serving) || decide (l = .suspect)) := by cases l <;> rfl

/-- The sound count is the number of records in a sound state. -/
theorem recounted_sound (v : Valve) (s : State) :
    (recounted v s).sound = countOf (fun r => isSound r.life) s.table[v].toList := by
  have apart (rs : List LevelRecord) : countOf (fun r => decide (r.life = .serving)) rs +
      countOf (fun r => decide (r.life = .suspect)) rs = countOf (fun r => isSound r.life) rs := by
    induction rs with
    | nil => rfl
    | cons r rs ih =>
      simp only [countOf, List.filter_cons, isSound_eq] at ih ⊢
      cases r.life <;> simp <;> omega
  exact apart _

/-- The sound count after a record change (R25). -/
theorem recounted_sound_setRecord (v : Valve) (p : Position) (r : LevelRecord) (s : State) :
    (recounted v (s.setRecord v p r)).sound =
      (recounted v s).sound - (if isSound (s.record v p).life then 1 else 0) + (if isSound r.life then 1 else 0) := by
  rw [recounted_sound, recounted_sound, countOf_setRecord]

theorem gradeOf_unfit_iff (sound failed minimum reserve : Nat) :
    gradeOf sound failed minimum reserve = .unfit ↔ sound < minimum := by
  unfold gradeOf
  split
  · simp [*]
  · split
    · simp [*]
    · split <;> simp [*]

theorem recounted_unfit_iff (v : Valve) (s : State) :
    (recounted v s).grade = .unfit ↔ (recounted v s).sound < s.settings.minimumSound[v] :=
  gradeOf_unfit_iff _ _ _ _

/-! ### The spread (R31) -/

/-- What an active bank adds to the spread, with the 1 µs to the next. -/
def bankCost (emitting long standardOn longOn : Nat) : Nat :=
  if 0 < emitting then (if 0 < long then longOn else standardOn) + 1 else 0

/-- The spread is the sum of the active banks' costs, less the 1 µs after the last. -/
theorem spreadOf_eq (emitting long : Vector Nat 4) (standardOn longOn : Nat) :
    spreadOf emitting long standardOn longOn =
      bankCost emitting[0] long[0] standardOn longOn + bankCost emitting[1] long[1] standardOn longOn +
        bankCost emitting[2] long[2] standardOn longOn + bankCost emitting[3] long[3] standardOn longOn - 1 := by
  have sum (l : List Bank) : ((l.filter fun b => decide (0 < emitting[b])).map fun b =>
        if 0 < long[b] then longOn else standardOn).sum + (l.filter fun b => decide (0 < emitting[b])).length =
      (l.map fun b => bankCost emitting[b] long[b] standardOn longOn).sum := by
    induction l with
    | nil => rfl
    | cons b l ih =>
      simp only [List.filter_cons, List.map_cons, List.sum_cons, bankCost] at ih ⊢
      by_cases active : 0 < emitting[b]
      · simp only [active, decide_true, if_true, List.map_cons, List.sum_cons, List.length_cons]
        omega
      · simp only [active, decide_false, Bool.false_eq_true, if_false]
        omega
  have total := sum allBanks
  have none_active : (allBanks.filter fun b => decide (0 < emitting[b])).length = 0 →
      ((allBanks.filter fun b => decide (0 < emitting[b])).map fun b =>
        if 0 < long[b] then longOn else standardOn).sum = 0 := fun h => by
    rw [List.eq_nil_of_length_eq_zero h]
    rfl
  have listed : (allBanks.map fun b => bankCost emitting[b] long[b] standardOn longOn).sum =
      bankCost emitting[0] long[0] standardOn longOn + bankCost emitting[1] long[1] standardOn longOn +
        bankCost emitting[2] long[2] standardOn longOn + bankCost emitting[3] long[3] standardOn longOn := by
    simp [allBanks]; omega
  rw [← listed]
  unfold spreadOf
  dsimp only
  omega

theorem bankCost_mono {e e' l l' standardOn longOn : Nat} (he : e' ≤ e) (hl : l' ≤ l) (ho : standardOn ≤ longOn) :
    bankCost e' l' standardOn longOn ≤ bankCost e l standardOn longOn := by
  unfold bankCost
  grind

/-- Fewer emitting and fewer LONG records give no greater spread, where the long on-time is the longer one. -/
theorem recounted_spread_mono {s t : State} {v : Valve}
    (he : ∀ b, countOf countsEmitting (bankRecords v b t) ≤ countOf countsEmitting (bankRecords v b s))
    (hl : ∀ b, countOf countsLong (bankRecords v b t) ≤ countOf countsLong (bankRecords v b s))
    (hs : t.settings = s.settings) (ho : s.settings.standardOnTime ≤ s.settings.longOnTime) :
    (recounted v t).spread ≤ (recounted v s).spread := by
  have cost (b : Bank) := bankCost_mono (he b) (hl b) ho
  have h0 := cost 0
  have h1 := cost 1
  have h2 := cost 2
  have h3 := cost 3
  simp only [recounted, spreadOf_eq, hs]
  simp only [Vector.getElem_mk, List.getElem_toArray, List.getElem_cons_zero, List.getElem_cons_succ]
  omega

/-- A record in one bank that passes a test is counted there. -/
theorem countOf_bankRecords_pos {test : LevelRecord → Bool} {s : State} {v : Valve} {p : Position}
    (h : test (s.record v p) = true) : 1 ≤ countOf test (bankRecords v (bankOf p) s) := by
  have hp : p.val < s.table[v].toList.length := by rw [length_records]; exact p.isLt
  have hl := length_records s v
  refine List.length_pos_iff_exists_mem.2 ⟨s.record v p, List.mem_filter.2 ⟨?_, h⟩⟩
  have hi : p.val - 24 * (p.val / 24) < ((s.table[v].toList.drop (24 * (p.val / 24))).take 24).length := by
    rw [List.length_take, List.length_drop, hl]; omega
  have e : ((s.table[v].toList.drop (24 * (p.val / 24))).take 24)[p.val - 24 * (p.val / 24)] = s.record v p := by
    rw [List.getElem_take, List.getElem_drop]
    simp only [show 24 * (p.val / 24) + (p.val - 24 * (p.val / 24)) = p.val by omega]
    exact record_eq s v p _
  rw [← e]
  exact List.getElem_mem hi

/-- A change to a record that emits no more than the one before, and is no more LONG, raises no spread (R14, R31). -/
theorem recounted_spread_setRecord {v : Valve} {p : Position} {r : LevelRecord} {s : State}
    (he : countsEmitting r = true → countsEmitting (s.record v p) = true)
    (hl : countsLong r = true → countsLong (s.record v p) = true)
    (ho : s.settings.standardOnTime ≤ s.settings.longOnTime) :
    (recounted v (s.setRecord v p r)).spread ≤ (recounted v s).spread := by
  have falls (test : LevelRecord → Bool) (h : test r = true → test (s.record v p) = true) (b : Bank) :
      countOf test (bankRecords v b (s.setRecord v p r)) ≤ countOf test (bankRecords v b s) := by
    rw [countOf_bankRecords_setRecord]
    split
    case isTrue hb =>
      have counted := countOf_bankRecords_pos (test := test) (s := s) (v := v) (p := p)
      subst hb
      grind
    case isFalse => exact Nat.le_refl _
  exact recounted_spread_mono (falls _ he) (falls _ hl) rfl ho

/-! ### The tallies after a claim (R25, R26) -/

theorem tallyKey_of_unmoved {old new : LevelRecord} (h : recordMoves old new = false) : tallyKey new = tallyKey old := by
  simp only [recordMoves, Bool.or_eq_false_iff, decide_eq_false_iff_not, not_not] at h
  simp only [tallyKey, h.1.1, h.1.2]

theorem commitRecord_keys (v : Valve) (p : Position) (new : LevelRecord) (origin : UnfitOrigin) (s : State)
    (w : Valve) (x : Position) :
    tallyKey ((commitRecord v p new origin s).record w x) = tallyKey ((s.setRecord v p new).record w x) := by
  by_cases h : (w, x) = (v, p)
  · cases h
    rw [commitRecord_record, State.setRecord_record_same]
    split <;> rfl
  · rw [commitRecord_record_other h, State.setRecord_record, if_neg]
    rintro ⟨rfl, rfl⟩
    exact h rfl

theorem commitRecord_recounted (v w : Valve) (p : Position) (new : LevelRecord) (origin : UnfitOrigin) (s : State) :
    recounted w (commitRecord v p new origin s) = recounted w (s.setRecord v p new) :=
  recounted_eq_of_keys (commitRecord_keys v p new origin s w) (.of_eq (by simp) w)

/-- A valve's recount is as it was after a change of another valve's record, or one that moves nothing. -/
theorem setRecord_recounted_of_unmoved {v w : Valve} {p : Position} {new : LevelRecord} {s : State}
    (h : v ≠ w ∨ recordMoves (s.record v p) new = false) : recounted w (s.setRecord v p new) = recounted w s := by
  refine recounted_eq_of_keys (fun x => ?_) (.of_eq rfl w)
  rw [State.setRecord_record]
  split
  case isTrue same =>
    obtain ⟨rfl, rfl⟩ := same
    exact tallyKey_of_unmoved (h.resolve_left fun h => h rfl)
  case isFalse => rfl

/-- The tallies agree with the records after every claim that makes no record EMPTY (R24 to R26). -/
theorem commitRecord_talliesOk {v : Valve} {p : Position} {new : LevelRecord} {s : State} (h : TalliesOk s)
    (he : new.life = .empty → (s.record v p).life = .empty) (origin : UnfitOrigin) :
    TalliesOk (commitRecord v p new origin s) := fun w => by
  rw [commitRecord_tally, commitRecord_recounted]
  split
  case isTrue moved =>
    obtain ⟨rfl, -⟩ := moved
    exact after_eq_recounted s v p new (h v) he
  case isFalse same =>
    rw [setRecord_recounted_of_unmoved (by grind), h w]

theorem commitRecord_tally_eq {v : Valve} {p : Position} {new : LevelRecord} {s : State} (h : TalliesOk s)
    (he : new.life = .empty → (s.record v p).life = .empty) (origin : UnfitOrigin) :
    (commitRecord v p new origin s).tally v = recounted v (s.setRecord v p new) := by
  rw [commitRecord_talliesOk h he origin v, commitRecord_recounted]

end Sys2Proof.Machine

/-! Settings, tallies, spreads, fitness and records over every step (R2, R3, R24, R32, R127, R164): what a record change
and a result make of a record, what a claim makes of the valve's tally, and what the SET rows make of the store. -/

namespace Sys2Proof.Machine

/-! ### Records that stay in order (R2, R3) -/

/-- The revision is no part of a record's order. -/
theorem RecordOk.withRevision {r : LevelRecord} (h : RecordOk r) (n : Word16) : RecordOk { r with revision := n } :=
  ⟨h.missRun, h.pfRun, h.pfTotal, h.progress, h.idle, h.window, h.cause, h.noCause, h.retire, h.tag⟩

/-- What a record change keeps of a record in order that it admits: the order; the record is not EMPTY; a record that
leaves the sound states is subject to MARGIN (R13), and one that is not subject to SPREAD emits no more than before
(R14). -/
structure Change.Keeps (k : Change) (r : LevelRecord) : Prop where
  record   : RecordOk (k.result r)
  notEmpty : (k.result r).life ≠ .empty
  sound    : isSound r.life = true → isSound (k.result r).life = false → k.leavesSound r = true
  emitting : k.spreads r = false → countsEmitting (k.result r) = true → countsEmitting r = true
  long     : k.spreads r = false → countsLong (k.result r) = true → countsLong r = true

theorem amendFields_tag {cls : Option EmitClass} {tag : Option Word24} {r : LevelRecord} (h : r.unitTag ≠ some 0) :
    (amendFields cls tag r).unitTag ≠ some 0 := by
  unfold amendFields
  dsimp only
  split
  · exact h
  · split
    · simp
    · simpa using ‹_›

/-- A new class alone makes no record in service more emitting where SPREAD is not asked for (R14). -/
theorem countsLong_of_class_kept {cls : Option EmitClass} {r r' : LevelRecord} (hc : changesEmittingClass cls r = false)
    (he : isEmitting r.life = true) (hcls : r'.emitClass = cls.getD r.emitClass) (hl : countsLong r' = true) :
    countsLong r = true := by
  simp only [changesEmittingClass, he, Bool.true_and, decide_eq_false_iff_not, not_not] at hc
  simp only [countsLong, Bool.and_eq_true, decide_eq_true_eq] at hl ⊢
  exact ⟨he, by rw [← hc, ← hcls]; exact hl.2⟩

theorem admitChange_keeps {cls : Option EmitClass} {tag : Option Word24} {r : LevelRecord} (htag : tag ≠ some 0)
    (hr : (admitChange cls tag).admits r = true) : (admitChange cls tag).Keeps r := by
  have outside : r.life = .empty ∨ r.life = .retired := by
    simp only [admitChange, inService, Bool.not_eq_true', Bool.and_eq_false_iff, decide_eq_false_iff_not, not_not] at hr
    exact hr
  constructor
  case record =>
    constructor <;> simp [admitChange, admitted, clearEvidence, hasCause]
    exact htag
  case notEmpty => simp [admitChange, admitted]
  case sound => obtain l | l := outside <;> simp [l, isSound]
  case emitting | long => simp [admitChange]

theorem amendChange_keeps {cls : Option EmitClass} {tag : Option Word24} {r : LevelRecord} (h : RecordOk r)
    (hr : (amendChange cls tag).admits r = true) : (amendChange cls tag).Keeps r := by
  have inside : r.life ≠ .empty ∧ r.life ≠ .retired := by simpa [amendChange, inService] using hr
  constructor
  case record =>
    exact ⟨h.missRun, h.pfRun, h.pfTotal, h.progress, h.idle, h.window, h.cause, h.noCause, h.retire,
      amendFields_tag (cls := cls) h.tag⟩
  case notEmpty => exact inside.1
  case sound => exact fun a b => absurd (a.symm.trans b) (by decide)
  case emitting => exact fun _ he => he
  case long =>
    intro hc hl
    have he : isEmitting r.life = true := (Bool.and_eq_true _ _ ▸ hl : _ ∧ _).1
    exact countsLong_of_class_kept hc he rfl hl

theorem clearChange_keeps {cls : Option EmitClass} {tag : Option Word24} {r : LevelRecord} (h : RecordOk r)
    (hr : (clearChange cls tag).admits r = true) : (clearChange cls tag).Keeps r := by
  have suspect : r.life = .suspect := by simpa [clearChange] using hr
  have emits : isEmitting r.life = true := by rw [suspect]; rfl
  have reason : ¬ r.retireReason.isSome = true := fun k => by simpa [suspect] using h.retire.1 k
  constructor
  case record =>
    refine ⟨h.missRun, h.pfRun, h.pfTotal, Nat.zero_le _, fun _ _ => rfl, h.window, ?_, fun _ _ => rfl, ?_,
      amendFields_tag (cls := cls) h.tag⟩
    · simp [clearChange, cleared, hasCause]
    · simpa [clearChange, cleared, amendFields] using reason
  case notEmpty => simp [clearChange, cleared]
  case sound => simp [clearChange, cleared, isSound]
  case emitting => exact fun _ _ => emits
  case long => exact fun hc hl => countsLong_of_class_kept hc emits rfl hl

theorem reproveChange_keeps {cls : Option EmitClass} {tag : Option Word24} {r : LevelRecord} (h : RecordOk r)
    (hr : (reproveChange cls tag).admits r = true) : (reproveChange cls tag).Keeps r := by
  have found : r.life = .suspect ∨ isFailed r.life = true := by simpa [reproveChange] using hr
  have inside : r.life ≠ .retired := by
    rintro l
    simp [l, isFailed] at found
  have reason : ¬ r.retireReason.isSome = true := fun k => inside (h.retire.1 k)
  have unspread (hc : (reproveChange cls tag).spreads r = false) :
      changesEmittingClass cls r = false ∧ r.life = .suspect := by
    have hc : isFailed r.life = false ∧ changesEmittingClass cls r = false := by simpa [reproveChange] using hc
    exact ⟨hc.2, found.resolve_right (by simp [hc.1])⟩
  constructor
  case record =>
    refine ⟨Nat.zero_le _, Nat.zero_le _, Nat.zero_le _, Nat.zero_le _, fun _ _ => rfl, Nat.zero_le _, ?_,
      fun _ _ => rfl, ?_, amendFields_tag (cls := cls) h.tag⟩
    · simp [reproveChange, reproved, hasCause]
    · simpa [reproveChange, reproved, clearEvidence, amendFields] using reason
  case notEmpty => simp [reproveChange, reproved]
  case sound =>
    intro sound _
    obtain l | l := found
    · simp [reproveChange, l]
    · exact absurd sound (by cases hl : r.life <;> simp_all [isSound, isFailed])
  case emitting =>
    intro hc _
    simp [countsEmitting, (unspread hc).2, isEmitting, isMonitored]
  case long =>
    intro hc hl
    have ⟨hc, l⟩ := unspread hc
    exact countsLong_of_class_kept hc (by rw [l]; rfl) rfl hl

theorem retireChange_keeps {why : RetireReason} {r : LevelRecord} (h : RecordOk r) : (retireChange why).Keeps r := by
  constructor
  case record =>
    exact ⟨h.missRun, h.pfRun, h.pfTotal, Nat.zero_le _, fun _ _ => rfl, h.window, by simp [retireChange, retired, hasCause],
      by simp [retireChange, retired], by simp [retireChange, retired], h.tag⟩
  case notEmpty => simp [retireChange, retired]
  case sound => exact fun sound _ => sound
  case emitting | long =>
    simp [countsEmitting, countsLong, retireChange, retired, isEmitting, isMonitored]

/-! ### Results (R40 to R51) -/

/-- What a result keeps of a monitored record in order: the order, the class and the tag, and it is not EMPTY. -/
structure ResultKeeps (old new : LevelRecord) : Prop where
  record   : RecordOk new
  notEmpty : new.life ≠ .empty
  cls      : new.emitClass = old.emitClass
  tag      : new.unitTag = old.unitTag
  revision : new.revision = old.revision

theorem saturate_le (cap n : Nat) : saturate cap n ≤ cap := Nat.min_le_right _ _

theorem not_retired_of_monitored {r : LevelRecord} (h : isMonitored r.life = true) : r.life ≠ .retired ∧ r.life ≠ .empty := by
  constructor <;> rintro l <;> simp [l, isMonitored] at h

theorem missingIndication_keeps {settings : Settings} {r : LevelRecord} (h : RecordOk r)
    (hm : isMonitored r.life = true) : ResultKeeps r (missingIndication settings r) := by
  have ⟨notRetired, notEmpty⟩ := not_retired_of_monitored hm
  have reason : ¬ r.retireReason.isSome = true := fun k => notRetired (h.retire.1 k)
  unfold missingIndication
  dsimp only
  split
  · refine ⟨⟨saturate_le _ _, h.pfRun, h.pfTotal, Nat.zero_le _, fun _ _ => rfl, h.window, fun _ => rfl, ?_, ?_, h.tag⟩,
      ?_, rfl, rfl, rfl⟩
    · simp [hasCause]
    · simpa using reason
    · simp
  · exact ⟨⟨saturate_le _ _, h.pfRun, h.pfTotal, Nat.zero_le _, fun _ _ => rfl, h.window, h.cause, h.noCause, h.retire,
      h.tag⟩, notEmpty, rfl, rfl, rfl⟩

theorem protectiveFiring_keeps {settings : Settings} {r : LevelRecord} (h : RecordOk r)
    (hm : isMonitored r.life = true) : ResultKeeps r (protectiveFiring settings r) := by
  have ⟨notRetired, notEmpty⟩ := not_retired_of_monitored hm
  have reason : ¬ r.retireReason.isSome = true := fun k => notRetired (h.retire.1 k)
  have failed (l : Life) (why : Cause) (hl : l = .dark ∨ l = .suspect) :
      ResultKeeps r { r with missRun := 0, pfTotal := saturate 255 r.pfTotal, pfRun := saturate 15 r.pfRun,
                             progress := 0, life := l, cause := some why } := by
    refine ⟨⟨Nat.zero_le _, saturate_le _ _, saturate_le _ _, Nat.zero_le _, fun _ _ => rfl, h.window, fun _ => rfl, ?_, ?_,
      h.tag⟩, ?_, rfl, rfl, rfl⟩
    · obtain rfl | rfl := hl <;> simp [hasCause]
    · obtain rfl | rfl := hl <;> simpa using reason
    · obtain rfl | rfl := hl <;> simp
  unfold protectiveFiring
  dsimp only
  split
  · exact failed .dark .lightPath (.inl rfl)
  · split
    · exact failed .suspect .protectiveFiring (.inr rfl)
    · exact failed .suspect .protectiveFiring (.inr rfl)
    · exact ⟨⟨Nat.zero_le _, saturate_le _ _, saturate_le _ _, Nat.zero_le _, fun _ _ => rfl, h.window, h.cause, h.noCause,
        h.retire, h.tag⟩, notEmpty, rfl, rfl, rfl⟩

theorem cleanFields_window (delay : Byte) (r : LevelRecord) : (cleanFields delay r).window.length ≤ 3 := by
  unfold cleanFields
  dsimp only
  split
  case h_1 => exact Nat.zero_le 3
  case h_2 unclosed =>
    have short : ¬ 4 ≤ (r.window ++ [delay]).length := fun full => by
      simp only [closedMean, full, if_true] at unclosed
      cases unclosed
    dsimp only
    omega

/-- A clean result's fields leave everything but runs, window and mean (R46, R47). -/
theorem cleanFields_frame (delay : Byte) (r : LevelRecord) :
    (cleanFields delay r).missRun = 0 ∧ (cleanFields delay r).pfRun = 0 ∧ (cleanFields delay r).pfTotal = r.pfTotal ∧
    (cleanFields delay r).life = r.life ∧ (cleanFields delay r).progress = r.progress ∧
    (cleanFields delay r).cause = r.cause ∧ (cleanFields delay r).retireReason = r.retireReason ∧
    (cleanFields delay r).unitTag = r.unitTag ∧ (cleanFields delay r).emitClass = r.emitClass ∧
    (cleanFields delay r).revision = r.revision := by
  unfold cleanFields
  dsimp only
  split <;> simp

theorem cleanFields_keeps {delay : Byte} {r : LevelRecord} (h : RecordOk r) (hm : isMonitored r.life = true) :
    ResultKeeps r (cleanFields delay r) := by
  obtain ⟨missRun, pfRun, pfTotal, life, progress, cause, reason, tag, cls, revision⟩ := cleanFields_frame delay r
  refine ⟨⟨?_, ?_, ?_, ?_, ?_, cleanFields_window delay r, ?_, ?_, ?_, ?_⟩, ?_, cls, tag, revision⟩
  · simp [missRun]
  · simp [pfRun]
  · rw [pfTotal]; exact h.pfTotal
  · rw [progress]; exact h.progress
  · rw [life, progress]; exact h.idle
  · rw [life, cause]; exact h.cause
  · rw [life, cause]; exact h.noCause
  · rw [life, reason]; exact h.retire
  · rw [tag]; exact h.tag
  · rw [life]; exact (not_retired_of_monitored hm).2

/-- The verdict of a clean result moves life state, cause and progress alone (R49 to R51). -/
theorem cleanVerdict_keeps {settings : Settings} {fault : Option Cause} {closed : Bool} {r : LevelRecord}
    (h : RecordOk r) (hm : isMonitored r.life = true) (proving : settings.provingCount ≤ 31)
    (clear : settings.clearCount ≤ 31) : ResultKeeps r (cleanVerdict settings fault closed r) := by
  have ⟨notRetired, notEmpty⟩ := not_retired_of_monitored hm
  have reason : ¬ r.retireReason.isSome = true := fun k => notRetired (h.retire.1 k)
  unfold cleanVerdict
  split
  case h_1 l =>
    exact ⟨⟨h.missRun, h.pfRun, h.pfTotal, Nat.zero_le _, fun _ _ => rfl, h.window, h.cause, h.noCause, h.retire, h.tag⟩,
      notEmpty, rfl, rfl, rfl⟩
  case h_2 l =>
    have noCause : r.cause = none := h.noCause (by rw [l]; rfl) notRetired
    split
    · refine ⟨⟨h.missRun, h.pfRun, h.pfTotal, Nat.zero_le _, fun _ _ => rfl, h.window, ?_, ?_, ?_, h.tag⟩, ?_, rfl, rfl,
        rfl⟩
      · simp [hasCause]
      · simp [noCause]
      · simpa using reason
      · simp
    · refine ⟨⟨h.missRun, h.pfRun, h.pfTotal, ?_, ?_, h.window, h.cause, h.noCause, h.retire, h.tag⟩, notEmpty, rfl, rfl,
        rfl⟩
      · dsimp only; omega
      · exact fun hp => absurd l hp
  case h_3 l =>
    refine ⟨⟨h.missRun, h.pfRun, h.pfTotal, Nat.zero_le _, fun _ _ => rfl, h.window, fun _ => rfl, ?_, ?_, h.tag⟩, ?_, rfl,
      rfl, rfl⟩
    · simp [hasCause]
    · simpa using reason
    · simp
  case h_4 l =>
    exact ⟨⟨h.missRun, h.pfRun, h.pfTotal, Nat.zero_le _, fun _ _ => rfl, h.window, fun _ => rfl, by simp [l, hasCause],
      h.retire, h.tag⟩, notEmpty, rfl, rfl, rfl⟩
  case h_5 l =>
    split
    · split
      · refine ⟨⟨h.missRun, h.pfRun, h.pfTotal, Nat.zero_le _, fun _ _ => rfl, h.window, ?_, fun _ _ => rfl, ?_, h.tag⟩, ?_,
          rfl, rfl, rfl⟩
        · simp [hasCause]
        · simpa using reason
        · simp
      · refine ⟨⟨h.missRun, h.pfRun, h.pfTotal, ?_, ?_, h.window, h.cause, h.noCause, h.retire, h.tag⟩, notEmpty, rfl, rfl,
          rfl⟩
        · dsimp only; omega
        · exact fun _ hp => absurd l hp
    · exact ⟨h, notEmpty, rfl, rfl, rfl⟩
  case h_6 => exact ⟨h, notEmpty, rfl, rfl, rfl⟩

theorem resultRecord_keeps {res : Result} {settings : Settings} {cycle : Word16} {r : LevelRecord} (h : RecordOk r)
    (hm : isMonitored r.life = true) (proving : settings.provingCount ≤ 31) (clear : settings.clearCount ≤ 31) :
    ResultKeeps r (resultRecord res settings cycle r) := by
  have closed {r' : LevelRecord} (k : ResultKeeps r r') : ResultKeeps r { r' with lastCycle := some cycle } := by
    obtain ⟨⟨h1, h2, h3, h4, h5, h6, h7, h8, h9, h10⟩, notEmpty, cls, tag, revision⟩ := k
    exact ⟨⟨h1, h2, h3, h4, h5, h6, h7, h8, h9, h10⟩, notEmpty, cls, tag, revision⟩
  refine closed ?_
  split
  · exact missingIndication_keeps h hm
  · split
    · exact protectiveFiring_keeps h hm
    · have fields := cleanFields_keeps (delay := res.delay) h hm
      have life := (cleanFields_frame res.delay r).2.2.2.1
      have verdict := cleanVerdict_keeps (fault := cleanFault settings res.deep (closedMean r.window res.delay))
        (closed := (closedMean r.window res.delay).isSome) fields.record (by rw [life]; exact hm) proving clear
      exact ⟨verdict.record, verdict.notEmpty, verdict.cls.trans fields.cls, verdict.tag.trans fields.tag,
        verdict.revision.trans fields.revision⟩

end Sys2Proof.Machine

/-! The claims on records, results and settings as they keep the store, the tallies, the spreads, the fitness and the
records in order, and the changes of converter state that keep the fitness (R25 to R34, R127, R164, R165). -/

namespace Sys2Proof.Machine

/-! ### Crossings as moves of the lock state (R99 to R103) -/

/-- The changes of lock state that a crossing or a missed crossing makes. -/
inductive LockStep : Lock → Lock → Prop
  | acquire {old : Lock} (h : old = .unlocked ∨ old = .lost) : LockStep old .acquiring
  | lock : LockStep .acquiring .locked
  | disturb {old : Lock} (h : old = .locked ∨ old = .holding) : LockStep old .disturbed
  | relock : LockStep .disturbed .locked
  | hold {old : Lock} (h : old = .locked ∨ old = .disturbed) : LockStep old .holding
  | lose : LockStep .holding .lost

/-- What a crossing or a missed crossing does to the part: a change of the phase alone, or also one of lock state, handed
to sequencer, schedule and sources. -/
inductive LockMove (s : State) : State → Prop
  | stay (f : Phase) (h : f.lock = s.phase.lock) : LockMove s { s with phase := f }
  | change (new : Lock) (f : Phase) (h : f.lock = s.phase.lock) (allowed : LockStep s.phase.lock new) :
      LockMove s (changeLock new { s with phase := f })

theorem missedCrossing_lockMove (s : State) : LockMove s (missedCrossing s) := by
  unfold missedCrossing
  dsimp only
  split
  case h_1 | h_2 | h_3 => exact .stay _ rfl
  case h_4 l => exact .change .holding _ rfl (.hold (.inl l))
  case h_5 l => exact .change .holding _ rfl (.hold (.inr l))
  case h_6 l =>
    split
    · exact .change .lost _ rfl (by rw [l]; exact .lose)
    · exact .stay _ rfl

theorem takeCrossing_lockMove (n : Nat) (s : State) : LockMove s (takeCrossing n s) := by
  unfold takeCrossing
  dsimp only
  split
  case h_1 l => exact .change .acquiring _ rfl (.acquire (.inl l))
  case h_2 l => exact .change .acquiring _ rfl (.acquire (.inr l))
  case h_3 l =>
    unfold crossAcquiring
    split
    · dsimp only
      split
      · exact .change .locked _ (by rw [acquirePeriod_eq]) (by rw [l]; exact .lock)
      · exact .stay _ (by rw [acquirePeriod_eq])
    · exact .stay _ rfl
    · exact .stay _ rfl
  case h_4 l =>
    unfold crossLocked
    dsimp only
    split
    · rw [followReference_eq]
      split
      · exact .stay _ rfl
      · exact .change .disturbed _ rfl (.disturb (.inl l))
    · exact .change .disturbed _ rfl (.disturb (.inl l))
    · exact .change .disturbed _ rfl (.disturb (.inl l))
  case h_5 l =>
    unfold crossDisturbed
    dsimp only
    split
    · rw [followReference_eq]
      split
      · split
        · exact .change .locked _ rfl (by rw [l]; exact .relock)
        · exact .stay _ rfl
      · exact .stay _ rfl
    · exact .stay _ rfl
    · exact .stay _ rfl
  case h_6 l => exact .change .disturbed _ rfl (.disturb (.inr l))

/-! ### Changes of converter state and the fitness (R127) -/

theorem FitOk.of_not_needed {s : State} (h : needsFitValves s.seq.conv = false) : FitOk s := fun hc =>
  absurd (hc.symm.trans h) (by decide)

theorem mem_allValves (v : Valve) : v ∈ allValves := by revert v; decide

theorem FitOk.of_unfitCount {s : State} (h : unfitCount s = 0) : FitOk s := fun _ v grade => by
  have : v ∈ allValves.filter fun v => decide ((s.tally v).grade = .unfit) := 
    List.mem_filter.2 ⟨mem_allValves v, by simpa using grade⟩
  rw [List.eq_nil_of_length_eq_zero h] at this
  cases this

theorem unfitCount_congr {s t : State} (h : t.tallies = s.tallies) : unfitCount t = unfitCount s := by
  simp only [unfitCount, tally_congr h]

@[simp] theorem enter_seq (c : Conv) (x : Option ExitTarget) (s : State) : (enter c x s).seq = enterItems c x s.seq := by
  unfold enter
  dsimp only
  split <;> simp

@[simp] theorem enterItems_conv (c : Conv) (x : Option ExitTarget) (q : Sequencer) : (enterItems c x q).conv = c := rfl

theorem latchTrip_conv (cause : TripCause) (s : State) : (latchTrip cause s).seq.conv = s.seq.conv := by
  unfold latchTrip
  split <;> rfl

theorem strengthen_conv (x : ExitTarget) (s : State) : (strengthen x s).seq.conv = s.seq.conv := by
  unfold strengthen
  split
  · split <;> rfl
  · rfl

theorem stopByRole_conv (x : ExitTarget) (s : State) : needsFitValves (stopByRole x s).seq.conv = false := by
  unfold stopByRole
  split <;> simp [enterRetarded, enterBypassing, needsFitValves]

/-- A trip cause leaves no converter that needs fit valves (R133). -/
theorem raiseTrip_conv (cause : TripCause) (s : State) : needsFitValves (raiseTrip cause s).seq.conv = false := by
  unfold raiseTrip
  split
  case h_1 | h_2 => exact stopByRole_conv _ _
  case h_3 l | h_4 l => rw [strengthen_conv, latchTrip_conv, l]; rfl
  case h_5 | h_6 => simp [needsFitValves]
  case h_7 l | h_8 l => rw [l]; rfl

theorem unfitEntry_evidence_conv (v : Valve) (s : State) :
    needsFitValves (unfitEntry v .evidence s).seq.conv = false := by
  have := raiseTrip_conv (.valveUnfit v) s
  simp only [unfitEntry, markTrip_seq]
  split <;> exact this

theorem takeExit_conv {s : State} (h : needsFitValves s.seq.conv = false) :
    needsFitValves (takeExit s).seq.conv = false := by
  unfold takeExit
  split
  · simp [enterDeionizing, needsFitValves]
  · simp [needsFitValves]
  · simp [needsFitValves]
  · exact h

theorem stopAtOnce_conv (s : State) : isStopped (stopAtOnce s).seq.conv = true := by
  unfold stopAtOnce
  split
  · assumption
  · simp only [cutLanes_seq, enter_seq, enterItems_conv]
    split <;> rfl

theorem not_needed_of_stopped {c : Conv} (h : isStopped c = true) : needsFitValves c = false := by
  cases c <;> first | rfl | exact absurd h (by decide)

/-- The converter needs fit valves after a change only where it needed them before. -/
def FitNeedKept (s t : State) : Prop :=
  t.tallies = s.tallies ∧ (needsFitValves t.seq.conv = true → needsFitValves s.seq.conv = true)

theorem FitNeedKept.fitOk {s t : State} (k : FitNeedKept s t) (h : FitOk s) : FitOk t := h.congr k.1 k.2

theorem FitNeedKept.of_conv {s t : State} (ht : t.tallies = s.tallies) (hc : t.seq.conv = s.seq.conv) :
    FitNeedKept s t := ⟨ht, by rw [hc]; exact id⟩

theorem FitNeedKept.of_not_needed {s t : State} (ht : t.tallies = s.tallies)
    (hc : needsFitValves t.seq.conv = false) : FitNeedKept s t := ⟨ht, fun h => absurd (h.symm.trans hc) (by decide)⟩

theorem sequencerLockChange_fit (new : Lock) (s : State) : FitNeedKept s (sequencerLockChange new s) := by
  refine ⟨by simp, ?_⟩
  unfold sequencerLockChange
  split
  · exact fun h => absurd (h.symm.trans (not_needed_of_stopped (stopAtOnce_conv s))) (by decide)
  · split
    · simp [needsFitValves]
    · exact id
  · split
    · simp [needsFitValves]
    · exact id
  · exact id

theorem makePendingSwap_seq (s : State) : (makePendingSwap s).seq = s.seq := by simp

@[simp] theorem changeLock_seq (new : Lock) (s : State) :
    (changeLock new s).seq = (sequencerLockChange new (setNotice .phase { s with phase := { s.phase with lock := new } })).seq := by
  simp [changeLock]

theorem changeLock_fit (new : Lock) (s : State) : FitNeedKept s (changeLock new s) := by
  have h := sequencerLockChange_fit new (setNotice .phase { s with phase := { s.phase with lock := new } })
  exact ⟨by simp, by rw [changeLock_seq]; exact h.2⟩

theorem FitNeedKept.refl (s : State) : FitNeedKept s s := ⟨rfl, id⟩

theorem FitNeedKept.trans {s t u : State} (h : FitNeedKept s t) (k : FitNeedKept t u) : FitNeedKept s u :=
  ⟨k.1.trans h.1, h.2 ∘ k.2⟩

/-- A change of lock state after a change of the phase alone. -/
theorem changeLock_fit_of_phase (new : Lock) (f : Phase) (s : State) :
    FitNeedKept s (changeLock new { s with phase := f }) :=
  .trans (.of_conv (t := { s with phase := f }) rfl rfl) (changeLock_fit new _)

theorem fitNeedKept_phase (f : Phase) (s : State) : FitNeedKept s { s with phase := f } := .of_conv rfl rfl

theorem LockMove.fit {s t : State} (h : LockMove s t) : FitNeedKept s t := by
  cases h with
  | stay f _ => exact fitNeedKept_phase f s
  | change new f _ _ => exact changeLock_fit_of_phase new f s

theorem expireTimes_fit (n : Nat) (s : State) : FitNeedKept s (expireTimes n s) := by
  induction n generalizing s with
  | zero => exact .refl s
  | succ n ih => exact (missedCrossing_lockMove s).fit.trans (ih _)

theorem referenceCrossing_fit (since : Nat) (s : State) : FitNeedKept s (referenceCrossing since s) :=
  (expireTimes_fit _ s).trans (takeCrossing_lockMove _ _).fit

/-- The work of a cycle start makes a converter that needs fit valves only of one that needed them, or where no valve is
UNFIT (R127, R129). -/
theorem sequencerCycleWork_fit {s : State} (h : FitOk s) : FitOk (sequencerCycleWork s) := by
  by_cases need : needsFitValves s.seq.conv = true
  · exact h.congr (by simp) fun _ => need
  have need : needsFitValves s.seq.conv = false := by simpa using need
  unfold sequencerCycleWork
  split
  case h_1 l | h_2 l | h_3 l => rw [l] at need; exact absurd need (by decide)
  case h_4 =>
    unfold retardStep
    split
    · exact .of_not_needed need
    · dsimp only
      split
      · exact .of_not_needed (takeExit_conv need)
      · exact .of_not_needed need
  case h_5 =>
    unfold deionizationStep settleRestart
    dsimp only
    split
    · split
      · exact .of_not_needed (by simp [needsFitValves])
      · split
        · exact .of_not_needed (by simp [needsFitValves])
        case isFalse fit =>
          refine .of_unfitCount ((unfitCount_congr (enterRamping_frame _).2.1).trans ?_)
          exact Nat.eq_zero_of_not_pos fit
    · exact .of_not_needed need
  case h_6 =>
    unfold bypassStep
    split
    · exact .of_not_needed need
    · dsimp only
      split
      · exact .of_not_needed (takeExit_conv need)
      · exact .of_not_needed need
  case h_7 | h_8 => exact h

end Sys2Proof.Machine

/-! Settings, tallies, spreads, fitness and records over every step (R24, R32, R127, R164). -/

namespace Sys2Proof.Machine

/-- The parts of the invariant that the records, the tallies and the settings make. -/
structure TableOk (s : State) : Prop where
  settings : SettingsOk s
  tallies  : TalliesOk s
  spreads  : SpreadsOk s
  fit      : FitOk s
  records  : RecordsOk s

theorem BlocksOk.table {s : State} (h : BlocksOk s) : TableOk s :=
  ⟨h.settings, h.tallies, h.spreads, h.fit, h.records⟩

/-- A change that leaves table, tallies and settings, and no converter in new need of fit valves. -/
theorem TableOk.of_fit {s t : State} (h : TableOk s) (k : FitOk t) (ht : t.table = s.table) (hy : t.tallies = s.tallies)
    (hs : t.settings = s.settings) : TableOk t :=
  ⟨h.settings.congr hs, h.tallies.congr ht hy hs, h.spreads.congr hy hs, k, h.records.congr ht⟩

theorem TableOk.congr {s t : State} (h : TableOk s) (ht : t.table = s.table) (hy : t.tallies = s.tallies)
    (hs : t.settings = s.settings) (hq : t.seq.conv = s.seq.conv) : TableOk t :=
  h.of_fit (h.fit.congr hy (by rw [hq]; exact id)) ht hy hs

/-! ### Claims on records -/

/-- What a claim on a record needs for the valve's spread to stay within the limit and its fitness to stay (R13, R14). -/
structure ClaimFair (v : Valve) (p : Position) (new : LevelRecord) (s : State) : Prop where
  record   : RecordOk new
  notEmpty : new.life ≠ .empty
  spread   : (recounted v (s.setRecord v p new)).spread ≤ s.settings.spreadLimit

theorem commitRecord_conv_change (v : Valve) (p : Position) (new : LevelRecord) (s : State) :
    (commitRecord v p new .change s).seq.conv = s.seq.conv ∨ s.seq.conv = .pending := by
  unfold commitRecord commitTally unfitEntry
  dsimp only
  repeat' split
  all_goals first | exact .inl rfl | exact .inr ‹_›

theorem commitTally_seq {v : Valve} {y : Tally} (h : y.grade ≠ .unfit) (origin : UnfitOrigin) (s : State) :
    (commitTally v y origin s).seq = s.seq := by
  simp only [commitTally, if_neg h]
  split <;> rfl

/-- A claim with a change moves the sequencer only where it makes the valve UNFIT (R29). -/
theorem commitRecord_conv {v : Valve} {p : Position} {new : LevelRecord} {s : State} (origin : UnfitOrigin)
    (h : ((commitRecord v p new origin s).tally v).grade ≠ .unfit) :
    (commitRecord v p new origin s).seq = s.seq := by
  rw [commitRecord_tally] at h
  unfold commitRecord
  dsimp only
  split
  case isTrue moved =>
    rw [if_pos ⟨rfl, moved⟩] at h
    exact commitTally_seq h origin _
  case isFalse => rfl

/-- A claim that makes a valve UNFIT on evidence leaves no converter that needs fit valves (R133). -/
theorem commitRecord_conv_evidence {v : Valve} {p : Position} {new : LevelRecord} {s : State}
    (h : ((commitRecord v p new .evidence s).tally v).grade = .unfit) (fit : (s.tally v).grade ≠ .unfit) :
    needsFitValves (commitRecord v p new .evidence s).seq.conv = false := by
  rw [commitRecord_tally] at h
  by_cases moved : recordMoves (s.record v p) new = true
  · rw [if_pos ⟨rfl, moved⟩] at h
    have changed : ((s.tally v).after v p (s.record v p) new s.settings).grade ≠ (s.tally v).grade := by
      rw [h]; exact fun k => fit k.symm
    unfold commitRecord commitTally
    rw [if_pos moved]
    have before : ((setNotice .level (s.setRecord v p
        { new with revision := (s.record v p).revision + 1 })).tally v).grade = (s.tally v).grade := rfl
    dsimp only
    rw [before, if_neg changed, if_pos h]
    exact unfitEntry_evidence_conv _ _
  · rw [if_neg fun k => moved k.2] at h
    exact absurd h fit

theorem commitRecord_tally_other {v w : Valve} (hw : v ≠ w) (p : Position) (new : LevelRecord) (origin : UnfitOrigin)
    (s : State) : (commitRecord v p new origin s).tally w = s.tally w := by
  rw [commitRecord_tally, if_neg fun k => hw k.1]

theorem commitRecord_recordsOk {v : Valve} {p : Position} {new : LevelRecord} {s : State} (h : RecordsOk s)
    (hn : RecordOk new) (origin : UnfitOrigin) : RecordsOk (commitRecord v p new origin s) := fun w x => by
  by_cases same : (w, x) = (v, p)
  · cases same
    rw [commitRecord_record]
    split
    · exact hn.withRevision _
    · exact hn
  · rw [commitRecord_record_other same]
    exact h w x

/-- A fair claim keeps everything but the fitness, which its origin decides (R25, R29, R32). -/
theorem commitRecord_tableOk {v : Valve} {p : Position} {new : LevelRecord} {s : State} (h : TableOk s)
    (fair : ClaimFair v p new s) (origin : UnfitOrigin) (fit : FitOk (commitRecord v p new origin s)) :
    TableOk (commitRecord v p new origin s) := by
  have notEmpty : new.life = .empty → (s.record v p).life = .empty := fun e => absurd e fair.notEmpty
  refine ⟨h.settings.congr (by simp), commitRecord_talliesOk h.tallies notEmpty origin, fun w => ?_, fit,
    commitRecord_recordsOk h.records fair.record origin⟩
  by_cases hw : v = w
  · subst hw
    rw [commitRecord_tally_eq h.tallies notEmpty]
    simpa using fair.spread
  · rw [commitRecord_tally_other hw]
    simpa using h.spreads w

/-- With evidence an UNFIT valve stops the converter; with any other grade the converter stays. -/
theorem commitRecord_fit_evidence {v : Valve} {p : Position} {new : LevelRecord} {s : State} (h : FitOk s) :
    FitOk (commitRecord v p new .evidence s) := by
  by_cases unfit : ((commitRecord v p new .evidence s).tally v).grade = .unfit
  · by_cases before : (s.tally v).grade = .unfit
    · intro need
      have stays : (commitRecord v p new .evidence s).seq.conv = s.seq.conv ∨
          needsFitValves (commitRecord v p new .evidence s).seq.conv = false := by
        unfold commitRecord commitTally
        dsimp only
        repeat' split
        all_goals first | exact .inl rfl | exact .inr (unfitEntry_evidence_conv _ _)
      obtain e | e := stays
      · exact absurd before (h (e ▸ need) v)
      · exact absurd (need.symm.trans e) (by decide)
    · exact .of_not_needed (commitRecord_conv_evidence unfit before)
  · have e := commitRecord_conv .evidence unfit
    intro need w
    by_cases hw : v = w
    · exact hw ▸ unfit
    · rw [commitRecord_tally_other hw]
      exact h (by rwa [e] at need) w

/-- By a change no valve of a converter that needs fit valves becomes UNFIT, where MARGIN is kept (R13). -/
theorem commitRecord_fit_change {v : Valve} {p : Position} {new : LevelRecord} {s : State} (h : FitOk s)
    (ht : TalliesOk s) (notEmpty : new.life ≠ .empty)
    (margin : needsFitValves s.seq.conv = true → isSound (s.record v p).life = true → isSound new.life = false →
      s.settings.minimumSound[v] ≤ (s.tally v).sound - 1) : FitOk (commitRecord v p new .change s) := by
  intro need w
  have needed : needsFitValves s.seq.conv = true := by
    obtain e | e := commitRecord_conv_change v p new s
    · rwa [e] at need
    · rw [e]; rfl
  by_cases hw : v = w
  · subst hw
    rw [commitRecord_tally_eq ht fun e => absurd e notEmpty]
    intro unfit
    have unfit := (recounted_unfit_iff _ _).1 unfit
    have fit := h needed v
    rw [ht v, Ne, recounted_unfit_iff] at fit
    rw [recounted_sound_setRecord] at unfit
    have kept := margin needed
    rw [ht v] at kept
    simp only [State.setRecord_settings] at unfit
    grind
  · rw [commitRecord_tally_other hw]
    exact h needed w

theorem checksMargin_of_needed {c : Conv} (h : needsFitValves c = true) : checksMargin c = true := by
  cases c <;> first | rfl | exact absurd h (by decide)

/-- What an accepted record change has passed (R12 to R14). -/
theorem changeClaim_cases (v : Valve) (p : Position) (e : Option Word16) (k : Change) (s : State) :
    (changeClaim v p e k s).1 = s ∨
      (k.admits (s.record v p) = true ∧ ¬(k.leavesSound (s.record v p) = true ∧ belowMargin v s = true) ∧
        ¬(k.spreads (s.record v p) = true ∧ aboveSpread v p (k.result (s.record v p)) s = true) ∧
        (changeClaim v p e k s).1 = commitRecord v p (k.result (s.record v p)) .change s) := by
  unfold changeClaim
  dsimp only
  split
  · exact .inl rfl
  · split
    · exact .inl rfl
    case isFalse admits =>
      split
      · exact .inl rfl
      case isFalse margin =>
        split
        · exact .inl rfl
        case isFalse spread => exact .inr ⟨by simpa using admits, by simpa using margin, by simpa using spread, rfl⟩

theorem changeClaim_tableOk {v : Valve} {p : Position} {e : Option Word16} {k : Change} {s : State} (h : TableOk s)
    (keeps : k.admits (s.record v p) = true → k.Keeps (s.record v p)) : TableOk (changeClaim v p e k s).1 := by
  obtain same | ⟨admits, margin, spread, made⟩ := changeClaim_cases v p e k s
  · rw [same]; exact h
  rw [made]
  have keeps := keeps admits
  have notEmpty : (k.result (s.record v p)).life = .empty → (s.record v p).life = .empty :=
    fun e => absurd e keeps.notEmpty
  refine commitRecord_tableOk h ⟨keeps.record, keeps.notEmpty, ?_⟩ .change
    (commitRecord_fit_change h.fit h.tallies keeps.notEmpty fun need was isnt => ?_)
  · by_cases asked : k.spreads (s.record v p) = true
    · have below : ¬ aboveSpread v p (k.result (s.record v p)) s = true := fun above => spread ⟨asked, above⟩
      rw [← after_eq_recounted s v p _ (h.tallies v) notEmpty]
      simpa [aboveSpread] using below
    · have asked : k.spreads (s.record v p) = false := by simpa using asked
      have within := h.spreads v
      rw [h.tallies v] at within
      exact Nat.le_trans (recounted_spread_setRecord (keeps.emitting asked) (keeps.long asked) h.settings.onTime) within
  · have notBelow : ¬ belowMargin v s = true := fun below => margin ⟨keeps.sound was isnt, below⟩
    simpa [belowMargin, checksMargin_of_needed need] using notBelow

/-- The claim of a record-change request is the claim on a keyed record, or changes nothing (R1). -/
theorem keyedChange_cases (valve position : Byte) (e : Option Word16) (k : Change) (s : State) :
    (keyedChange valve position e k s).1 = s ∨
      ∃ v p, valveOf? valve = some v ∧ positionOf? position.toNat = some p ∧
        keyedChange valve position e k s = changeClaim v p e k s := by
  unfold keyedChange
  split
  case h_1 v p hv hp => exact .inr ⟨v, p, hv, hp, rfl⟩
  case h_2 => exact .inl rfl

theorem keyedChange_tableOk {valve position : Byte} {e : Option Word16} {k : Change} {s : State} (h : TableOk s)
    (keeps : ∀ r, RecordOk r → k.admits r = true → k.Keeps r) : TableOk (keyedChange valve position e k s).1 := by
  obtain same | ⟨v, p, -, -, made⟩ := keyedChange_cases valve position e k s
  · rw [same]; exact h
  · rw [made]; exact changeClaim_tableOk h (keeps _ (h.records v p))

theorem admitClaim_cases (valve position : Byte) (cls : Option EmitClass) (tag : Option Word24) (s : State) :
    (admitClaim valve position cls tag s).1 = s ∨
      ∃ v p, tag ≠ some 0 ∧ admitClaim valve position cls tag s = changeClaim v p none (admitChange cls tag) s := by
  unfold admitClaim
  split
  case h_1 v p _ _ =>
    split
    · exact .inl rfl
    case isFalse htag => exact .inr ⟨v, p, htag, rfl⟩
  case h_2 => exact .inl rfl

theorem admitClaim_tableOk {valve position : Byte} {cls : Option EmitClass} {tag : Option Word24} {s : State}
    (h : TableOk s) : TableOk (admitClaim valve position cls tag s).1 := by
  obtain same | ⟨v, p, htag, made⟩ := admitClaim_cases valve position cls tag s
  · rw [same]; exact h
  · rw [made]; exact changeClaim_tableOk h (admitChange_keeps htag)

/-! ### Results -/

/-- A result for a monitored record is one claim on it, and perhaps an offer to the directed queue (R38, R45). -/
theorem applyResult_cases (res : Result) (s : State) :
    applyResult res s = s ∨
      (isMonitored (s.record res.valve res.position).life = true ∧
        ∃ u, u = commitRecord res.valve res.position
            (resultRecord res s.settings s.phase.cycle (s.record res.valve res.position)) .evidence s ∧
          (applyResult res s = u ∨ applyResult res s = offerCheck res.valve res.position u)) := by
  unfold applyResult
  dsimp only
  split
  case isTrue monitored =>
    refine .inr ⟨monitored, _, rfl, ?_⟩
    split
    · exact .inr rfl
    · exact .inl rfl
  case isFalse => exact .inl rfl

theorem applyResult_tableOk {res : Result} {s : State} (h : TableOk s) : TableOk (applyResult res s) := by
  obtain same | ⟨monitored, u, hu, made⟩ := applyResult_cases res s
  · rw [same]; exact h
  have keeps := resultRecord_keeps (res := res) (cycle := s.phase.cycle) (h.records res.valve res.position) monitored
    (h.settings.range .provingCount 0).2 (Nat.le_trans (h.settings.range .clearCount 0).2 (by decide))
  have claimed : TableOk u := by
    rw [hu]
    refine commitRecord_tableOk h ⟨keeps.record, keeps.notEmpty, ?_⟩ .evidence (commitRecord_fit_evidence h.fit)
    have within := h.spreads res.valve
    rw [h.tallies res.valve] at within
    refine Nat.le_trans (recounted_spread_setRecord (fun _ => monitored) (fun long => ?_) h.settings.onTime) within
    simp only [countsLong, keeps.cls, Bool.and_eq_true] at long ⊢
    exact ⟨monitored, long.2⟩
  obtain made | made := made <;> rw [made]
  · exact claimed
  · exact claimed.congr (by simp) (by simp) (by simp) (by simp)

end Sys2Proof.Machine

/-! SET as it changes the store: what each setting reads after it, and that settings, tallies, spreads, fitness and records
stay in order (R30, R33, R164, R165). -/

namespace Sys2Proof.Machine

/-! ### The store -/

/-- A setting held once is the same for every valve. -/
theorem getSetting_valve {σ : Setting} (h : σ.perValve = false) (t : Settings) (v w : Valve) :
    getSetting t w σ = getSetting t v σ := by
  cases σ <;> first | rfl | cases h

/-- The setting at its new value, within its range (R165). -/
theorem getSetting_putSetting_same {σ : Setting} {n : Nat} (h : n ≤ σ.range.2) (t : Settings) (v : Valve) :
    getSetting (putSetting t v n σ) v σ = n := by
  cases σ
  case sweepEnable | preEmption =>
    have : n = 0 ∨ n = 1 := by simp only [Setting.range] at h; omega
    obtain rfl | rfl := this <;> rfl
  case minimumSound | reserve => simp [putSetting, getSetting]
  all_goals rfl

/-- Every other setting is as it was; of a setting per valve, every other valve's (R165). -/
theorem getSetting_putSetting_other {σ τ : Setting} {v w : Valve} (h : τ ≠ σ ∨ (σ.perValve = true ∧ w ≠ v))
    (t : Settings) (n : Nat) : getSetting (putSetting t v n σ) w τ = getSetting t w τ := by
  by_cases same : τ = σ
  · subst same
    obtain h | ⟨perValve, other⟩ := h
    · exact absurd rfl h
    · have other : v.val ≠ w.val := fun e => other (Fin.ext e.symm)
      cases τ
      case minimumSound | reserve => simp [putSetting, getSetting, put_getElem, other]
      all_goals cases perValve
  · cases σ <;> cases τ <;> first | rfl | exact absurd rfl same

theorem valueOk_range {t : Settings} {σ : Setting} {n : Nat} (h : valueOk t σ n = true) :
    σ.range.1 ≤ n ∧ n ≤ σ.range.2 := by
  simp only [valueOk, Bool.and_eq_true, decide_eq_true_eq] at h
  exact h.1

/-- A setting after SET has its new value or the value it had. -/
theorem getSetting_putSetting_cases {σ : Setting} {n : Nat} (h : n ≤ σ.range.2) (t : Settings) (v w : Valve)
    (τ : Setting) : (τ = σ ∧ getSetting (putSetting t v n σ) w τ = n) ∨
      getSetting (putSetting t v n σ) w τ = getSetting t w τ := by
  by_cases same : τ = σ
  · subst same
    by_cases valve : w = v
    · exact .inl ⟨rfl, valve ▸ getSetting_putSetting_same h t v⟩
    · by_cases perValve : τ.perValve = true
      · exact .inr (getSetting_putSetting_other (.inr ⟨perValve, valve⟩) t n)
      · have perValve : τ.perValve = false := by simpa using perValve
        exact .inl ⟨rfl, (getSetting_valve perValve _ v w).trans (getSetting_putSetting_same h t v)⟩
  · exact .inr (getSetting_putSetting_other (.inl same) t n)

/-- The relation that check 2 holds a setting to (R165): only those of two pairs stand in one. -/
theorem valueOk_relation {t : Settings} {σ : Setting} {n : Nat} (h : valueOk t σ n = true) :
    match σ with
    | .windowLow => n < t.windowHigh
    | .windowHigh => t.windowLow < n
    | .standardOnTime => n ≤ t.longOnTime
    | .longOnTime => t.standardOnTime ≤ n
    | _ => True := by
  simp only [valueOk, Bool.and_eq_true] at h
  cases σ <;> first | exact trivial | simpa using h.2

theorem settingsOk_of_put {s : State} (h : SettingsOk s) {σ : Setting} {n : Nat} (ok : valueOk s.settings σ n = true)
    (v : Valve) : SettingsOk { s with settings := putSetting s.settings v n σ } := by
  have range := valueOk_range ok
  refine ⟨fun τ w => ?_, ?_, ?_⟩
  · obtain ⟨rfl, e⟩ | e := getSetting_putSetting_cases range.2 s.settings v w τ
    · rw [e]; exact range
    · rw [e]; exact h.range τ w
  · have := h.window
    cases σ <;> first | exact this | exact valueOk_relation ok
  · have := h.onTime
    cases σ <;> first | exact this | exact valueOk_relation ok

/-- A store that SET may leave keeps every spread within the limit (R33). -/
theorem overSpread_false_iff (t : Settings) (s : State) :
    overSpread t s = false ↔ ∀ v, spreadUnder t (s.tally v) ≤ t.spreadLimit := by
  simp [overSpread, mem_allValves]

/-! ### Consequences on the tallies -/

/-- The tally of a valve under another store: its spread and its grade worked out again (R30, R33). -/
def tallyUnder (t : Settings) (v : Valve) (y : Tally) : Tally :=
  { y with spread := spreadUnder t y, grade := gradeOf y.sound y.failed t.minimumSound[v] t.reserve[v] }

theorem Tally.eq_update {y : Tally} {spread : Nat} {grade : Grade} (hs : y.spread = spread) (hg : y.grade = grade) :
    y = { y with spread := spread, grade := grade } := by
  subst hs hg; rfl

theorem recounted_of_table {s t : State} (h : t.table = s.table) (v : Valve) :
    recounted v t = tallyUnder t.settings v (recounted v s) := by
  simp [recounted, tallyUnder, spreadUnder, bankRecords, h]

theorem TalliesOk.under {s : State} (h : TalliesOk s) (v : Valve) : tallyUnder s.settings v (s.tally v) = s.tally v := by
  rw [h v]; exact (recounted_of_table rfl v).symm

theorem TalliesOk.of_under {s t : State} (h : TalliesOk s) (ht : t.table = s.table)
    (hy : ∀ v, t.tally v = tallyUnder t.settings v (s.tally v)) : TalliesOk t := fun v => by
  rw [hy v, h v, recounted_of_table ht]

theorem tallyUnder_of_same {s t : Settings} {v : Valve} (h : SameTallySettings s t v) (y : Tally) :
    tallyUnder t v y = tallyUnder s v y := by
  simp only [tallyUnder, spreadUnder, h.standard, h.long, h.minimum, h.reserve]

theorem regrade_tally (v w : Valve) (s : State) :
    (regrade v s).tally w =
      if v = w then
        { s.tally v with
          grade := gradeOf (s.tally v).sound (s.tally v).failed s.settings.minimumSound[v] s.settings.reserve[v] }
      else s.tally w := commitTally_tally _ _ _ _ _

theorem respread_tally (v : Valve) (s : State) :
    (respread s).tally v = { s.tally v with spread := spreadUnder s.settings (s.tally v) } := by
  simp [respread, State.tally]

/-! ### SET -/

/-- What an accepted SET has passed (R165). -/
structure SetPassed (σ : Setting) (v : Valve) (n : Nat) (s : State) : Prop where
  state  : σ.anyTime = true ∨ isStopped s.seq.conv = true
  value  : valueOk s.settings σ n = true
  swap   : isAlphaLimit σ = true → s.schedule.swapPending = none
  spread : isSpreadSetting σ = true → overSpread (putSetting s.settings v n σ) s = false

theorem setRefusal_none_iff (σ : Setting) (v : Valve) (n : Nat) (s : State) :
    setRefusal σ v n s = none ↔ SetPassed σ v n s := by
  have passed : SetPassed σ v n s ↔ (σ.anyTime = true ∨ isStopped s.seq.conv = true) ∧
      valueOk s.settings σ n = true ∧ (isAlphaLimit σ = true → s.schedule.swapPending = none) ∧
      (isSpreadSetting σ = true → overSpread (putSetting s.settings v n σ) s = false) :=
    ⟨fun h => ⟨h.state, h.value, h.swap, h.spread⟩, fun ⟨a, b, c, d⟩ => ⟨a, b, c, d⟩⟩
  rw [passed]
  unfold setRefusal
  cases s.schedule.swapPending <;> grind

theorem storeClaim_cases (σ : Setting) (v : Valve) (n : Nat) (s : State) :
    (∃ code, setRefusal σ v n s = some code ∧ storeClaim σ v n s = (s, some (plain code))) ∨
      (SetPassed σ v n s ∧ storeClaim σ v n s =
        (setConsequences σ v { s with settings := putSetting s.settings v n σ }, some (plain .done))) := by
  unfold storeClaim
  split
  case h_1 code h => exact .inl ⟨code, h, rfl⟩
  case h_2 h => exact .inr ⟨(setRefusal_none_iff σ v n s).1 h, rfl⟩

/-- By a change of an UNFIT grade no converter but a PENDING one moves (R127). -/
theorem commitTally_change_seq {s : State} (h : s.seq.conv ≠ .pending) (v : Valve) (y : Tally) :
    (commitTally v y .change s).seq = s.seq := by
  have entry (t : State) (e : t.seq = s.seq) : (unfitEntry v .change t).seq = s.seq := by
    unfold unfitEntry
    dsimp only
    rw [if_neg (by rw [e]; exact h)]
    exact e
  unfold commitTally
  dsimp only
  split
  · rfl
  · split
    · exact entry _ rfl
    · rfl

/-- In BLOCKED and TRIPPED the consequences of SET leave the converter state. -/
theorem setConsequences_conv {s : State} (h : isStopped s.seq.conv = true) (σ : Setting) (v : Valve) :
    (setConsequences σ v s).seq.conv = s.seq.conv := by
  have notPending : s.seq.conv ≠ .pending := by intro e; rw [e] at h; cases h
  have offset : (offsetSet s).seq.conv = s.seq.conv := by
    unfold offsetSet
    split
    · rw [changeLock_seq]; rfl
    · rfl
  unfold setConsequences
  split
  case h_1 | h_2 => exact congrArg Sequencer.conv (commitTally_change_seq notPending v _)
  all_goals first | rfl | exact offset

/-- The consequences on the tallies of a SET whose store is in order but for what it moves (R30, R33). -/
theorem setConsequences_tally {s : State} {σ : Setting} {n : Nat} (h : TalliesOk s) (v w : Valve) :
    (setConsequences σ v { s with settings := putSetting s.settings v n σ }).tally w =
      tallyUnder (putSetting s.settings v n σ) w (s.tally w) := by
  have before := h.under w
  cases σ
  case minimumSound | reserve =>
    refine (regrade_tally v w _).trans ?_
    split
    case isTrue same =>
      subst same
      have spread := congrArg Tally.spread before.symm
      exact Tally.eq_update (y := { s.tally v with grade := _ }) spread rfl
    case isFalse other =>
      have other : v.val ≠ w.val := fun e => other (Fin.ext e)
      refine before.symm.trans (tallyUnder_of_same (s := putSetting s.settings v n _) (t := s.settings)
        ⟨rfl, rfl, ?_, ?_⟩ _) <;>
        simp [putSetting, put_getElem, other]
  case standardOnTime | longOnTime =>
    have grade := congrArg Tally.grade before.symm
    exact (respread_tally w _).trans (Tally.eq_update (y := { s.tally w with spread := _ }) rfl grade)
  case referenceOffset =>
    have e : (offsetSet { s with settings := putSetting s.settings v n .referenceOffset }).tallies = s.tallies := by simp
    exact (tally_congr e w).trans before.symm
  all_goals exact before.symm

theorem storeClaim_tableOk {s : State} (h : TableOk s) (σ : Setting) (v : Valve) (n : Nat) :
    TableOk (storeClaim σ v n s).1 := by
  obtain ⟨code, -, made⟩ | ⟨passed, made⟩ := storeClaim_cases σ v n s <;> rw [made]
  · exact h
  have tally := setConsequences_tally (σ := σ) (n := n) h.tallies v
  have settings : (setConsequences σ v { s with settings := putSetting s.settings v n σ }).settings =
      putSetting s.settings v n σ := by simp
  refine ⟨(settingsOk_of_put h.settings passed.value v).congr settings, ?_, ?_, ?_, h.records.congr (by simp)⟩
  · exact h.tallies.of_under (by simp) fun w => by rw [tally w, settings]
  · intro w
    rw [tally w, settings]
    show spreadUnder _ _ ≤ _
    by_cases asked : isSpreadSetting σ = true
    · exact (overSpread_false_iff _ s).1 (passed.spread asked) w
    · have before : spreadUnder s.settings (s.tally w) ≤ s.settings.spreadLimit := by
        have := h.spreads w
        rwa [← h.tallies.under w] at this
      cases σ <;> first | exact before | exact absurd rfl asked
  · obtain any | stopped := passed.state
    · refine h.fit.congr ?_ ?_ <;> cases σ <;> first | rfl | exact id | cases any
    · refine .of_not_needed (not_needed_of_stopped ?_)
      rw [setConsequences_conv (s := { s with settings := putSetting s.settings v n σ }) stopped]
      exact stopped

end Sys2Proof.Machine

/-! Settings, tallies, spreads, fitness and records over every step (R24, R32, R127, R164). -/

namespace Sys2Proof.Machine

/-! ### The converter state through the parts of larger events -/

@[simp] theorem commutationFailure_conv (v : Valve) (s : State) : (commutationFailure v s).seq.conv = s.seq.conv := by
  unfold commutationFailure
  split <;> rfl

@[simp] theorem takeBlocking_conv (v : Valve) (b : Bool) (s : State) : (takeBlocking v b s).seq.conv = s.seq.conv := by
  unfold takeBlocking
  split
  · exact commutationFailure_conv v s
  · rfl

@[simp] theorem handBlocking_conv (p : Poll) (b : Bool) (s : State) : (handBlocking p b s).seq.conv = s.seq.conv := by
  unfold handBlocking
  split
  · exact takeBlocking_conv p.valve b s
  all_goals rfl

@[simp] theorem acceptHeader_conv (p : Poll) (w : Word16) (s : State) : (acceptHeader p w s).seq.conv = s.seq.conv := by
  unfold acceptHeader
  dsimp only
  split <;> simp

@[simp] theorem replyHeader_conv (w : Word16) (s : State) : (replyHeader w s).seq.conv = s.seq.conv := by
  unfold replyHeader
  repeat' split
  all_goals simp

/-- The sequencer with other windows. -/
def withWindows (w : Vector WindowState 12) (q : Sequencer) : Sequencer := { q with windows := w }

theorem judgeOpen_seq (v : Valve) (base : Nat) (s : State) : ∃ w, (judgeOpen v base s).seq = withWindows w s.seq := by
  unfold judgeOpen setWindow
  split
  · exact ⟨put s.seq.windows v .fired, by simp [withWindows]⟩
  · exact ⟨_, rfl⟩

theorem judgeWindow_seq (passed : List Nat) (base : Nat) (s : State) (v : Valve) :
    ∃ w, (judgeWindow passed base s v).seq = withWindows w s.seq := by
  unfold judgeWindow
  split
  · split
    · exact judgeOpen_seq v base s
    · exact ⟨s.seq.windows, rfl⟩
  · exact judgeOpen_seq v base s
  · split
    · exact ⟨_, rfl⟩
    · exact ⟨s.seq.windows, rfl⟩

/-- The twelve windows of a step event change nothing else of the sequencer, and without a base angle nothing at all
(R121, R122). -/
theorem judgeWindows_seq (passed : List Nat) (s : State) :
    ∃ w, (judgeWindows passed s).seq = withWindows w s.seq ∧ (effectiveBase s = none → w = s.seq.windows) := by
  unfold judgeWindows
  split
  case h_1 base _ =>
    have folded (l : List Valve) : ∀ t : State, ∃ w, (l.foldl (judgeWindow passed base) t).seq = withWindows w t.seq := by
      induction l with
      | nil => exact fun t => ⟨t.seq.windows, rfl⟩
      | cons v l ih =>
        intro t
        obtain ⟨w, hw⟩ := judgeWindow_seq passed base t v
        obtain ⟨x, hx⟩ := ih (judgeWindow passed base t v)
        exact ⟨x, hx.trans (by rw [hw]; rfl)⟩
    obtain ⟨w, hw⟩ := folded allValves s
    exact ⟨w, hw, fun absent => absurd absent (by simp [*])⟩
  case h_2 => exact ⟨s.seq.windows, rfl, fun _ => rfl⟩

@[simp] theorem judgeWindows_conv (passed : List Nat) (s : State) : (judgeWindows passed s).seq.conv = s.seq.conv := by
  obtain ⟨w, hw, -⟩ := judgeWindows_seq passed s
  rw [hw]; rfl

@[simp] theorem bypassPart_conv (before : Conv) (n : Nat) (s : State) :
    (bypassPart before n s).seq.conv = s.seq.conv := by
  unfold bypassPart
  split
  · unfold bypassEvent
    dsimp only
    split
    · rw [foldl_keeps _ State.seq fun t v => (burstRequest_frame v t).2.2.2.2.2.2.2.1]
    · rfl
  · rfl

/-- The phase of the next step event moved on, and then the work of a cycle start if it is one (R92, R95). -/
def stepWork (s : State) : State :=
  if cycleStartNext s.phase then cycleStartWork { s with phase := advancePhase s.phase }
  else { s with phase := advancePhase s.phase }

theorem stepEvent_eq {s : State} (h : s.phase.counting = true) :
    stepEvent s = bypassPart s.seq.conv (passedNext s.phase).length (judgeWindows (passedNext s.phase)
      (checkPoints (passedNext s.phase) s.sources.armed (settleTrip (stepWork s)))) := by
  unfold stepEvent
  rw [if_pos h]
  rfl

theorem stepEvent_stopped {s : State} (h : s.phase.counting ≠ true) : stepEvent s = s := if_neg h

@[simp] theorem stepWork_frame (s : State) :
    (stepWork s).table = s.table ∧ (stepWork s).tallies = s.tallies ∧ (stepWork s).settings = s.settings ∧
      (stepWork s).link = s.link := by
  unfold stepWork
  split <;> simp

/-! ### Events, claims and resets -/

theorem cycleStartWork_fit {s : State} (h : FitOk s) : FitOk (cycleStartWork s) := by
  have swapped : FitOk (swapAtCycleStart s) := by
    refine h.congr ?_ ?_ <;> unfold swapAtCycleStart <;> split <;> simp
  exact (sequencerCycleWork_fit swapped).congr (by simp [cycleStartWork]) (by simp [cycleStartWork])

theorem stepEvent_fit {s : State} (h : FitOk s) : FitOk (stepEvent s) := by
  by_cases counting : s.phase.counting = true
  · have moved : FitOk { s with phase := advancePhase s.phase } := h.congr rfl id
    have worked : FitOk (stepWork s) := by
      unfold stepWork
      split
      · exact cycleStartWork_fit moved
      · exact moved
    rw [stepEvent_eq counting]
    exact worked.congr (by simp) (by simp)
  · rw [stepEvent_stopped counting]; exact h

/-- What the result word of a poll's next position brings to the table, or the mismatch that it is (R61, R62). -/
def takenWord (p : Poll) (w : Word16) (s : State) : State :=
  match resultOf p w with
  | some res => applyResult res s
  | none => countMismatch s

theorem resultWord_cases (w : Word16) (s : State) : resultWord w s = overrun s ∨
    ∃ p, s.link.state = .exchange ∧ s.link.poll = some p ∧ resultWord w s = goOn (processed p)
      { takenWord p w s with link := { (takenWord p w s).link with poll := some (processed p) } } := by
  unfold resultWord takenWord
  split
  case h_1 p hs hp => exact .inr ⟨p, hs, hp, rfl⟩
  case h_2 => exact .inl rfl

theorem takenWord_tableOk {s : State} (h : TableOk s) (p : Poll) (w : Word16) : TableOk (takenWord p w s) := by
  unfold takenWord
  split
  · exact applyResult_tableOk h
  · exact h.congr rfl rfl rfl rfl

theorem resultWord_tableOk {s : State} (h : TableOk s) (w : Word16) : TableOk (resultWord w s) := by
  obtain e | ⟨p, -, -, e⟩ := resultWord_cases w s <;> rw [e]
  · exact h.congr rfl rfl rfl rfl
  · exact (takenWord_tableOk h p w).congr (by simp) (by simp) (by simp) (by simp)

theorem receive_tableOk {s : State} (h : TableOk s) (f : BitVec 20) : TableOk (receive f s) := by
  unfold receive
  split
  · exact h.congr (by simp) (by simp) (by simp) (by simp)
  · split
    · exact resultWord_tableOk h _
    · exact h.congr rfl rfl rfl rfl

theorem takeBlockAssertion_conv (s : State) : isStopped (takeBlockAssertion s).seq.conv = true := stopAtOnce_conv s

theorem takeLineFault_fit {s : State} (h : FitOk s) : FitOk (takeLineFault s) := by
  unfold takeLineFault
  split
  · exact .of_not_needed (by simp [enterRetarded, needsFitValves])
  · exact .of_not_needed (by simp [enterRetarded, needsFitValves])
  · exact h

theorem resetSequencer_conv (angle : Nat) (q : Sequencer) : isStopped (resetSequencer angle q).conv = true := by
  unfold resetSequencer
  dsimp only
  split <;> rfl

theorem controlReset_tableOk {s : State} (h : TableOk s) (keep : Option Port) : TableOk (controlReset keep s) :=
  h.of_fit (.of_not_needed (not_needed_of_stopped (resetSequencer_conv _ _))) rfl rfl rfl

theorem tableOk_of_event {f : State → State} (hf : EventOf f) {s : State} (h : TableOk s) : TableOk (f s) := by
  cases hf with
  | restartPulse => exact controlReset_tableOk h none
  | blockAssertion =>
    exact h.of_fit (.of_not_needed (not_needed_of_stopped (takeBlockAssertion_conv s))) (by simp) (by simp) (by simp)
  | lineFault => exact h.of_fit (takeLineFault_fit h.fit) (by simp) (by simp) (by simp)
  | crossing since => exact h.of_fit ((referenceCrossing_fit since s).fitOk h.fit) (by simp) (by simp) (by simp)
  | missed => exact h.of_fit ((missedCrossing_lockMove s).fit.fitOk h.fit) (by simp) (by simp) (by simp)
  | step => exact h.of_fit (stepEvent_fit h.fit) (by simp) (by simp) (by simp)
  | word f => exact receive_tableOk h f
  | _ => exact h.congr (by simp) (by simp) (by simp) (by simp)

theorem deblockRefusal_none_iff (s : State) : deblockRefusal s = none ↔
    s.lines.block = false ∧ s.phase.lock = .locked ∧ s.livePage.valid = true ∧ unfitCount s = 0 := by
  unfold deblockRefusal
  grind

theorem deblockClaim_fit {s : State} (h : FitOk s) : FitOk (deblockClaim s).1 := by
  unfold deblockClaim
  split
  · split
    · exact h
    case h_2 ready =>
      have fit := ((deblockRefusal_none_iff s).1 ready).2.2.2
      exact .of_unfitCount ((unfitCount_congr (by simp)).trans fit)
  · exact h

theorem blockClaim_fit {s : State} (h : FitOk s) : FitOk (blockClaim s).1 := by
  unfold blockClaim
  split
  case h_2 | h_3 => exact .of_not_needed (by simp [needsFitValves])
  case h_4 | h_5 => exact .of_not_needed (stopByRole_conv _ _)
  case h_6 | h_7 => exact h.congr (by simp) (by rw [strengthen_conv]; exact id)
  case h_1 | h_8 => exact h

theorem retardClaim_fit {s : State} (h : FitOk s) : FitOk (retardClaim s).1 := by
  unfold retardClaim
  split
  case h_1 | h_2 => exact .of_not_needed (by simp [enterRetarded, needsFitValves])
  case h_3 => exact h

theorem bypassClaim_fit {s : State} (h : FitOk s) : FitOk (bypassClaim s).1 := by
  unfold bypassClaim
  split
  case h_1 | h_2 => exact .of_not_needed (by simp [enterBypassing, needsFitValves])
  case h_3 => exact h

theorem clearTripClaim_fit {s : State} (h : FitOk s) : FitOk (clearTripClaim s).1 := by
  unfold clearTripClaim
  split
  · split
    · exact h
    · exact .of_not_needed (by simp [unlatch, needsFitValves])
  · exact h

theorem setClaim_tableOk {s : State} (h : TableOk s) (σ : Setting) (v : Byte) (w : Word16) :
    TableOk (setClaim σ v w s).1 := by
  obtain e | ⟨v, e⟩ := setClaim_cases σ v w s <;> rw [e]
  · exact h
  · exact storeClaim_tableOk h σ v w.toNat

theorem tableOk_of_claim {p : Port} {k : State → State × Option Reply} (hk : ClaimKind p k) {s : State}
    (h : TableOk s) : TableOk (k s).1 := by
  cases hk with
  | admission v x cls tag => exact admitClaim_tableOk h
  | amend v x rev cls tag => exact keyedChange_tableOk h fun _ hr ha => amendChange_keeps hr ha
  | clear v x rev cls tag => exact keyedChange_tableOk h fun _ hr ha => clearChange_keeps hr ha
  | reprove v x rev cls tag => exact keyedChange_tableOk h fun _ hr ha => reproveChange_keeps hr ha
  | retire v x rev why => exact keyedChange_tableOk h fun _ hr _ => retireChange_keeps hr
  | deblock => exact h.of_fit (deblockClaim_fit h.fit) (by simp) (by simp) (by simp)
  | block => exact h.of_fit (blockClaim_fit h.fit) (by simp) (by simp) (by simp)
  | retard => exact h.of_fit (retardClaim_fit h.fit) (by simp) (by simp) (by simp)
  | bypass => exact h.of_fit (bypassClaim_fit h.fit) (by simp) (by simp) (by simp)
  | clearTrip => exact h.of_fit (clearTripClaim_fit h.fit) (by simp) (by simp) (by simp)
  | set σ v w => exact setClaim_tableOk h σ v w
  | lookup | clearNotices | setMask =>
    exact h.congr (by simp [readOnly, clearNoticesClaim, setMaskClaim]) (by simp [readOnly, clearNoticesClaim, setMaskClaim])
      (by simp [readOnly, clearNoticesClaim, setMaskClaim]) (by simp [readOnly, clearNoticesClaim, setMaskClaim])
  | _ => exact h.congr (by simp) (by simp) (by simp) (by simp)

theorem reset_tableOk : TableOk State.reset where
  settings := by
    constructor
    · intro σ v; cases σ <;> revert v <;> decide +kernel
    · decide
    · decide
  tallies := by unfold TalliesOk; decide +kernel
  spreads := by unfold SpreadsOk; decide +kernel
  fit := .of_not_needed rfl
  records v p := by
    have blank : State.reset.record v p = LevelRecord.powerOn := by simp [State.record, State.reset]
    rw [blank]
    constructor <;> decide

theorem tableOk_keptByParts : KeptByParts TableOk where
  reads e h := h.congr e.table e.tallies e.settings (by rw [e.seq])
  same _ h := h.table
  power _ _ := reset_tableOk.congr rfl rfl rfl rfl
  restart keep _ h := controlReset_tableOk h.table keep
  tick _ h _ := h.table.congr rfl rfl rfl rfl
  event _ hf _ h := tableOk_of_event hf h.table
  claim _ _ hk _ h := tableOk_of_claim hk h.table

/-- Settles O56: settings, tallies, spreads, fitness and records through the events, the claims, the resets and the base
tick. -/
theorem stepKeepsRecords : Obligations.StepKeepsRecords := by
  unfold Obligations.StepKeepsRecords
  intro s t invariant reached
  have h := step_keeps tableOk_keptByParts invariant reached
  exact ⟨h.settings, h.tallies, h.spreads, h.fit, h.records⟩

end Sys2Proof.Machine

/-! The sequencer's items and the lanes through every change of converter state (R120, R122, R132, R133, R140, R145). -/

namespace Sys2Proof.Machine

/-! ### Lanes (R140 to R145) -/

theorem cutLane_hasBurst (l : Lane) : hasBurst (cutLane l).state = false := by
  unfold cutLane
  split <;> simp [*, darkLane, hasBurst]

theorem darkLane_ok {l : Lane} (h : LaneOk l) : LaneOk (darkLane l) :=
  ⟨rfl, rfl, fun _ _ absent => (nomatch absent), h.drops⟩

theorem cutLane_ok {l : Lane} (h : LaneOk l) : LaneOk (cutLane l) := by
  unfold cutLane
  split
  · exact ⟨rfl, rfl, fun _ _ absent => (nomatch absent), h.drops⟩
  · exact darkLane_ok h
  · exact h
  · exact h

theorem cutLanes_lanesOk {s : State} (h : LanesOk s) : LanesOk (cutLanes s) where
  lane v := by rw [cutLanes_lane]; exact cutLane_ok (h.lane v)
  firing v burst := by
    rw [cutLanes_lane, cutLane_hasBurst] at burst
    cases burst

/-- The bank that a search finds is active. -/
theorem isActive_of_activeFrom {comp : Vector BankLight 4} {n : Nat} {b : Bank} (h : activeFrom comp n = some b) :
    isActive comp b = true := by
  have := List.find?_some h
  exact (Bool.and_eq_true _ _ ▸ this).2

theorem lightBank_ok {comp : Vector BankLight 4} {b : Bank} (active : isActive comp b = true) {l : Lane}
    (h : l.drops ≤ 255) : LaneOk (lightBank comp b l) := by
  refine ⟨rfl, rfl, fun c x hc hx => ?_, h⟩
  cases hc; cases hx
  exact active

theorem laneOnTimeEnd_ok {l : Lane} (h : LaneOk l) : LaneOk (laneOnTimeEnd l) := by
  unfold laneOnTimeEnd
  split
  case h_1 comp b lit hc hb =>
    split
    case h_1 b' found =>
      refine ⟨by simp [hc, hasBurst], rfl, fun c x hc' hx => ?_, h.drops⟩
      obtain rfl : comp = c := Option.some.inj (hc.symm.trans hc')
      cases hx
      exact isActive_of_activeFrom found
    case h_2 => exact darkLane_ok h
  case h_2 => exact h

theorem laneGapEnd_ok {l : Lane} (h : LaneOk l) : LaneOk (laneGapEnd l) := by
  unfold laneGapEnd
  split
  case h_1 comp b gap hc hb => exact lightBank_ok (h.active comp b hc hb) h.drops
  case h_2 => exact h

theorem laneStopEnd_ok {l : Lane} (h : LaneOk l) : LaneOk (laneStopEnd l) := by
  unfold laneStopEnd
  split
  · exact darkLane_ok h
  · exact h

/-- No end of a lane's time begins a burst. -/
theorem hasBurst_of_laneOnTimeEnd {l : Lane} (h : hasBurst (laneOnTimeEnd l).state = true) :
    hasBurst l.state = true := by
  unfold laneOnTimeEnd at h
  split at h
  case h_1 lit _ _ => rw [lit]; rfl
  case h_2 => exact h

theorem hasBurst_of_laneGapEnd {l : Lane} (h : hasBurst (laneGapEnd l).state = true) : hasBurst l.state = true := by
  unfold laneGapEnd at h
  split at h
  case h_1 gap _ _ => rw [gap]; rfl
  case h_2 => exact h

theorem hasBurst_of_laneStopEnd {l : Lane} (h : hasBurst (laneStopEnd l).state = true) : hasBurst l.state = true := by
  unfold laneStopEnd at h
  split at h
  · cases h
  · exact h

/-- One lane changed, to a lane in order that has a burst only in a firing state. -/
theorem LanesOk.setLane {s : State} (h : LanesOk s) {v : Valve} {l : Lane} (ok : LaneOk l)
    (firing : hasBurst l.state = true → isFiring s.seq.conv = true) : LanesOk (s.setLane v l) where
  lane w := by
    rw [State.setLane_lane]
    split
    · exact ok
    · exact h.lane w
  firing w burst := by
    rw [State.setLane_lane] at burst
    split at burst
    · exact firing burst
    · exact h.firing w burst

theorem burstRequest_lanesOk {s : State} (h : LanesOk s) (v : Valve) : LanesOk (burstRequest v s) := by
  have ok := h.lane v
  have dropped : LanesOk (s.setLane v { s.lane v with drops := saturate 255 (s.lane v).drops }) :=
    h.setLane ⟨ok.composition, ok.bank, ok.active, saturate_le _ _⟩ (h.firing v)
  unfold burstRequest
  dsimp only
  split
  · split
    case isTrue firing =>
      split
      case h_1 b found => exact h.setLane (lightBank_ok (isActive_of_activeFrom found) ok.drops) fun _ => firing
      case h_2 => exact h
    case isFalse => exact h
  all_goals exact dropped

theorem fireValve_lanesOk {s : State} (h : LanesOk s) (v : Valve) : LanesOk (fireValve v s) := by
  have own := burstRequest_lanesOk h v
  unfold fireValve
  dsimp only
  split
  · exact .congr (s := burstRequest (pairValve v) (burstRequest v s)) rfl rfl (burstRequest_lanesOk own (pairValve v))
  · exact .congr (s := burstRequest v s) rfl rfl own

theorem judgeOpen_lanesOk {s : State} (h : LanesOk s) (v : Valve) (base : Nat) : LanesOk (judgeOpen v base s) := by
  unfold judgeOpen setWindow
  split
  · exact .congr (s := fireValve v s) rfl rfl (fireValve_lanesOk h v)
  · exact .congr (s := s) rfl rfl h

theorem judgeWindow_lanesOk {s : State} (h : LanesOk s) (passed : List Nat) (base : Nat) (v : Valve) :
    LanesOk (judgeWindow passed base s v) := by
  unfold judgeWindow setWindow
  split
  · split
    · exact judgeOpen_lanesOk h v base
    · exact h
  · exact judgeOpen_lanesOk h v base
  · split
    · exact .congr (s := s) rfl rfl h
    · exact h

/-- What each step of a fold keeps, the fold keeps. -/
theorem foldl_preserves {α : Type} {P : State → Prop} {f : State → α → State} (step : ∀ s a, P s → P (f s a))
    (l : List α) {s : State} (h : P s) : P (l.foldl f s) := by
  induction l generalizing s with
  | nil => exact h
  | cons a l ih => exact ih (step s a h)

theorem judgeWindows_lanesOk {s : State} (h : LanesOk s) (passed : List Nat) : LanesOk (judgeWindows passed s) := by
  unfold judgeWindows
  split
  case h_1 base _ =>
    exact foldl_preserves (P := LanesOk) (f := judgeWindow passed base)
      (fun _ v k => judgeWindow_lanesOk k passed base v) allValves h
  case h_2 => exact h

theorem bypassPart_lanesOk {s : State} (h : LanesOk s) (before : Conv) (n : Nat) : LanesOk (bypassPart before n s) := by
  unfold bypassPart
  split
  · unfold bypassEvent
    dsimp only
    split
    · refine foldl_preserves (P := LanesOk) (f := fun t v => burstRequest v t) (fun _ v k => burstRequest_lanesOk k v) _ ?_
      exact .congr (s := s) rfl rfl h
    · exact .congr (s := s) rfl rfl h
  · exact h

/-! ### The sequencer's items (R120, R122, R132) -/

/-- What an entry into a converter state needs of the sequencer that it finds. -/
structure Enterable (limit : Nat) (q : Sequencer) : Prop where
  cause    : q.tripCause.isSome = q.tripLatch
  failed   : q.cfMark = true ∨ 0 < q.cfRun → q.lastFailure.isSome = true
  attempts : q.attempts ≤ limit

theorem SequencerOk.enterable {s : State} (h : SequencerOk s) : Enterable s.settings.restartLimit s.seq :=
  ⟨h.cause, h.failed, h.attempts⟩

/-- An entry into a converter state leaves the sequencer in order where exit target and trip latch agree with the state. -/
theorem sequencerOk_enterItems {s : State} {q : Sequencer} {c : Conv} {x : Option ExitTarget}
    (h : Enterable s.settings.restartLimit q) (exit : x.isSome = hasExit c)
    (bypass : c = .bypassing → x ≠ some .deionizing) (latch : q.tripLatch = true ↔ c = .tripped ∨ x = some .tripped) :
    SequencerOk { s with seq := enterItems c x q } where
  exit := exit
  bypass := bypass
  latch := latch
  cause := h.cause
  windows closed v := by
    have closed : hasWindows c = false := closed
    simp [enterItems, closed]
  failures quiet := by
    have quiet : countsFailures c = false := quiet
    cases c <;> first | exact ⟨rfl, rfl, rfl, rfl⟩ | cases quiet
  failed counted := by
    cases c
    case ramping | running => exact h.failed counted
    all_goals exact absurd counted (by simp [enterItems])
  attempts := by
    show (if isStopped c then 0 else q.attempts) ≤ s.settings.restartLimit
    split
    · exact Nat.zero_le _
    · exact h.attempts
  recovery _ := rfl
  fresh stopped := if_pos stopped
  trip mark := nomatch mark

/-- The items that no part of the invariant reads. -/
theorem SequencerOk.counts {s : State} {q : Sequencer} (h : SequencerOk { s with seq := q })
    (ramp retard deion bypass spacing : Nat) (entry : Bool) :
    SequencerOk
      { s with
        seq :=
          { q with
            ramp := ramp, retardCount := retard, deionCount := deion, bypassCount := bypass, bypassSpacing := spacing,
            bypassEntry := entry } } :=
  ⟨h.exit, h.bypass, h.latch, h.cause, h.windows, h.failures, h.failed, h.attempts, h.recovery, h.fresh, h.trip⟩

/-! ### Changes of converter state -/

/-- A change of the sequencer and the lanes that leaves both in order, stops no stop and begins no PENDING. -/
structure SeqMove (s t : State) : Prop where
  stopped  : isStopped s.seq.conv = true → isStopped t.seq.conv = true
  pending  : t.seq.conv = .pending → s.seq.conv = .pending
  seq      : SequencerOk t
  lanes    : LanesOk t

theorem SeqMove.refl {s : State} (h : SequencerOk s) (l : LanesOk s) : SeqMove s s := ⟨id, id, h, l⟩

theorem SeqMove.trans {s t u : State} (h : SeqMove s t) (k : SeqMove t u) : SeqMove s u :=
  ⟨k.stopped ∘ h.stopped, h.pending ∘ k.pending, k.seq, k.lanes⟩

/-- A move with the same converter state. -/
theorem SeqMove.of_conv {s t : State} (e : t.seq.conv = s.seq.conv) (h : SequencerOk t) (l : LanesOk t) : SeqMove s t :=
  ⟨by rw [e]; exact id, by rw [e]; exact id, h, l⟩

/-- A move stays one under changes outside sequencer, lanes and settings. -/
theorem SeqMove.congr {s t u : State} (h : SeqMove s t) (eq : u.seq = t.seq) (el : u.lanes = t.lanes)
    (es : u.settings = t.settings) : SeqMove s u :=
  ⟨by rw [eq]; exact h.stopped, by rw [eq]; exact h.pending, h.seq.congr eq es, .congr el (by rw [eq]) h.lanes⟩

theorem enter_lanesOk {s : State} (h : LanesOk s) (c : Conv) (x : Option ExitTarget) : LanesOk (enter c x s) := by
  have lanes (same : isFiring s.seq.conv = true → isFiring c = true) :
      LanesOk (setNotice .converter { s with seq := enterItems c x s.seq }) :=
    ⟨h.lane, fun v burst => same (h.firing v burst)⟩
  unfold enter
  dsimp only
  split
  case isTrue leaves =>
    refine ⟨fun v => ?_, fun v burst => ?_⟩
    · rw [cutLanes_lane]; exact cutLane_ok (h.lane v)
    · rw [cutLanes_lane, cutLane_hasBurst] at burst
      cases burst
  case isFalse stays => exact lanes fun firing => by simpa [firing] using stays

theorem enter_move {s : State} (h : Enterable s.settings.restartLimit s.seq) (l : LanesOk s) {c : Conv}
    {x : Option ExitTarget} (exit : x.isSome = hasExit c) (bypass : c = .bypassing → x ≠ some .deionizing)
    (latch : s.seq.tripLatch = true ↔ c = .tripped ∨ x = some .tripped)
    (stopped : isStopped s.seq.conv = true → isStopped c = true) (pending : c ≠ .pending) : SeqMove s (enter c x s) where
  stopped := by rw [enter_seq]; exact stopped
  pending e := by rw [enter_seq] at e; exact absurd e pending
  seq := (sequencerOk_enterItems h exit bypass latch).congr (enter_seq c x s) (by simp)
  lanes := enter_lanesOk l c x

/-- The latch as the invariant ties it to the state, where the state has no exit target. -/
theorem SequencerOk.latch_of_noExit {s : State} (h : SequencerOk s) (noExit : hasExit s.seq.conv = false)
    (notTripped : s.seq.conv ≠ .tripped) : s.seq.tripLatch = false := by
  have exit : s.seq.exitTarget = none := by
    have := h.exit
    rw [noExit] at this
    simpa using this
  have : ¬ s.seq.tripLatch = true := by
    rw [h.latch, exit]
    exact fun k => k.elim notTripped fun k => nomatch k
  simpa using this

/-- The sequencer after a trip is latched (R133). -/
theorem latchTrip_seq (cause : TripCause) (s : State) :
    (latchTrip cause s).seq = if s.seq.tripLatch then s.seq else latched cause s.seq := by
  unfold latchTrip
  split <;> rfl

end Sys2Proof.Machine

/-! The sequencer's own operations as moves that keep its items and the lanes in order (R125 to R137). -/

namespace Sys2Proof.Machine

/-! ### Entries -/

theorem enterRetarded_move {s : State} (h : Enterable s.settings.restartLimit s.seq) (l : LanesOk s) {x : ExitTarget}
    (moving : isStopped s.seq.conv = false) (latch : s.seq.tripLatch = true ↔ x = .tripped) :
    SeqMove s (enterRetarded x s) := by
  have entered : SeqMove s (enter .retarded (some x) s) :=
    enter_move h l rfl (fun e => nomatch e) (by simp [latch]) (by simp [moving]) (by decide)
  exact ⟨entered.stopped, entered.pending, .counts (s := enter .retarded (some x) s) entered.seq _ _ _ _ _ _,
    entered.lanes.lane, entered.lanes.firing⟩

theorem enterBypassing_move {s : State} (h : Enterable s.settings.restartLimit s.seq) (l : LanesOk s) {x : ExitTarget}
    (moving : isStopped s.seq.conv = false) (latch : s.seq.tripLatch = true ↔ x = .tripped) (bypass : x ≠ .deionizing) :
    SeqMove s (enterBypassing x s) := by
  have entered : SeqMove s (enter .bypassing (some x) s) :=
    enter_move h l rfl (fun _ => by simpa using bypass) (by simp [latch]) (by simp [moving]) (by decide)
  exact ⟨entered.stopped, entered.pending, .counts (s := enter .bypassing (some x) s) entered.seq _ _ _ _ _ _,
    entered.lanes.lane, entered.lanes.firing⟩

theorem enterDeionizing_move {s : State} (h : Enterable s.settings.restartLimit s.seq) (l : LanesOk s)
    (moving : isStopped s.seq.conv = false) (latch : s.seq.tripLatch = false) : SeqMove s (enterDeionizing s) := by
  have entered : SeqMove s (enter .deionizing none s) :=
    enter_move h l rfl (fun e => nomatch e) (by simp [latch]) (by simp [moving]) (by decide)
  exact ⟨entered.stopped, entered.pending, .counts (s := enter .deionizing none s) entered.seq _ _ _ _ _ _,
    entered.lanes.lane, entered.lanes.firing⟩

theorem enterRamping_move {s : State} (h : Enterable s.settings.restartLimit s.seq) (l : LanesOk s)
    (moving : isStopped s.seq.conv = false) (latch : s.seq.tripLatch = false) : SeqMove s (enterRamping s) := by
  have entered : SeqMove s (enter .ramping none s) :=
    enter_move h l rfl (fun e => nomatch e) (by simp [latch]) (by simp [moving]) (by decide)
  exact ⟨entered.stopped, entered.pending, .counts (s := enter .ramping none s) entered.seq _ _ _ _ _ _,
    entered.lanes.lane, entered.lanes.firing⟩

theorem enterBlocked_move {s : State} (h : Enterable s.settings.restartLimit s.seq) (l : LanesOk s)
    (latch : s.seq.tripLatch = false) : SeqMove s (enter .blocked none s) :=
  enter_move h l rfl (fun e => nomatch e) (by simp [latch]) (fun _ => rfl) (by decide)

theorem enterTripped_move {s : State} (h : Enterable s.settings.restartLimit s.seq) (l : LanesOk s)
    (latch : s.seq.tripLatch = true) : SeqMove s (enter .tripped none s) :=
  enter_move h l rfl (fun e => nomatch e) (by simp [latch]) (fun _ => rfl) (by decide)

theorem stopByRole_move {s : State} (h : Enterable s.settings.restartLimit s.seq) (l : LanesOk s) {x : ExitTarget}
    (moving : isStopped s.seq.conv = false) (latch : s.seq.tripLatch = true ↔ x = .tripped) (bypass : x ≠ .deionizing) :
    SeqMove s (stopByRole x s) := by
  unfold stopByRole
  split
  · exact enterRetarded_move h l moving latch
  · exact enterBypassing_move h l moving latch bypass

/-! ### Exit targets and trips -/

/-- A weaker exit target replaced, with the latch as the new one asks. -/
theorem sequencerOk_retarget {s : State} (h : SequencerOk s) {x y : ExitTarget} (found : s.seq.exitTarget = some y)
    (weak : y ≠ .tripped) (strong : x ≠ .deionizing) {latch : Bool} {cause : Option TripCause}
    (agrees : latch = true ↔ x = .tripped) (caused : cause.isSome = latch) :
    SequencerOk
      { s with seq := { s.seq with exitTarget := some x, tripLatch := latch, tripCause := cause } } := by
  have exit : hasExit s.seq.conv = true := by rw [← h.exit, found]; rfl
  have notTripped : s.seq.conv ≠ .tripped := fun e => by rw [e] at exit; cases exit
  exact
    { exit := exit.symm
      bypass := fun _ => by simpa using strong
      latch := by simpa [notTripped] using agrees
      cause := caused
      windows := h.windows, failures := h.failures, failed := h.failed, attempts := h.attempts
      recovery := h.recovery, fresh := h.fresh
      trip := fun mark => absurd ((found.symm.trans (h.trip mark).2)) (by simpa using weak) }

theorem strengthen_lanes (x : ExitTarget) (s : State) : (strengthen x s).lanes = s.lanes := by simp

/-- A trip cause in a state with an exit target (R133). -/
theorem raiseTrip_exit {s : State} (h : SequencerOk s) (exit : hasExit s.seq.conv = true) (cause : TripCause) :
    SequencerOk (strengthen .tripped (latchTrip cause s)) := by
  obtain ⟨y, found⟩ := Option.isSome_iff_exists.1 (h.exit.trans exit)
  have notTripped : s.seq.conv ≠ .tripped := fun e => by rw [e] at exit; cases exit
  by_cases strong : y = .tripped
  · subst strong
    rw [latchTrip_of_set (h.latch.2 (.inr found)), strengthen_of_weaker found (Nat.le_refl _)]
    exact h
  · have clear : s.seq.tripLatch = false := by
      have : ¬ s.seq.tripLatch = true := by
        rw [h.latch, found]
        exact fun k => k.elim notTripped fun k => strong (Option.some.inj k)
      simpa using this
    have weaker : exitRank y < exitRank .tripped := by revert strong; cases y <;> decide
    rw [latchTrip_of_clear clear,
      strengthen_of_stronger (s := setNotice .trip { s with seq := latched cause s.seq }) (y := y) found weaker]
    exact .congr (s := { s with seq := { s.seq with exitTarget := some .tripped, tripLatch := true, tripCause := some cause } })
      rfl rfl (sequencerOk_retarget h found strong (by decide) (by decide) rfl)

theorem latchTrip_enterable {s : State} (h : Enterable s.settings.restartLimit s.seq) (cause : TripCause) :
    Enterable s.settings.restartLimit (latchTrip cause s).seq := by
  rw [latchTrip_seq]
  split
  · exact h
  · exact ⟨rfl, h.failed, h.attempts⟩

theorem latchTrip_latch (cause : TripCause) (s : State) : (latchTrip cause s).seq.tripLatch = true := by
  rw [latchTrip_seq]
  split
  · assumption
  · rfl

/-- A trip cause in any state leaves sequencer and lanes in order (R133). -/
theorem raiseTrip_move {s : State} (h : SequencerOk s) (l : LanesOk s) (cause : TripCause) :
    SeqMove s (raiseTrip cause s) := by
  have conv := latchTrip_conv cause s
  have enterable : Enterable (latchTrip cause s).settings.restartLimit (latchTrip cause s).seq := by
    rw [(latchTrip_frame cause s).2.2.1]
    exact latchTrip_enterable h.enterable cause
  have lanes : LanesOk (latchTrip cause s) := .congr (by simp) conv l
  have latch := latchTrip_latch cause s
  have begun {t : State} (m : SeqMove (latchTrip cause s) t) : SeqMove s t :=
    ⟨by rw [← conv]; exact m.stopped, by rw [← conv]; exact m.pending, m.seq, m.lanes⟩
  have exits (exit : hasExit s.seq.conv = true) : SeqMove s (strengthen .tripped (latchTrip cause s)) :=
    .of_conv ((strengthen_conv _ _).trans conv) (raiseTrip_exit h exit cause)
      (.congr (by simp) ((strengthen_conv _ _).trans conv) l)
  unfold raiseTrip
  split
  case h_1 c | h_2 c =>
    exact begun (stopByRole_move enterable lanes (by rw [conv, c]; rfl) (by simp [latch]) (by decide))
  case h_3 c | h_4 c => exact exits (by rw [c]; rfl)
  case h_5 => exact begun (enterTripped_move enterable lanes latch)
  case h_6 c => exact enterBlocked_move h.enterable l (h.latch_of_noExit (by rw [c]; rfl) (by rw [c]; decide))
  case h_7 | h_8 => exact .refl h l

/-- A converter with an exit target takes it (R126, R128, R131). -/
theorem takeExit_move {s : State} (h : SequencerOk s) (l : LanesOk s) (exit : hasExit s.seq.conv = true) :
    SeqMove s (takeExit s) := by
  have moving : isStopped s.seq.conv = false := by
    cases c : s.seq.conv <;> first | rfl | (rw [c] at exit; cases exit)
  have notTripped : s.seq.conv ≠ .tripped := fun e => by rw [e] at exit; cases exit
  have clear {y : ExitTarget} (found : s.seq.exitTarget = some y) (weak : y ≠ .tripped) : s.seq.tripLatch = false := by
    have : ¬ s.seq.tripLatch = true := by
      rw [h.latch, found]
      exact fun k => k.elim notTripped fun k => weak (Option.some.inj k)
    simpa using this
  unfold takeExit
  split
  case h_1 found => exact enterDeionizing_move h.enterable l moving (clear found (by decide))
  case h_2 found => exact enterBlocked_move h.enterable l (clear found (by decide))
  case h_3 found => exact enterTripped_move h.enterable l (h.latch.2 (.inr found))
  case h_4 => exact .refl h l

theorem stopByRole_exit (x : ExitTarget) (s : State) :
    ((stopByRole x s).seq.conv = .retarded ∨ (stopByRole x s).seq.conv = .bypassing) ∧
      (stopByRole x s).seq.exitTarget = some x := by
  unfold stopByRole
  split <;> simp [enterRetarded, enterBypassing, enterItems]

/-- The mark of an unfit entry, where the trip has left an exit target (R134). -/
theorem markTrip_move {s t : State} (m : SeqMove s t)
    (exit : s.seq.conv = .ramping ∨ s.seq.conv = .running →
      (t.seq.conv = .retarded ∨ t.seq.conv = .bypassing) ∧ t.seq.exitTarget = some .tripped) :
    SeqMove s (markTrip s.seq.conv t) := by
  have marked : (markTrip s.seq.conv t).seq = t.seq ∨
      ((s.seq.conv = .ramping ∨ s.seq.conv = .running) ∧
        (markTrip s.seq.conv t).seq = { t.seq with freshTrip := true }) := by
    rw [markTrip_seq]
    split
    case isTrue fired => exact .inr ⟨fired, rfl⟩
    case isFalse => exact .inl rfl
  obtain same | ⟨fired, marked⟩ := marked
  · exact m.congr same (by simp) (by simp)
  · have k := m.seq
    refine .congr (t := { t with seq := { t.seq with freshTrip := true } }) ⟨m.stopped, m.pending, ?_, ?_⟩ marked
      (by simp) (by simp)
    · exact { exit := k.exit, bypass := k.bypass, latch := k.latch, cause := k.cause, windows := k.windows,
              failures := k.failures, failed := k.failed, attempts := k.attempts, recovery := k.recovery,
              fresh := k.fresh, trip := fun _ => exit fired }
    · exact ⟨m.lanes.lane, m.lanes.firing⟩

/-- A valve's entry into UNFIT (R29, R127, R133, R134). -/
theorem unfitEntry_move {s : State} (h : SequencerOk s) (l : LanesOk s) (v : Valve) (origin : UnfitOrigin) :
    SeqMove s (unfitEntry v origin s) := by
  unfold unfitEntry
  split
  case h_1 =>
    refine markTrip_move (raiseTrip_move h l (.valveUnfit v)) fun fired => ?_
    have stops : raiseTrip (.valveUnfit v) s = stopByRole .tripped (latchTrip (.valveUnfit v) s) := by
      unfold raiseTrip
      obtain c | c := fired <;> rw [c]
    rw [stops]
    exact stopByRole_exit _ _
  case h_2 =>
    split
    case isTrue c => exact enterBlocked_move h.enterable l (h.latch_of_noExit (by rw [c]; rfl) (by rw [c]; decide))
    case isFalse => exact .refl h l

theorem commitTally_move {s : State} (h : SequencerOk s) (l : LanesOk s) (v : Valve) (y : Tally)
    (origin : UnfitOrigin) : SeqMove s (commitTally v y origin s) := by
  have stored : SeqMove s (s.setTally v y) := .of_conv rfl (.congr (s := s) rfl rfl h) (.congr (s := s) rfl rfl l)
  unfold commitTally
  dsimp only
  split
  · exact stored
  · have noticed : SeqMove s (setNotice .grade (s.setTally v y)) := stored.congr rfl rfl rfl
    split
    · exact noticed.trans (unfitEntry_move noticed.seq noticed.lanes v origin)
    · exact noticed

theorem commitRecord_move {s : State} (h : SequencerOk s) (l : LanesOk s) (v : Valve) (p : Position)
    (new : LevelRecord) (origin : UnfitOrigin) : SeqMove s (commitRecord v p new origin s) := by
  have same : SeqMove s s := .refl h l
  unfold commitRecord
  dsimp only
  split
  · have noticed : SeqMove s (setNotice .level
        (s.setRecord v p { new with revision := (s.record v p).revision + 1 })) := same.congr rfl rfl rfl
    exact noticed.trans (commitTally_move noticed.seq noticed.lanes v _ origin)
  · exact same.congr rfl rfl rfl

/-! ### The work of a cycle start (R125, R126, R129) -/

theorem countFailures_seq {s : State} (h : SequencerOk s) (counts : countsFailures s.seq.conv = true) :
    SequencerOk { s with seq := countFailures s.seq } where
  exit := h.exit
  bypass := h.bypass
  latch := h.latch
  cause := h.cause
  windows := h.windows
  failures quiet := absurd (counts.symm.trans quiet) (by decide)
  failed counted := h.failed (by
    refine .inl ?_
    by_contra clear
    simp [countFailures, clear] at counted)
  attempts := h.attempts
  recovery := h.recovery
  fresh := h.fresh
  trip := h.trip

theorem afterFailures_move {s : State} (h : SequencerOk s) (l : LanesOk s) (counts : countsFailures s.seq.conv = true)
    {work : State → State}
    (worked : ∀ t : State, t.seq.conv = s.seq.conv → SequencerOk t → LanesOk t → SeqMove t (work t)) :
    SeqMove s (afterFailures work s) := by
  have counted : SeqMove s { s with seq := countFailures s.seq } :=
    .of_conv rfl (countFailures_seq h counts) (.congr (s := s) rfl rfl l)
  unfold afterFailures
  dsimp only
  split
  · exact counted.trans (raiseTrip_move counted.seq counted.lanes _)
  · exact counted.trans (worked _ rfl counted.seq counted.lanes)

theorem rampStep_move {s : State} (c : s.seq.conv = .ramping) (h : SequencerOk s) (l : LanesOk s) :
    SeqMove s (rampStep s) := by
  unfold rampStep
  dsimp only
  generalize rampToward s.seq.ramp s.livePage.alpha s.settings.rampRate = r
  have ramped : SeqMove s { s with seq := { s.seq with ramp := r } } :=
    .of_conv rfl (h.counts r _ _ _ _ _) (.congr (s := s) rfl rfl l)
  split
  · have latch : s.seq.tripLatch = false := h.latch_of_noExit (by rw [c]; rfl) (by rw [c]; decide)
    exact ramped.trans (enter_move ramped.seq.enterable ramped.lanes rfl (fun e => nomatch e) (by simp [latch])
      (by simp [c, isStopped]) (by decide))
  · exact ramped

theorem recoveryStep_move {s : State} (c : s.seq.conv = .running) (h : SequencerOk s) (l : LanesOk s) :
    SeqMove s (recoveryStep s) := by
  unfold recoveryStep
  dsimp only
  split
  · refine .of_conv rfl ?_ (.congr (s := s) rfl rfl l)
    exact
      { exit := h.exit, bypass := h.bypass, latch := h.latch, cause := h.cause, windows := h.windows
        failures := h.failures, failed := h.failed
        attempts := by
          have := h.attempts
          dsimp only
          split <;> omega
        recovery := fun notRunning => absurd c notRunning
        fresh := fun stopped => absurd stopped (by simp [c, isStopped])
        trip := h.trip }
  · exact .refl h l

theorem settleRestart_move {s : State} (c : s.seq.conv = .deionizing) (h : SequencerOk s) (l : LanesOk s) :
    SeqMove s (settleRestart s) := by
  have latch : s.seq.tripLatch = false := h.latch_of_noExit (by rw [c]; rfl) (by rw [c]; decide)
  unfold settleRestart
  split
  · exact (enterBlocked_move h.enterable l latch).congr rfl rfl rfl
  case isFalse left =>
    have next : Enterable s.settings.restartLimit { s.seq with attempts := s.seq.attempts + 1 } :=
      ⟨h.cause, h.failed, Nat.not_lt.1 left⟩
    have lanes : LanesOk { s with seq := { s.seq with attempts := s.seq.attempts + 1 } } := .congr (s := s) rfl rfl l
    have begun {t : State} (m : SeqMove { s with seq := { s.seq with attempts := s.seq.attempts + 1 } } t) :
        SeqMove s t := ⟨m.stopped, m.pending, m.seq, m.lanes⟩
    dsimp only
    split
    · exact begun (enterBlocked_move next lanes latch)
    · exact begun (enterRamping_move next lanes (by simp [c, isStopped]) latch)

theorem deionizationStep_move {s : State} (c : s.seq.conv = .deionizing) (h : SequencerOk s) (l : LanesOk s) :
    SeqMove s (deionizationStep s) := by
  have counted : SeqMove s { s with seq := { s.seq with deionCount := s.seq.deionCount + 1 } } :=
    .of_conv rfl (h.counts _ _ _ _ _ _) (.congr (s := s) rfl rfl l)
  unfold deionizationStep
  dsimp only
  split
  · exact counted.trans (settleRestart_move c counted.seq counted.lanes)
  · exact counted

theorem retardStep_move {s : State} (c : s.seq.conv = .retarded) (h : SequencerOk s) (l : LanesOk s) :
    SeqMove s (retardStep s) := by
  have counted : SeqMove s { s with seq := { s.seq with retardCount := s.seq.retardCount + 1 } } :=
    .of_conv rfl (h.counts _ _ _ _ _ _) (.congr (s := s) rfl rfl l)
  unfold retardStep
  dsimp only
  split
  · exact .refl h l
  · split
    · exact counted.trans (takeExit_move counted.seq counted.lanes (by simp [c, hasExit]))
    · exact counted

theorem bypassStep_move {s : State} (c : s.seq.conv = .bypassing) (h : SequencerOk s) (l : LanesOk s) :
    SeqMove s (bypassStep s) := by
  have counted : SeqMove s { s with seq := { s.seq with bypassCount := s.seq.bypassCount + 1 } } :=
    .of_conv rfl (h.counts _ _ _ _ _ _) (.congr (s := s) rfl rfl l)
  unfold bypassStep
  dsimp only
  split
  · exact .refl h l
  · split
    · exact counted.trans (takeExit_move counted.seq counted.lanes (by simp [c, hasExit]))
    · exact counted

theorem startRamp_move {s : State} (c : s.seq.conv = .pending) (h : SequencerOk s) (l : LanesOk s) :
    SeqMove s (startRamp s) := by
  have entered := enterRamping_move h.enterable l (by simp [c, isStopped])
    (h.latch_of_noExit (by rw [c]; rfl) (by rw [c]; decide))
  have k := entered.seq
  unfold startRamp
  refine ⟨entered.stopped, entered.pending, ?_, ⟨entered.lanes.lane, entered.lanes.firing⟩⟩
  exact { exit := k.exit, bypass := k.bypass, latch := k.latch, cause := k.cause, windows := k.windows,
          failures := k.failures, failed := k.failed, attempts := Nat.zero_le _, recovery := k.recovery,
          fresh := fun _ => rfl, trip := k.trip }

theorem sequencerCycleWork_move {s : State} (h : SequencerOk s) (l : LanesOk s) : SeqMove s (sequencerCycleWork s) := by
  unfold sequencerCycleWork
  split
  case h_1 c => exact startRamp_move c h l
  case h_2 c => exact afterFailures_move h l (by rw [c]; rfl) fun t e => rampStep_move (e.trans c)
  case h_3 c => exact afterFailures_move h l (by rw [c]; rfl) fun t e => recoveryStep_move (e.trans c)
  case h_4 c => exact retardStep_move c h l
  case h_5 c => exact deionizationStep_move c h l
  case h_6 c => exact bypassStep_move c h l
  case h_7 | h_8 => exact .refl h l

/-! ### Stops, failures and step events (R122, R132, R134, R136, R137) -/

theorem stopAtOnce_move {s : State} (h : SequencerOk s) (l : LanesOk s) : SeqMove s (stopAtOnce s) := by
  unfold stopAtOnce
  split
  · exact .refl h l
  · have entered : SeqMove s (enter (if s.seq.tripLatch then .tripped else .blocked) none s) := by
      split
      case isTrue latch => exact enterTripped_move h.enterable l latch
      case isFalse latch => exact enterBlocked_move h.enterable l (by simpa using latch)
    generalize enter (if s.seq.tripLatch then .tripped else .blocked) none s = u at entered ⊢
    exact ⟨entered.stopped, entered.pending, .congr (s := u) rfl rfl entered.seq, cutLanes_lanesOk entered.lanes⟩

theorem sequencerLockChange_move {s : State} (h : SequencerOk s) (l : LanesOk s) (new : Lock) :
    SeqMove s (sequencerLockChange new s) := by
  have pending (c : s.seq.conv = .pending) : SeqMove s (enter .blocked none s) :=
    enterBlocked_move h.enterable l (h.latch_of_noExit (by rw [c]; rfl) (by rw [c]; decide))
  unfold sequencerLockChange
  split
  · exact stopAtOnce_move h l
  · split
    · exact pending ‹_›
    · exact .refl h l
  · split
    · exact pending ‹_›
    · exact .refl h l
  · exact .refl h l

theorem commutationFailure_move {s : State} (h : SequencerOk s) (l : LanesOk s) (v : Valve) :
    SeqMove s (commutationFailure v s) := by
  have marked (counts : countsFailures s.seq.conv = true) : SequencerOk
      { s with seq := { s.seq with cfHold := s.settings.cfHold, cfMark := true, lastFailure := some v } } :=
    { exit := h.exit, bypass := h.bypass, latch := h.latch, cause := h.cause, windows := h.windows
      failures := fun quiet => absurd (counts.symm.trans quiet) (by decide)
      failed := fun _ => rfl
      attempts := h.attempts, recovery := h.recovery, fresh := h.fresh, trip := h.trip }
  unfold commutationFailure
  split
  case h_1 c | h_2 c => exact .of_conv rfl (marked (by rw [c]; rfl)) (.congr (s := s) rfl rfl l)
  case h_3 => exact .refl h l

theorem settleTrip_move {s : State} (h : SequencerOk s) (l : LanesOk s) : SeqMove s (settleTrip s) :=
  .of_conv rfl
    { exit := h.exit, bypass := h.bypass, latch := h.latch, cause := h.cause, windows := h.windows,
      failures := h.failures, failed := h.failed, attempts := h.attempts, recovery := h.recovery, fresh := h.fresh,
      trip := fun mark => nomatch mark }
    (.congr (s := s) rfl rfl l)

theorem effectiveBase_none {s : State} (h : hasWindows s.seq.conv = false) : effectiveBase s = none := by
  unfold effectiveBase
  cases c : s.seq.conv <;> first | rfl | (rw [c] at h; cases h)

theorem judgeWindows_move {s : State} (h : SequencerOk s) (l : LanesOk s) (passed : List Nat) :
    SeqMove s (judgeWindows passed s) := by
  obtain ⟨w, e, none⟩ := judgeWindows_seq passed s
  refine .of_conv (judgeWindows_conv passed s) (.congr (s := { s with seq := withWindows w s.seq }) e (by simp) ?_)
    (judgeWindows_lanesOk l passed)
  exact
    { exit := h.exit, bypass := h.bypass, latch := h.latch, cause := h.cause
      windows := fun closed v => by
        have := none (effectiveBase_none closed)
        subst this
        exact h.windows closed v
      failures := h.failures, failed := h.failed, attempts := h.attempts, recovery := h.recovery, fresh := h.fresh
      trip := h.trip }

theorem bypassPart_seq (before : Conv) (n : Nat) (s : State) : (bypassPart before n s).seq = s.seq ∨
    ∃ spacing, (bypassPart before n s).seq = { s.seq with bypassSpacing := spacing, bypassEntry := false } := by
  unfold bypassPart
  split
  · unfold bypassEvent
    dsimp only
    refine .inr ⟨(bypassAdvance s.seq n).1, ?_⟩
    split
    · rw [foldl_keeps _ State.seq fun t v => (burstRequest_frame v t).2.2.2.2.2.2.2.1]
    · rfl
  · exact .inl rfl

theorem bypassPart_move {s : State} (h : SequencerOk s) (l : LanesOk s) (before : Conv) (n : Nat) :
    SeqMove s (bypassPart before n s) := by
  refine .of_conv (bypassPart_conv before n s) ?_ (bypassPart_lanesOk l before n)
  obtain e | ⟨spacing, e⟩ := bypassPart_seq before n s
  · exact h.congr e (by simp)
  · exact (h.counts _ _ _ _ spacing false).congr e (by simp)

end Sys2Proof.Machine

/-! Sequencer, converter, lanes and schedule over every step (R108, R113, R120, R127, R132, R140). -/

namespace Sys2Proof.Machine

/-- The parts of the invariant that the sequencer, the lanes and the schedule make. -/
structure FiringOk (s : State) : Prop where
  sequencer : SequencerOk s
  converter : ConverterOk s
  lanes     : LanesOk s
  schedule  : ScheduleOk s

theorem BlocksOk.firing {s : State} (h : BlocksOk s) : FiringOk s := ⟨h.sequencer, h.converter, h.lanes, h.schedule⟩

theorem FiringOk.congr {s t : State} (h : FiringOk s) (eq : t.seq = s.seq) (el : t.lanes = s.lanes)
    (ek : t.phase.lock = s.phase.lock) (ec : t.schedule = s.schedule) (es : t.settings = s.settings) : FiringOk t :=
  ⟨h.sequencer.congr eq es, h.converter.congr (by rw [eq]) ek, .congr el (by rw [eq]) h.lanes,
    h.schedule.congr ec es (by rw [eq]) ek⟩

/-- A move of sequencer and lanes alone. -/
theorem FiringOk.of_move {s t : State} (h : FiringOk s) (m : SeqMove s t) (ek : t.phase.lock = s.phase.lock)
    (ec : t.schedule = s.schedule) (es : t.settings = s.settings) : FiringOk t where
  sequencer := m.seq
  lanes := m.lanes
  converter := by
    refine ⟨fun pending => by rw [ek]; exact h.converter.pending (m.pending pending), fun moving => ?_⟩
    rw [ek]
    refine h.converter.running ?_
    by_contra stopped
    exact absurd (m.stopped (by simpa using stopped)) (by simp [moving])
  schedule := by
    refine ⟨fun moving => ?_, by rw [ec, es]; exact h.schedule.alphaA, by rw [ec, es]; exact h.schedule.alphaB, ?_⟩
    · rw [livePage_congr ec]
      refine h.schedule.live ?_
      by_contra stopped
      exact absurd (m.stopped (by simpa using stopped)) (by simp [moving])
    · rw [ec, ek, livePage_congr ec, stagedPage_congr ec]
      exact h.schedule.swap

theorem FiringOk.refl_move {s : State} (h : FiringOk s) : SeqMove s s := .refl h.sequencer h.lanes

/-! ### Page swaps (R113 to R115) -/

theorem makePendingSwap_schedule (s : State) : (makePendingSwap s).schedule =
    if s.schedule.swapPending.isSome then swapPages s.schedule else s.schedule := by
  unfold makePendingSwap
  split
  case h_1 p pending => simp [pending, makeSwap]
  case h_2 none => simp [none]

theorem livePage_swapPages {s t : State} (e : t.schedule = swapPages s.schedule) : t.livePage = s.stagedPage := by
  simp only [State.livePage, State.stagedPage, e, swapPages]
  cases s.schedule.live <;> rfl

/-- The schedule after a swap whose staged page was valid. -/
theorem scheduleOk_swapped {s t : State} (h : ScheduleOk s) (e : t.schedule = swapPages s.schedule)
    (es : t.settings = s.settings) (valid : isStopped t.seq.conv = false → s.stagedPage.valid = true) :
    ScheduleOk t := by
  have a := h.alphaA
  have b := h.alphaB
  have none : (swapPages s.schedule).swapPending = none := by unfold swapPages; split <;> rfl
  refine ⟨fun moving => by rw [livePage_swapPages e]; exact valid moving, ?_, ?_, fun pending => ?_⟩
  · rw [e, es]; unfold swapPages; split <;> assumption
  · rw [e, es]; unfold swapPages; split <;> assumption
  · rw [e, none] at pending; cases pending

theorem swapAtCycleStart_firingOk {s : State} (h : FiringOk s) : FiringOk (swapAtCycleStart s) := by
  unfold swapAtCycleStart
  split
  · by_cases pending : s.schedule.swapPending.isSome = true
    · have swapped : (makePendingSwap s).schedule = swapPages s.schedule := by
        rw [makePendingSwap_schedule, if_pos pending]
      exact ⟨h.sequencer.congr (by simp) (by simp), h.converter.congr (by simp) (by simp),
        .congr (by simp) (by simp) h.lanes,
        scheduleOk_swapped h.schedule swapped (by simp) fun _ => (h.schedule.swap pending).2.1⟩
    · refine h.congr (by simp) (by simp) (by simp) ?_ (by simp)
      rw [makePendingSwap_schedule, if_neg pending]
  · exact h

/-! ### Changes of lock state (R115, R127, R137) -/

theorem changeLock_schedule (new : Lock) (s : State) : (changeLock new s).schedule =
    if chainRuns s.phase.lock && !chainRuns new && s.schedule.swapPending.isSome then swapPages s.schedule
    else s.schedule := by
  have sources (t : State) : (sourcesLockChange new t).schedule = t.schedule := by simp
  unfold changeLock
  dsimp only
  rw [sources]
  unfold scheduleLockChange
  by_cases leaves : (chainRuns s.phase.lock && !chainRuns new) = true
  · rw [if_pos leaves, makePendingSwap_schedule]
    simp [leaves]
  · rw [if_neg leaves]
    simp [leaves]

theorem changeLock_lanes (new : Lock) (s : State) : (changeLock new s).lanes =
    (sequencerLockChange new (setNotice .phase { s with phase := { s.phase with lock := new } })).lanes := by
  simp [changeLock]

/-- In DISTURBED and HOLDING no converter is PENDING, and in LOST every one is stopped (R127, R137). -/
theorem sequencerLockChange_conv (new : Lock) (s : State) :
    (new = .disturbed ∨ new = .holding → (sequencerLockChange new s).seq.conv ≠ .pending) ∧
      (new = .lost → isStopped (sequencerLockChange new s).seq.conv = true) := by
  have left : (if s.seq.conv = .pending then enter .blocked none s else s).seq.conv ≠ .pending := by
    split
    · simp
    · assumption
  refine ⟨?_, ?_⟩
  · rintro (rfl | rfl) <;> exact left
  · rintro rfl
    exact stopAtOnce_conv s

theorem changeLock_move {s : State} (h : FiringOk s) (f : Phase) (new : Lock) :
    SeqMove s (changeLock new { s with phase := f }) := by
  have began : SeqMove s (setNotice .phase { s with phase := { f with lock := new } }) :=
    h.refl_move.congr rfl rfl rfl
  exact (began.trans (sequencerLockChange_move began.seq began.lanes new)).congr (changeLock_seq new _)
    (changeLock_lanes new _) (by simp)

/-- A change of lock state keeps the parts in order where the chain goes on, is lost, or drives no converter. -/
theorem changeLock_firingOk {s : State} (h : FiringOk s) {f : Phase} (hf : f.lock = s.phase.lock) {new : Lock}
    (fits : chainRuns new = true ∨ new = .lost ∨ isStopped s.seq.conv = true) :
    FiringOk (changeLock new { s with phase := f }) := by
  have m := changeLock_move h f new
  have sequencer := sequencerLockChange_conv new (setNotice .phase { s with phase := { f with lock := new } })
  rw [← changeLock_seq new { s with phase := f }] at sequencer
  have schedule := changeLock_schedule new { s with phase := f }
  have lock : (changeLock new { s with phase := f }).phase.lock = new := by simp
  have settings : (changeLock new { s with phase := f }).settings = s.settings := by simp
  generalize changeLock new { s with phase := f } = t at m sequencer schedule lock settings ⊢
  have moving (k : isStopped t.seq.conv = false) : isStopped s.seq.conv = false := by
    by_contra stopped
    exact absurd (m.stopped (by simpa using stopped)) (by simp [k])
  have runs (k : isStopped t.seq.conv = false) : chainRuns new = true := by
    obtain runs | lost | stopped := fits
    · exact runs
    · exact absurd (sequencer.2 lost) (by simp [k])
    · exact absurd stopped (by simp [moving k])
  refine ⟨m.seq, ⟨fun pending => ?_, fun k => by rw [lock]; exact runs k⟩, m.lanes, ?_⟩
  · rw [lock]
    have running := runs (by rw [pending]; rfl)
    cases new
    case locked => rfl
    case disturbed => exact absurd pending (sequencer.1 (.inl rfl))
    case holding => exact absurd pending (sequencer.1 (.inr rfl))
    all_goals cases running
  · by_cases swaps : (chainRuns f.lock && !chainRuns new && s.schedule.swapPending.isSome) = true
    · have pending : s.schedule.swapPending.isSome = true := by simp_all
      exact scheduleOk_swapped h.schedule (schedule.trans (if_pos swaps)) settings fun _ =>
        (h.schedule.swap pending).2.1
    · have e : t.schedule = s.schedule := schedule.trans (if_neg swaps)
      refine ⟨fun k => ?_, by rw [e, settings]; exact h.schedule.alphaA, by rw [e, settings]; exact h.schedule.alphaB,
        fun pending => ?_⟩
      · rw [livePage_congr e]; exact h.schedule.live (moving k)
      · rw [e] at pending
        obtain ⟨ran, pages⟩ := h.schedule.swap pending
        refine ⟨?_, by rw [livePage_congr e, stagedPage_congr e]; exact pages⟩
        rw [lock]
        simpa [hf, ran, pending] using swaps

theorem LockMove.firingOk {s t : State} (m : LockMove s t) (h : FiringOk s) : FiringOk t := by
  cases m with
  | stay f e => exact h.congr rfl rfl e rfl rfl
  | change new f e step =>
    refine changeLock_firingOk h e ?_
    have stopped (k : chainRuns s.phase.lock = false) : isStopped s.seq.conv = true := by
      by_contra moving
      exact absurd (h.converter.running (by simpa using moving)) (by simp [k])
    generalize s.phase.lock = old at step stopped
    cases step with
    | acquire start => exact .inr (.inr (stopped (by obtain rfl | rfl := start <;> rfl)))
    | lose => exact .inr (.inl rfl)
    | lock | disturb | relock | hold => exact .inl rfl

theorem expireTimes_firingOk {s : State} (h : FiringOk s) (n : Nat) : FiringOk (expireTimes n s) := by
  induction n generalizing s with
  | zero => exact h
  | succ n ih => exact ih ((missedCrossing_lockMove s).firingOk h)

theorem referenceCrossing_firingOk {s : State} (h : FiringOk s) (since : Nat) : FiringOk (referenceCrossing since s) :=
  (takeCrossing_lockMove _ _).firingOk (expireTimes_firingOk h _)

/-! ### Step events, words and lines -/

theorem cycleStartWork_firingOk {s : State} (h : FiringOk s) : FiringOk (cycleStartWork s) := by
  have swapped := swapAtCycleStart_firingOk h
  have worked : FiringOk (sequencerCycleWork (swapAtCycleStart s)) :=
    swapped.of_move (sequencerCycleWork_move swapped.sequencer swapped.lanes) (by simp) (by simp) (by simp)
  exact worked.congr (by simp [cycleStartWork]) (by simp [cycleStartWork]) (by simp [cycleStartWork])
    (by simp [cycleStartWork]) (by simp [cycleStartWork])

theorem stepWork_firingOk {s : State} (h : FiringOk s) : FiringOk (stepWork s) := by
  have moved : FiringOk { s with phase := advancePhase s.phase } := h.congr rfl rfl (by simp) rfl rfl
  unfold stepWork
  split
  · exact cycleStartWork_firingOk moved
  · exact moved

theorem stepEvent_firingOk {s : State} (h : FiringOk s) : FiringOk (stepEvent s) := by
  by_cases counting : s.phase.counting = true
  · rw [stepEvent_eq counting]
    have worked := stepWork_firingOk h
    generalize stepWork s = u at worked ⊢
    have settled : FiringOk (settleTrip u) :=
      worked.of_move (settleTrip_move worked.sequencer worked.lanes) rfl rfl rfl
    generalize settleTrip u = v at settled ⊢
    have checked : FiringOk (checkPoints (passedNext s.phase) s.sources.armed v) :=
      settled.congr (by simp) (by simp) (by simp) (by simp) (by simp)
    generalize checkPoints (passedNext s.phase) s.sources.armed v = w at checked ⊢
    have judged : FiringOk (judgeWindows (passedNext s.phase) w) :=
      checked.of_move (judgeWindows_move checked.sequencer checked.lanes _) (by simp) (by simp) (by simp)
    generalize judgeWindows (passedNext s.phase) w = x at judged ⊢
    exact judged.of_move (bypassPart_move judged.sequencer judged.lanes _ _) (by simp) (by simp) (by simp)
  · rw [stepEvent_stopped counting]; exact h

theorem handBlocking_move {s : State} (h : SequencerOk s) (l : LanesOk s) (p : Poll) (b : Bool) :
    SeqMove s (handBlocking p b s) := by
  unfold handBlocking takeBlocking
  split
  · split
    · exact commutationFailure_move h l p.valve
    · exact .refl h l
  all_goals exact .refl h l

theorem replyHeader_firingOk {s : State} (h : FiringOk s) (w : Word16) : FiringOk (replyHeader w s) := by
  unfold replyHeader
  split
  case h_1 p _ _ =>
    split
    · have handed : FiringOk (handBlocking p (replyBlocking w) s) :=
        h.of_move (handBlocking_move h.sequencer h.lanes p _) (by simp) (by simp) (by simp)
      unfold acceptHeader
      generalize handBlocking p (replyBlocking w) s = u at handed ⊢
      dsimp only
      split <;> exact handed.congr (by simp) (by simp) (by simp) (by simp) (by simp)
    · exact h.congr rfl rfl rfl rfl rfl
  case h_2 => exact h.congr rfl rfl rfl rfl rfl

theorem takenWord_firingOk {s : State} (h : FiringOk s) (p : Poll) (w : Word16) : FiringOk (takenWord p w s) := by
  unfold takenWord
  split
  case h_1 res _ =>
    obtain same | ⟨-, u, hu, made⟩ := applyResult_cases res s
    · rw [same]; exact h
    have claimed : FiringOk u := by
      rw [hu]
      exact h.of_move (commitRecord_move h.sequencer h.lanes _ _ _ _) (by simp) (by simp) (by simp)
    obtain made | made := made <;> rw [made]
    · exact claimed
    · exact claimed.congr (by simp) (by simp) (by simp) (by simp) (by simp)
  case h_2 => exact h.congr rfl rfl rfl rfl rfl

theorem receive_firingOk {s : State} (h : FiringOk s) (f : BitVec 20) : FiringOk (receive f s) := by
  unfold receive
  split
  · exact replyHeader_firingOk h _
  · split
    · obtain e | ⟨p, -, -, e⟩ := resultWord_cases (frameWord f) s <;> rw [e]
      · exact h.congr rfl rfl rfl rfl rfl
      · exact (takenWord_firingOk h p (frameWord f)).congr (by simp) (by simp) (by simp) (by simp) (by simp)
    · exact h.congr rfl rfl rfl rfl rfl

theorem takeBlockAssertion_move {s : State} (h : SequencerOk s) (l : LanesOk s) : SeqMove s (takeBlockAssertion s) := by
  have stopped := stopAtOnce_move h l
  have k := stopped.seq
  unfold takeBlockAssertion
  refine ⟨stopped.stopped, stopped.pending, ?_, cutLanes_lanesOk (.congr (s := stopAtOnce s) rfl rfl stopped.lanes)⟩
  exact
    { exit := k.exit, bypass := k.bypass, latch := k.latch, cause := k.cause
      windows := fun _ v => by simp [closeWindows]
      failures := k.failures, failed := k.failed, attempts := k.attempts, recovery := k.recovery, fresh := k.fresh
      trip := k.trip }

theorem takeLineFault_move {s : State} (h : SequencerOk s) (l : LanesOk s) : SeqMove s (takeLineFault s) := by
  have retards (c : s.seq.conv = .ramping ∨ s.seq.conv = .running) : SeqMove s (enterRetarded .deionizing s) := by
    refine enterRetarded_move h.enterable l ?_ ?_
    · obtain c | c := c <;> rw [c] <;> rfl
    · rw [h.latch_of_noExit (by obtain c | c := c <;> rw [c] <;> rfl) (by obtain c | c := c <;> rw [c] <;> decide)]
      decide
  unfold takeLineFault
  split
  case h_1 c => exact retards (.inl c)
  case h_2 c => exact retards (.inr c)
  case h_3 => exact .refl h l

theorem FiringOk.setLane {s : State} (h : FiringOk s) (v : Valve) {l : Lane} (ok : LaneOk l)
    (burst : hasBurst l.state = true → hasBurst (s.lane v).state = true) : FiringOk (s.setLane v l) :=
  ⟨.congr (s := s) rfl rfl h.sequencer, .congr (s := s) rfl rfl h.converter,
    h.lanes.setLane ok fun b => h.lanes.firing v (burst b), .congr (s := s) rfl rfl rfl rfl h.schedule⟩

/-! ### Resets (R119, R139, R150) -/

theorem clampNat_within {lo hi : Nat} (h : lo ≤ hi) (n : Nat) : lo ≤ clampNat lo hi n ∧ clampNat lo hi n ≤ hi := by
  unfold clampNat
  split
  · omega
  · split <;> omega

theorem resetLane_ok {l : Lane} (h : LaneOk l) : LaneOk (resetLane l) :=
  have k := cutLane_ok h
  ⟨k.composition, k.bank, k.active, Nat.zero_le _⟩

theorem controlReset_firingOk {s : State} (h : FiringOk s) (ho : SettingsOk s) (keep : Option Port) :
    FiringOk (controlReset keep s) := by
  have limits : s.settings.alphaMin ≤ s.settings.alphaMax :=
    Nat.le_trans (ho.range .alphaMin 0).2 (ho.range .alphaMax 0).1
  have stopped := resetSequencer_conv s.settings.retardAngle s.seq
  have moving (k : isStopped (controlReset keep s).seq.conv = false) : False := by
    exact absurd (stopped.symm.trans k) (by decide)
  have lane (v : Valve) : (controlReset keep s).lane v = resetLane (s.lane v) := by simp [controlReset, State.lane]
  refine ⟨?_, ⟨fun pending => ?_, fun k => (moving k).elim⟩, ⟨fun v => ?_, fun v burst => ?_⟩,
    ⟨fun k => (moving k).elim, clampNat_within limits _, clampNat_within limits _, fun pending => nomatch pending⟩⟩
  · have latch : (controlReset keep s).seq.tripLatch = s.seq.tripLatch := rfl
    have conv : (controlReset keep s).seq.conv = if s.seq.tripLatch then .tripped else .blocked := rfl
    refine { exit := ?_, bypass := ?_, latch := ?_, cause := h.sequencer.cause, windows := fun _ v => ?_,
             failures := fun _ => ⟨rfl, rfl, rfl, rfl⟩, failed := fun counted => ?_, attempts := Nat.zero_le _,
             recovery := fun _ => rfl, fresh := fun _ => rfl, trip := fun mark => nomatch mark }
    · rw [conv]; split <;> rfl
    · rw [conv]; split <;> exact fun e => nomatch e
    · rw [conv, latch]
      cases s.seq.tripLatch <;> simp [controlReset, resetSequencer, Sequencer.powerOn]
    · simp [controlReset, resetSequencer, Sequencer.powerOn]
    · simp [controlReset, resetSequencer, Sequencer.powerOn] at counted
  · exact (moving (by rw [pending]; rfl)).elim
  · rw [lane]; exact resetLane_ok (h.lanes.lane v)
  · rw [lane] at burst
    exact absurd burst (by simp [resetLane, cutLane_hasBurst])

theorem reset_firingOk : FiringOk State.reset where
  sequencer := by constructor <;> decide +kernel
  converter := by constructor <;> decide +kernel
  lanes := by
    have blank (v : Valve) : State.reset.lane v = Lane.powerOn := by simp [State.lane, State.reset]
    refine ⟨fun v => ?_, fun v burst => ?_⟩
    · rw [blank]
      exact ⟨rfl, rfl, fun _ _ absent => (nomatch absent), by decide⟩
    · rw [blank] at burst; cases burst
  schedule := by constructor <;> decide +kernel

/-! ### Claims on schedule and converter (R110, R112, R127 to R131, R135) -/

theorem writeOrder_alpha (settings : Settings) (o : OrderParts) (g : Page) : (writeOrder settings o g).alpha =
    (o.alpha.map fun a => clampAlpha settings a.toNat).getD g.alpha := by
  have entries (l : List OrderEntry) : ∀ g : Page, (l.foldl writeEntry g).alpha = g.alpha := by
    induction l with
    | nil => exact fun _ => rfl
    | cons e l ih =>
      intro g
      rw [List.foldl_cons, ih]
      unfold writeEntry
      split <;> rfl
  unfold writeOrder
  exact entries _ _

theorem orderClaim_cases (o : OrderParts) (s : State) : (orderClaim o s).1 = s ∨
    (s.schedule.swapPending = none ∧
      (orderClaim o s).1 = setStagedPage (writeOrder s.settings o s.stagedPage) s) := by
  unfold orderClaim
  split
  · exact .inl rfl
  · split
    · exact .inl rfl
    case isFalse free =>
      split
      · exact .inl rfl
      · exact .inr ⟨by simpa using free, rfl⟩

theorem setStagedPage_firingOk {s : State} (h : FiringOk s) (free : s.schedule.swapPending = none) {g : Page}
    (alpha : s.settings.alphaMin ≤ g.alpha ∧ g.alpha ≤ s.settings.alphaMax) : FiringOk (setStagedPage g s) := by
  have live : (setStagedPage g s).livePage = s.livePage := by
    cases e : s.schedule.live <;> simp [setStagedPage, State.livePage, e]
  refine ⟨h.sequencer.congr (by simp) (by simp), h.converter.congr (by simp) (by simp),
    .congr (by simp) (by simp) h.lanes, ⟨fun moving => ?_, ?_, ?_, fun pending => ?_⟩⟩
  · rw [live]; exact h.schedule.live (by simpa using moving)
  · have a := h.schedule.alphaA
    unfold setStagedPage
    split <;> assumption
  · have b := h.schedule.alphaB
    unfold setStagedPage
    split <;> assumption
  · have none : (setStagedPage g s).schedule.swapPending = none := by unfold setStagedPage; split <;> exact free
    rw [none] at pending; cases pending

theorem alphaLimits {s : State} (h : SettingsOk s) : s.settings.alphaMin ≤ s.settings.alphaMax :=
  Nat.le_trans (h.range .alphaMin 0).2 (h.range .alphaMax 0).1

theorem orderClaim_firingOk {s : State} (h : FiringOk s) (ho : SettingsOk s) (o : OrderParts) :
    FiringOk (orderClaim o s).1 := by
  obtain e | ⟨free, e⟩ := orderClaim_cases o s <;> rw [e]
  · exact h
  refine setStagedPage_firingOk h free ?_
  rw [writeOrder_alpha]
  cases o.alpha with
  | some a => exact clampNat_within (alphaLimits ho) _
  | none =>
    have a := h.schedule.alphaA
    have b := h.schedule.alphaB
    unfold State.stagedPage
    split <;> assumption

theorem swapClaim_firingOk {s : State} (h : FiringOk s) (p : Port) : FiringOk (swapClaim p s).1 := by
  unfold swapClaim
  split
  · exact h
  · split
    · exact h
    case isFalse valid =>
      have valid : s.stagedPage.valid = true := by simpa using valid
      split
      · exact h
      · split
        · exact ⟨.congr (s := s) rfl rfl h.sequencer, .congr (s := s) rfl rfl h.converter,
            .congr (s := s) rfl rfl h.lanes, scheduleOk_swapped h.schedule rfl rfl fun _ => valid⟩
        case isFalse waits =>
          simp only [Bool.or_eq_true, decide_eq_true_eq, Bool.not_eq_true', not_or, not_not, Bool.not_eq_false] at waits
          exact ⟨.congr (s := s) rfl rfl h.sequencer, .congr (s := s) rfl rfl h.converter,
            .congr (s := s) rfl rfl h.lanes,
            ⟨h.schedule.live, h.schedule.alphaA, h.schedule.alphaB, fun _ => ⟨waits.2, valid, waits.1⟩⟩⟩

theorem deblockClaim_firingOk {s : State} (h : FiringOk s) : FiringOk (deblockClaim s).1 := by
  unfold deblockClaim
  split
  case h_1 c =>
    split
    · exact h
    case h_2 ready =>
      obtain ⟨-, locked, valid, -⟩ := (deblockRefusal_none_iff s).1 ready
      have latch := h.sequencer.latch_of_noExit (by rw [c]; rfl) (by rw [c]; decide)
      have phase : (enter .pending none s).phase = s.phase := by simp
      have schedule : (enter .pending none s).schedule = s.schedule := by simp
      have settings : (enter .pending none s).settings = s.settings := by simp
      have entered : SequencerOk (enter .pending none s) :=
        (sequencerOk_enterItems (c := .pending) (x := none) h.sequencer.enterable rfl (fun e => nomatch e)
          (by simp [latch])).congr (enter_seq _ _ s) (by simp)
      refine ⟨entered, ⟨fun _ => by rw [phase]; exact locked, fun _ => by rw [phase, locked]; rfl⟩,
        enter_lanesOk h.lanes _ _, ⟨fun _ => by rw [livePage_congr schedule]; exact valid, ?_, ?_, ?_⟩⟩
      · rw [schedule, settings]; exact h.schedule.alphaA
      · rw [schedule, settings]; exact h.schedule.alphaB
      · rw [schedule, phase, livePage_congr schedule, stagedPage_congr schedule]; exact h.schedule.swap
  case h_2 => exact h

/-- BLOCK of a converter with an exit target (R120, R130). -/
theorem strengthenBlocked_move {s : State} (h : SequencerOk s) (l : LanesOk s) : SeqMove s (strengthen .blocked s) := by
  refine .of_conv (strengthen_conv _ s) ?_ (.congr (by simp) (strengthen_conv _ s) l)
  cases found : s.seq.exitTarget with
  | none => rw [show strengthen .blocked s = s by simp [strengthen, found]]; exact h
  | some y =>
    cases y
    case deionizing =>
      have exit : hasExit s.seq.conv = true := by rw [← h.exit, found]; rfl
      have notTripped : s.seq.conv ≠ .tripped := fun e => by rw [e] at exit; cases exit
      have clear : ¬ s.seq.tripLatch = true := by
        rw [h.latch, found]
        exact fun k => k.elim notTripped fun k => nomatch k
      rw [strengthen_of_stronger found (by decide)]
      exact .congr (s := { s with seq := { s.seq with exitTarget := some .blocked } }) rfl rfl
        (sequencerOk_retarget h found (by decide) (by decide) (by simpa using clear) h.cause)
    all_goals rw [strengthen_of_weaker found (by decide)]; exact h

theorem blockClaim_move {s : State} (h : SequencerOk s) (l : LanesOk s) : SeqMove s (blockClaim s).1 := by
  have latch (exit : hasExit s.seq.conv = false) (c : s.seq.conv ≠ .tripped) := h.latch_of_noExit exit c
  unfold blockClaim
  split
  case h_1 | h_8 => exact .refl h l
  case h_2 c | h_3 c => exact enterBlocked_move h.enterable l (latch (by rw [c]; rfl) (by rw [c]; decide))
  case h_4 c | h_5 c =>
    exact stopByRole_move h.enterable l (by rw [c]; rfl)
      (by rw [latch (by rw [c]; rfl) (by rw [c]; decide)]; decide) (by decide)
  case h_6 | h_7 => exact strengthenBlocked_move h l

theorem retardClaim_move {s : State} (h : SequencerOk s) (l : LanesOk s) : SeqMove s (retardClaim s).1 := by
  have same : (retardClaim s).1 = takeLineFault s := by
    unfold retardClaim takeLineFault
    split <;> simp [*]
  rw [same]
  exact takeLineFault_move h l

theorem bypassClaim_move {s : State} (h : SequencerOk s) (l : LanesOk s) : SeqMove s (bypassClaim s).1 := by
  have latch (exit : hasExit s.seq.conv = false) (c : s.seq.conv ≠ .tripped) := h.latch_of_noExit exit c
  unfold bypassClaim
  split
  case h_1 c _ | h_2 c _ =>
    exact enterBypassing_move h.enterable l (by rw [c]; rfl)
      (by rw [latch (by rw [c]; rfl) (by rw [c]; decide)]; decide) (by decide)
  case h_3 => exact .refl h l

theorem clearTripClaim_move {s : State} (h : SequencerOk s) (l : LanesOk s) : SeqMove s (clearTripClaim s).1 := by
  unfold clearTripClaim
  split
  case h_1 c =>
    split
    · exact .refl h l
    · have cleared : Enterable s.settings.restartLimit { s.seq with tripLatch := false, tripCause := none } :=
        ⟨rfl, h.failed, h.attempts⟩
      have entered := enter_lanesOk l .blocked none
      have seq : (unlatch (enter .blocked none s)).seq =
          enterItems .blocked none { s.seq with tripLatch := false, tripCause := none } := by
        simp only [unlatch, enter_seq]; rfl
      exact ⟨fun _ => by rw [seq]; rfl, fun e => (by rw [seq] at e; cases e),
        (sequencerOk_enterItems (c := .blocked) (x := none) cleared rfl (fun e => nomatch e) (by simp)).congr seq (by simp [unlatch]),
        .congr (s := enter .blocked none s) (t := unlatch (enter .blocked none s)) rfl rfl entered⟩
  case h_2 => exact .refl h l

end Sys2Proof.Machine

/-! Sequencer, converter, lanes and schedule over SET and over every step (R117, R165). -/

namespace Sys2Proof.Machine

/-! ### SET -/

/-- A store with a setting at a new value bears the firing parts, where the alpha limits stay (R120, R165). -/
theorem putSetting_firingOk {s : State} (h : FiringOk s) {σ : Setting} {v : Valve} {n : Nat}
    (passed : SetPassed σ v n s) (notAlpha : isAlphaLimit σ = false) :
    FiringOk { s with settings := putSetting s.settings v n σ } := by
  have q := h.sequencer
  have attempts : s.seq.attempts ≤ (putSetting s.settings v n σ).restartLimit := by
    obtain any | stopped := passed.state
    · cases σ <;> first | exact q.attempts | cases any
    · rw [q.fresh stopped]; exact Nat.zero_le _
  refine ⟨?_, .congr (s := s) rfl rfl h.converter, .congr (s := s) rfl rfl h.lanes, ?_⟩
  · exact { exit := q.exit, bypass := q.bypass, latch := q.latch, cause := q.cause, windows := q.windows,
            failures := q.failures, failed := q.failed, attempts := attempts, recovery := q.recovery, fresh := q.fresh,
            trip := q.trip }
  · have limits : (putSetting s.settings v n σ).alphaMin = s.settings.alphaMin ∧
        (putSetting s.settings v n σ).alphaMax = s.settings.alphaMax := by
      cases σ <;> first | exact ⟨rfl, rfl⟩ | cases notAlpha
    refine ⟨h.schedule.live, ?_, ?_, h.schedule.swap⟩
    · rw [limits.1, limits.2]; exact h.schedule.alphaA
    · rw [limits.1, limits.2]; exact h.schedule.alphaB

/-- The consequences of an alpha limit (R117). -/
theorem reclamp_firingOk {s : State} (h : FiringOk s) {t : Settings} (limits : t.alphaMin ≤ t.alphaMax)
    (restarts : t.restartLimit = s.settings.restartLimit) (stopped : isStopped s.seq.conv = true)
    (free : s.schedule.swapPending = none) : FiringOk (reclamp { s with settings := t }) := by
  have q := h.sequencer
  refine ⟨?_, .congr (s := s) rfl rfl h.converter, .congr (s := s) rfl rfl h.lanes, ⟨fun moving => ?_, ?_, ?_, fun pending => ?_⟩⟩
  · exact { exit := q.exit, bypass := q.bypass, latch := q.latch, cause := q.cause, windows := q.windows,
            failures := q.failures, failed := q.failed, attempts := Nat.le_trans q.attempts (Nat.le_of_eq restarts.symm),
            recovery := q.recovery, fresh := q.fresh, trip := q.trip }
  · exact absurd (stopped.symm.trans moving) (by decide)
  · exact clampNat_within limits _
  · exact clampNat_within limits _
  · have none : (reclamp { s with settings := t }).schedule.swapPending = none := free
    rw [none] at pending; cases pending

theorem offsetSet_firingOk {s : State} (h : FiringOk s) (stopped : isStopped s.seq.conv = true) :
    FiringOk (offsetSet s) := by
  unfold offsetSet
  split
  · exact changeLock_firingOk (f := offsetItems s.phase) h rfl (.inr (.inr stopped))
  · exact h

theorem regrade_firingOk {s : State} (h : FiringOk s) (v : Valve) : FiringOk (regrade v s) :=
  have m : SeqMove s (regrade v s) := commitTally_move h.sequencer h.lanes v _ .change
  h.of_move m (by simp) (by simp) (by simp)

theorem storeClaim_firingOk {s : State} (h : FiringOk s) (ho : SettingsOk s) (σ : Setting) (v : Valve) (n : Nat) :
    FiringOk (storeClaim σ v n s).1 := by
  obtain ⟨code, -, made⟩ | ⟨passed, made⟩ := storeClaim_cases σ v n s <;> rw [made]
  · exact h
  by_cases alpha : isAlphaLimit σ = true
  · have limits := alphaLimits (settingsOk_of_put ho passed.value v)
    have guarded : isStopped s.seq.conv = true := passed.state.resolve_left fun any => by
      cases σ <;> first | exact absurd any (by decide) | exact absurd alpha (by decide)
    have consequence : setConsequences σ v { s with settings := putSetting s.settings v n σ } =
        reclamp { s with settings := putSetting s.settings v n σ } := by
      cases σ <;> first | rfl | cases alpha
    have restarts : (putSetting s.settings v n σ).restartLimit = s.settings.restartLimit := by
      cases σ <;> first | rfl | cases alpha
    rw [consequence]
    exact reclamp_firingOk h limits restarts guarded (passed.swap alpha)
  · have stored := putSetting_firingOk h passed (by simpa using alpha)
    cases σ
    case minimumSound | reserve => exact regrade_firingOk stored v
    case referenceOffset =>
      exact offsetSet_firingOk stored (passed.state.resolve_left fun any => nomatch any)
    case alphaMin | alphaMax => exact absurd rfl alpha
    all_goals exact stored.congr rfl rfl rfl rfl rfl

/-! ### Every step -/

theorem firingOk_of_event {f : State → State} (hf : EventOf f) {s : State} (h : BlocksOk s) : FiringOk (f s) := by
  have k := h.firing
  have lane := k.lanes.lane
  cases hf with
  | restartPulse => exact controlReset_firingOk k h.settings none
  | blockAssertion =>
    exact k.of_move (takeBlockAssertion_move k.sequencer k.lanes) (by simp) (by simp) (by simp)
  | lineFault => exact k.of_move (takeLineFault_move k.sequencer k.lanes) (by simp) (by simp) (by simp)
  | crossing since => exact referenceCrossing_firingOk k since
  | missed => exact (missedCrossing_lockMove s).firingOk k
  | step => exact stepEvent_firingOk k
  | word f => exact receive_firingOk k f
  | onTime v => exact k.setLane v (laneOnTimeEnd_ok (lane v)) hasBurst_of_laneOnTimeEnd
  | gap v => exact k.setLane v (laneGapEnd_ok (lane v)) hasBurst_of_laneGapEnd
  | stopFrame v => exact k.setLane v (laneStopEnd_ok (lane v)) hasBurst_of_laneStopEnd
  | _ => exact k.congr (by simp) (by simp) (by simp) (by simp) (by simp)

theorem changeClaim_firingOk {s : State} (h : FiringOk s) (v : Valve) (p : Position) (e : Option Word16) (k : Change) :
    FiringOk (changeClaim v p e k s).1 := by
  obtain same | ⟨-, -, -, made⟩ := changeClaim_cases v p e k s
  · rw [same]; exact h
  · rw [made]
    exact h.of_move (commitRecord_move h.sequencer h.lanes v p _ .change) (by simp) (by simp) (by simp)

theorem keyedChange_firingOk {s : State} (h : FiringOk s) (valve position : Byte) (e : Option Word16) (k : Change) :
    FiringOk (keyedChange valve position e k s).1 := by
  obtain same | ⟨v, p, -, -, made⟩ := keyedChange_cases valve position e k s
  · rw [same]; exact h
  · rw [made]; exact changeClaim_firingOk h v p e k

theorem trimClaim_lock (insert suppress : Bool) (s : State) :
    (trimClaim insert suppress s).1.phase.lock = s.phase.lock := by
  have trim (step : Int) : (trimBy step s).1.phase.lock = s.phase.lock := by
    unfold trimBy
    dsimp only
    split <;> rfl
  unfold trimClaim
  repeat' split
  all_goals first | rfl | exact trim _

theorem firingOk_of_claim {p : Port} {k : State → State × Option Reply} (hk : ClaimKind p k) {s : State}
    (h : BlocksOk s) : FiringOk (k s).1 := by
  have f := h.firing
  cases hk with
  | admission v x cls tag =>
    obtain same | ⟨v, p, -, made⟩ := admitClaim_cases v x cls tag s
    · rw [same]; exact f
    · rw [made]; exact changeClaim_firingOk f v p none _
  | amend v x rev cls tag | clear v x rev cls tag | reprove v x rev cls tag | retire v x rev why =>
    exact keyedChange_firingOk f v x rev _
  | order o => exact orderClaim_firingOk f h.settings o
  | swap => exact swapClaim_firingOk f p
  | deblock => exact deblockClaim_firingOk f
  | block => exact f.of_move (blockClaim_move f.sequencer f.lanes) (by simp) (by simp) (by simp)
  | retard => exact f.of_move (retardClaim_move f.sequencer f.lanes) (by simp) (by simp) (by simp)
  | bypass => exact f.of_move (bypassClaim_move f.sequencer f.lanes) (by simp) (by simp) (by simp)
  | clearTrip => exact f.of_move (clearTripClaim_move f.sequencer f.lanes) (by simp) (by simp) (by simp)
  | set σ v w =>
    obtain same | ⟨v, made⟩ := setClaim_cases σ v w s
    · rw [same]; exact f
    · rw [made]; exact storeClaim_firingOk f h.settings σ v w.toNat
  | lookup | clearNotices | setMask =>
    exact f.congr (by simp [readOnly, clearNoticesClaim, setMaskClaim]) (by simp [readOnly, clearNoticesClaim, setMaskClaim])
      (by simp [readOnly, clearNoticesClaim, setMaskClaim]) (by simp [readOnly, clearNoticesClaim, setMaskClaim])
      (by simp [readOnly, clearNoticesClaim, setMaskClaim])
  | trim i d => exact f.congr (by simp) (by simp) (trimClaim_lock i d s) (by simp) (by simp)
  | _ => exact f.congr (by simp) (by simp) (by simp) (by simp) (by simp)

theorem countTick_firingOk {s : State} (h : FiringOk s) : FiringOk (countTick s) := by
  have lane (v : Valve) : (countTick s).lane v = tickLane (s.lane v) := by simp [countTick, settleTrip, State.lane]
  have state (l : Lane) : (tickLane l).state = l.state := by unfold tickLane; split <;> rfl
  have ok {l : Lane} (k : LaneOk l) : LaneOk (tickLane l) := by
    unfold tickLane
    split
    · exact k
    · exact ⟨k.composition, k.bank, k.active, k.drops⟩
  have lanes : LanesOk (countTick s) := by
    refine ⟨fun v => by rw [lane]; exact ok (h.lanes.lane v), fun v burst => ?_⟩
    rw [lane, state] at burst
    exact h.lanes.firing v burst
  have settled : SeqMove s (settleTrip s) := settleTrip_move h.sequencer h.lanes
  refine h.of_move ⟨settled.stopped, settled.pending, .congr (s := settleTrip s) rfl rfl settled.seq, lanes⟩ ?_ rfl rfl
  by_cases counting : s.phase.counting = true <;> simp [countTick, tickStep, tickInterval, counting]

theorem firingOk_keptByParts : KeptByParts FiringOk where
  reads e h := h.congr e.seq e.lanes (by rw [e.phase]) e.schedule e.settings
  same _ h := h.firing
  power _ _ := reset_firingOk.congr rfl rfl rfl rfl rfl
  restart keep _ h := controlReset_firingOk h.firing h.settings keep
  tick _ h _ := countTick_firingOk h.firing
  event _ hf _ h := firingOk_of_event hf h
  claim _ _ hk _ h := firingOk_of_claim hk h

/-- Settles O59: sequencer, converter, lanes and schedule through the events, the claims, the resets and the base tick. -/
theorem stepKeepsConverter : Obligations.StepKeepsConverter := by
  unfold Obligations.StepKeepsConverter
  intro s t invariant reached
  have h := step_keeps firingOk_keptByParts invariant reached
  exact ⟨h.sequencer, h.converter, h.lanes, h.schedule⟩

end Sys2Proof.Machine

/-! The monitoring link and the queues of its sources through the link's own operations (R57 to R72, R76 to R87). -/

namespace Sys2Proof.Machine

/-! ### The parts of the invariant -/

/-- The queues and the kept requests of the sources name valves and positions with records (R58, R76, R81, R86). -/
structure TopsOk (s : State) : Prop where
  tops      : ∀ v, (s.tally v).top ≤ 96
  cycleTop  : ∀ v ∈ s.sources.cycleQueue, 1 ≤ (s.tally v).top
  request   : ∀ v, s.sources.sweepRequest = some v → 1 ≤ (s.tally v).top
  remainder : ∀ v n, s.sources.remainder = some (v, n) → 1 ≤ n ∧ n ≤ (s.tally v).top

/-- A poll as the link may hold it. -/
structure PollOk (s : State) (p : Poll) : Prop where
  range      : 1 ≤ p.first ∧ p.first ≤ p.next ∧ p.next ≤ p.last ∧ p.last ≤ 96
  superseded : p.superseded = true → p.source = .cycle
  sweepTop   : p.source = .sweep → p.last ≤ (s.tally p.valve).top

/-- The sources' marks of a poll in progress. -/
structure MarksOk (poll : Option Poll) (c : Sources) : Prop where
  sweep : c.sweepInProgress = poll.any fun p => decide (p.source = .sweep)
  head  : (c.directed.head?.any fun e => e.inProgress) = poll.any fun p => decide (p.source = .directed)

theorem LinkOk.topsOk {s : State} (h : LinkOk s) : TopsOk s := ⟨h.tops, h.cycleTop, h.request, h.remainder⟩

theorem LinkOk.pollOk {s : State} (h : LinkOk s) {p : Poll} (e : s.link.poll = some p) : PollOk s p :=
  ⟨h.range p e, h.superseded p e, h.sweepTop p e⟩

theorem LinkOk.marksOk {s : State} (h : LinkOk s) : MarksOk s.link.poll s.sources := ⟨h.sweepMark, h.headMark⟩

/-- The link at rest, with or without a held poll. -/
theorem linkOk_atRest {t : State} {state : LinkState} {kept : Option Poll} {l : Link} (e : t.link = atRest state kept l)
    (rest : state = .idle ∧ kept = none ∨ state = .held) (poll : ∀ p, kept = some p → PollOk t p)
    (marks : MarksOk kept t.sources) (tops : TopsOk t) : LinkOk t where
  poll polling := by
    rw [e] at polling
    obtain ⟨rfl, -⟩ | rfl := rest <;> cases polling
  idle idle := by
    rw [e] at idle ⊢
    obtain ⟨-, none⟩ | held := rest
    · exact none
    · exact nomatch held.symm.trans idle
  timer := by
    rw [e]
    obtain ⟨rfl, -⟩ | rfl := rest <;> rfl
  hold pending := by rw [e] at pending; cases pending
  cut pending := by rw [e] at pending; cases pending
  cutSweep pending := by rw [e] at pending; cases pending
  range p held := by rw [e] at held; exact (poll p held).range
  superseded p held := by rw [e] at held; exact (poll p held).superseded
  sweepTop p held := by rw [e] at held; exact (poll p held).sweepTop
  sweepMark := by rw [e]; exact marks.sweep
  headMark := by rw [e]; exact marks.head
  tops := tops.tops
  cycleTop := tops.cycleTop
  request := tops.request
  remainder := tops.remainder

/-- The link with a poll under way. -/
theorem linkOk_polling {t : State} {p : Poll} (polling : isPolling t.link.state = true) (e : t.link.poll = some p)
    (timer : t.link.timer.isSome = true) (hold : t.link.holdPending.isSome = true → t.link.state = .exchange)
    (cut : t.link.cutPending = true → (t.link.state = .header ∨ t.link.state = .exchange) ∧ p.source = .sweep)
    (poll : PollOk t p) (marks : MarksOk (some p) t.sources) (tops : TopsOk t) : LinkOk t where
  poll _ := by rw [e]; rfl
  idle idle := by rw [idle] at polling; cases polling
  timer := by rw [timer, polling]
  hold := hold
  cut pending := (cut pending).1
  cutSweep pending q hq := by
    obtain rfl : p = q := Option.some.inj (e.symm.trans hq)
    exact (cut pending).2
  range q hq := by
    obtain rfl : p = q := Option.some.inj (e.symm.trans hq)
    exact poll.range
  superseded q hq := by
    obtain rfl : p = q := Option.some.inj (e.symm.trans hq)
    exact poll.superseded
  sweepTop q hq := by
    obtain rfl : p = q := Option.some.inj (e.symm.trans hq)
    exact poll.sweepTop
  sweepMark := by rw [e]; exact marks.sweep
  headMark := by rw [e]; exact marks.head
  tops := tops.tops
  cycleTop := tops.cycleTop
  request := tops.request
  remainder := tops.remainder

/-- Changes of what the invariant does not read: the link's counts and flags, the words sent, and the sources' skip counts,
timer, cursor and armed points. -/
theorem LinkOk.of_read {s t : State} (h : LinkOk s) (state : t.link.state = s.link.state)
    (poll : t.link.poll = s.link.poll) (timer : t.link.timer.isSome = s.link.timer.isSome)
    (hold : t.link.holdPending = s.link.holdPending) (cut : t.link.cutPending = s.link.cutPending)
    (marks : MarksOk t.link.poll t.sources) (tops : TopsOk t) (sweepTops : ∀ v, (s.tally v).top ≤ (t.tally v).top) :
    LinkOk t where
  poll := by rw [state, poll]; exact h.poll
  idle := by rw [state, poll]; exact h.idle
  timer := by rw [timer, state]; exact h.timer
  hold := by rw [hold, state]; exact h.hold
  cut := by rw [cut, state]; exact h.cut
  cutSweep := by rw [cut, poll]; exact h.cutSweep
  range := by rw [poll]; exact h.range
  superseded := by rw [poll]; exact h.superseded
  sweepTop p e sweep := Nat.le_trans (h.sweepTop p (poll ▸ e) sweep) (sweepTops p.valve)
  sweepMark := marks.sweep
  headMark := marks.head
  tops := tops.tops
  cycleTop := tops.cycleTop
  request := tops.request
  remainder := tops.remainder

theorem TopsOk.congr {s t : State} (h : TopsOk s) (ey : t.tallies = s.tallies)
    (eq : t.sources.cycleQueue = s.sources.cycleQueue) (er : t.sources.sweepRequest = s.sources.sweepRequest)
    (em : t.sources.remainder = s.sources.remainder) : TopsOk t where
  tops v := by rw [tally_congr ey]; exact h.tops v
  cycleTop v := by rw [eq, tally_congr ey]; exact h.cycleTop v
  request v := by rw [er, tally_congr ey]; exact h.request v
  remainder v n := by rw [em, tally_congr ey]; exact h.remainder v n

/-- Link and queues in order. -/
structure PollsOk (s : State) : Prop where
  link   : LinkOk s
  queues : QueuesOk s

theorem BlocksOk.polls {s : State} (h : BlocksOk s) : PollsOk s := ⟨h.link, h.queues⟩

/-- Sources and tallies the same, and of the link all that the invariant reads. -/
theorem PollsOk.congr {s t : State} (h : PollsOk s) (state : t.link.state = s.link.state)
    (poll : t.link.poll = s.link.poll) (timer : t.link.timer.isSome = s.link.timer.isSome)
    (hold : t.link.holdPending = s.link.holdPending) (cut : t.link.cutPending = s.link.cutPending)
    (ec : t.sources = s.sources) (ey : t.tallies = s.tallies) : PollsOk t :=
  ⟨h.link.of_read state poll timer hold cut (by rw [poll, ec]; exact h.link.marksOk)
    (h.link.topsOk.congr ey (by rw [ec]) (by rw [ec]) (by rw [ec])) fun v => Nat.le_of_eq (by rw [tally_congr ey]),
    .congr (by rw [ec]) (by rw [ec]) h.queues⟩

/-- The link and the tallies the same, and of the sources all that the invariant reads. -/
theorem PollsOk.of_link {s t : State} (h : PollsOk s) (el : t.link = s.link) (ey : t.tallies = s.tallies)
    (eq : t.sources.cycleQueue = s.sources.cycleQueue) (ed : t.sources.directed = s.sources.directed)
    (er : t.sources.sweepRequest = s.sources.sweepRequest)
    (ep : t.sources.sweepInProgress = s.sources.sweepInProgress) (ek : t.sources.remainder = s.sources.remainder) :
    PollsOk t := ⟨.congr el eq ed er ep ek ey h.link, .congr eq ed h.queues⟩

/-! ### Ends and cuts of polls (R64 to R68, R87) -/

/-- After the end of a poll the link is IDLE, or HELD where a hold was pending (R64, R65, R68, R69). -/
theorem holdOr_becomeIdle_link (s : State) :
    (holdOr none becomeIdle s).link = atRest (restState s.link) none s.link := by
  cases hold : s.link.holdPending with
  | some q => rw [holdOr_of_hold hold]; simp [becomeHeld, atRest, restState, hold]
  | none => rw [holdOr_of_none hold]; simp [becomeIdle, atRest, restState, hold]

theorem restState_cases (l : Link) : restState l = .idle ∨ restState l = .held := by
  unfold restState; split <;> simp

@[simp] theorem holdOr_becomeIdle_sources (s : State) : (holdOr none becomeIdle s).sources = s.sources := by
  unfold holdOr; split <;> simp

@[simp] theorem holdOr_becomeIdle_tallies (s : State) : (holdOr none becomeIdle s).tallies = s.tallies := by
  unfold holdOr; split <;> simp

/-- A poll ended or cut, its source told. -/
theorem holdOr_becomeIdle_pollsOk {s : State} (marks : MarksOk none s.sources) (tops : TopsOk s) (queues : QueuesOk s) :
    PollsOk (holdOr none becomeIdle s) := by
  refine ⟨linkOk_atRest (holdOr_becomeIdle_link s) ?_ (fun p none => nomatch none) (by simpa using marks)
    (tops.congr (by simp) (by simp) (by simp) (by simp)), queues.congr (by simp) (by simp)⟩
  obtain e | e := restState_cases s.link
  · exact .inl ⟨e, rfl⟩
  · exact .inr e

/-- What the end of a poll leaves of the sources (R87). -/
theorem tellEnded_sources (p : Poll) (s : State) :
    (tellEnded p s).sources.cycleQueue = s.sources.cycleQueue ∧
    (tellEnded p s).sources.sweepRequest = s.sources.sweepRequest ∧
    (tellEnded p s).sources.remainder = s.sources.remainder ∧
    (tellEnded p s).sources.directed =
      (if p.source = .directed then s.sources.directed.tail else s.sources.directed) ∧
    (tellEnded p s).sources.sweepInProgress = (if p.source = .sweep then false else s.sources.sweepInProgress) := by
  unfold tellEnded
  split
  case h_1 e => simp [e]
  case h_2 e => simp [e]
  case h_3 e =>
    dsimp only
    split
    · unfold moveCursor
      split <;> simp [e]
    · simp [e]

/-- The directed queue without its head, the next entry not in progress (R79). -/
theorem QueuesOk.tail_head {s : State} (h : QueuesOk s) :
    (s.sources.directed.tail.head?.any fun e => e.inProgress) = false := by
  cases found : s.sources.directed.tail with
  | nil => rfl
  | cons e l => exact h.headOnly e (by rw [found]; exact List.mem_cons_self ..)

theorem tellEnded_marks {p : Poll} {s : State} (h : MarksOk (some p) s.sources) (q : QueuesOk s) :
    MarksOk none (tellEnded p s).sources := by
  obtain ⟨-, -, -, directed, sweep⟩ := tellEnded_sources p s
  refine ⟨?_, ?_⟩
  · rw [sweep, h.sweep]
    by_cases e : p.source = .sweep <;> simp [e]
  · rw [directed]
    by_cases e : p.source = .directed
    · rw [if_pos e]; exact q.tail_head
    · rw [if_neg e, h.head]; simp [e]

theorem tellEnded_queues {s : State} (h : QueuesOk s) (p : Poll) : QueuesOk (tellEnded p s) := by
  obtain ⟨cycle, -, -, directed, -⟩ := tellEnded_sources p s
  refine ⟨by rw [cycle]; exact h.cycle, ?_, ?_, ?_⟩ <;> rw [directed] <;> split
  · rw [List.length_tail]; exact Nat.le_trans (Nat.sub_le _ _) h.room
  · exact h.room
  · exact fun e he => h.entries e (List.mem_of_mem_tail he)
  · exact h.entries
  · exact fun e he => h.headOnly e (List.mem_of_mem_tail he)
  · exact h.headOnly

theorem tellEnded_tops {s : State} (h : TopsOk s) (p : Poll) : TopsOk (tellEnded p s) := by
  obtain ⟨cycle, request, remainder, -, -⟩ := tellEnded_sources p s
  exact h.congr (by simp) cycle request remainder

/-- A poll completes (R64). -/
theorem completePoll_pollsOk {p : Poll} {s : State} (marks : MarksOk (some p) s.sources) (tops : TopsOk s)
    (queues : QueuesOk s) : PollsOk (completePoll p s) := by
  have told := tellEnded_marks marks queues
  have queues := tellEnded_queues queues p
  have tops := tellEnded_tops tops p
  unfold completePoll
  dsimp only
  refine holdOr_becomeIdle_pollsOk ?_ ?_ ?_
  · split <;> simpa using told
  · split <;> exact tops.congr rfl rfl rfl rfl
  · split <;> exact .congr (s := tellEnded p s) rfl rfl queues

/-- A poll is aborted (R65, R66). -/
theorem abortPoll_pollsOk {p : Poll} {s : State} (marks : MarksOk (some p) s.sources) (tops : TopsOk s)
    (queues : QueuesOk s) : PollsOk (abortPoll p s) := by
  unfold abortPoll
  dsimp only
  generalize counted : (if saturate 255 s.link.failures = 8 then _ else _) = u
  have same : u.sources = s.sources ∧ u.tallies = s.tallies := by
    rw [← counted]; split <;> exact ⟨rfl, rfl⟩
  have marks : MarksOk (some p) u.sources := by rw [same.1]; exact marks
  have queues : QueuesOk u := .congr (by rw [same.1]) (by rw [same.1]) queues
  have tops : TopsOk u := tops.congr same.2 (by rw [same.1]) (by rw [same.1]) (by rw [same.1])
  exact holdOr_becomeIdle_pollsOk (tellEnded_marks marks queues) (tellEnded_tops tops p) (tellEnded_queues queues p)

/-- The sources after a cut: the sweep poll no longer in progress, its remainder in order (R86). -/
theorem tellCut_parts {p : Poll} {s : State} (sweep : p.source = .sweep) (poll : PollOk s p)
    (marks : MarksOk (some p) s.sources) (tops : TopsOk s) : MarksOk none (tellCut p s).sources ∧ TopsOk (tellCut p s) := by
  refine ⟨⟨rfl, ?_⟩, tops.tops, tops.cycleTop, tops.request, fun v n kept => ?_⟩
  · have := marks.head
    simpa [sweep, tellCut] using this
  · have kept : (if s.settings.sweepEnable then some (p.valve, p.next) else none) = some (v, n) := kept
    obtain ⟨-, e⟩ := Option.ite_none_right_eq_some.1 kept
    obtain ⟨rfl, rfl⟩ := Prod.mk.inj (Option.some.inj e)
    obtain ⟨h1, h2, h3, -⟩ := poll.range
    exact ⟨Nat.le_trans h1 h2, Nat.le_trans h3 (poll.sweepTop sweep)⟩

theorem cutPoll_pollsOk {p : Poll} {s : State} (sweep : p.source = .sweep) (poll : PollOk s p)
    (marks : MarksOk (some p) s.sources) (tops : TopsOk s) (queues : QueuesOk s) : PollsOk (cutPoll p s) := by
  obtain ⟨marks, tops⟩ := tellCut_parts sweep poll marks tops
  exact holdOr_becomeIdle_pollsOk marks tops (.congr (s := s) rfl rfl queues)

end Sys2Proof.Machine

/-! The monitoring link and the queues through words, timers, the arbiter and the claims on the link (R58 to R72, R76,
R81 to R86). -/

namespace Sys2Proof.Machine

/-! ### Polls under way (R58, R60, R63) -/

theorem openTelegram_pollsOk {p : Poll} {s : State} (hold : s.link.holdPending = none) (cut : s.link.cutPending = false)
    (poll : PollOk s p) (marks : MarksOk (some p) s.sources) (tops : TopsOk s) (queues : QueuesOk s) :
    PollsOk (openTelegram p s) := by
  refine ⟨linkOk_polling (p := p) rfl rfl rfl (fun pending => ?_) (fun pending => ?_) ⟨poll.range, poll.superseded, poll.sweepTop⟩ marks
    (tops.congr rfl rfl rfl rfl), .congr (s := s) rfl rfl queues⟩
  · have pending : s.link.holdPending.isSome = true := pending
    rw [hold] at pending; cases pending
  · have pending : s.link.cutPending = true := pending
    rw [cut] at pending; cases pending

theorem sendExpectation_pollsOk {s : State} (h : PollsOk s) : PollsOk (sendExpectation s) := by
  unfold sendExpectation
  split
  case h_1 p e =>
    have l := h.link
    have poll := l.pollOk e
    exact ⟨linkOk_polling (p := p) rfl e rfl (fun _ => rfl) (fun pending => ⟨.inr rfl, l.cutSweep pending p e⟩)
      ⟨poll.range, poll.superseded, poll.sweepTop⟩ (e ▸ l.marksOk) (l.topsOk.congr rfl rfl rfl rfl), .congr (s := s) rfl rfl h.queues⟩
  case h_2 => exact h

theorem enterInterval_pollsOk {p : Poll} {s : State} (h : PollsOk s) (e : s.link.poll = some p)
    (hold : s.link.holdPending = none) (cut : s.link.cutPending = false) : PollsOk (enterInterval s) := by
  unfold enterInterval
  split
  · exact sendExpectation_pollsOk h
  · have l := h.link
    have poll := l.pollOk e
    refine ⟨linkOk_polling (p := p) rfl e rfl (fun pending => ?_) (fun pending => ?_)
      ⟨poll.range, poll.superseded, poll.sweepTop⟩ (e ▸ l.marksOk) (l.topsOk.congr rfl rfl rfl rfl),
      .congr (s := s) rfl rfl h.queues⟩
    · have pending : s.link.holdPending.isSome = true := pending
      rw [hold] at pending; cases pending
    · have pending : s.link.cutPending = true := pending
      rw [cut] at pending; cases pending

/-- The link HELD, with its poll or after the end of it. -/
theorem becomeHeld_pollsOk {kept : Option Poll} {s : State} (poll : ∀ p, kept = some p → PollOk s p)
    (marks : MarksOk kept s.sources) (tops : TopsOk s) (queues : QueuesOk s) : PollsOk (becomeHeld kept s) :=
  ⟨linkOk_atRest (l := s.link) (state := .held) rfl (.inr rfl)
    (fun p e => ⟨(poll p e).range, (poll p e).superseded, (poll p e).sweepTop⟩) marks (tops.congr rfl rfl rfl rfl),
    .congr (s := s) rfl rfl queues⟩

theorem becomeIdle_pollsOk {s : State} (marks : MarksOk none s.sources) (tops : TopsOk s) (queues : QueuesOk s) :
    PollsOk (becomeIdle s) :=
  ⟨linkOk_atRest (l := s.link) (state := .idle) rfl (.inl ⟨rfl, rfl⟩) (fun _ e => nomatch e) marks
    (tops.congr rfl rfl rfl rfl), .congr (s := s) rfl rfl queues⟩

theorem placeAnswer_pollsOk {s : State} (h : PollsOk s) (q : Port) (r : Reply) : PollsOk (placeAnswer q r s) :=
  h.congr (by simp) (by simp) (by simp) (by simp) (by simp) (by simp) (by simp)

/-! ### Words (R59, R61) -/

/-- A state with another current poll. -/
def withPoll (p : Poll) (s : State) : State := { s with link := { s.link with poll := some p } }

/-- The engine goes on after a word, from an exchange whose next position was that of `p` (R61). -/
theorem goOn_pollsOk {p : Poll} {s : State} (h : PollsOk s) (e : s.link.poll = some p) :
    PollsOk (goOn (processed p) (withPoll (processed p) s)) := by
  have l := h.link
  have poll := l.pollOk e
  have marks : MarksOk (some p) s.sources := e ▸ l.marksOk
  have queues : QueuesOk (withPoll (processed p) s) := .congr (s := s) rfl rfl h.queues
  have tops : TopsOk (withPoll (processed p) s) := l.topsOk.congr rfl rfl rfl rfl
  unfold goOn
  split
  · exact completePoll_pollsOk (s := withPoll (processed p) s)
      ⟨marks.sweep, marks.head⟩ tops queues
  case isFalse more =>
    have next : PollOk (withPoll (processed p) s) (processed p) := by
      obtain ⟨h1, h2, h3, h4⟩ := poll.range
      exact ⟨⟨h1, Nat.le_succ_of_le h2, Nat.not_lt.1 more, h4⟩, poll.superseded, poll.sweepTop⟩
    split
    case isTrue cut => exact cutPoll_pollsOk (l.cutSweep cut p e) next ⟨marks.sweep, marks.head⟩ tops queues
    case isFalse cut =>
      have cut : s.link.cutPending = false := by simpa [withPoll] using cut
      cases hold : s.link.holdPending with
      | some q =>
        rw [holdOr_of_hold (s := withPoll (processed p) s) hold]
        refine placeAnswer_pollsOk (becomeHeld_pollsOk (kept := some (processed p)) (s := withPoll (processed p) s)
          (fun q e => ?_)
          ⟨marks.sweep, marks.head⟩ tops queues) _ _
        cases e; exact next
      | none =>
        rw [holdOr_of_none (s := withPoll (processed p) s) hold]
        refine enterInterval_pollsOk (p := processed p) ⟨?_, queues⟩ rfl hold cut
        exact
          { poll := fun _ => rfl
            idle := fun idle => by have := l.idle idle; rw [e] at this; cases this
            timer := l.timer, hold := l.hold, cut := l.cut
            cutSweep := fun pending => absurd (cut.symm.trans pending) (by decide)
            range := fun q hq => by cases hq; exact next.range
            superseded := fun q hq => by cases hq; exact next.superseded
            sweepMark := marks.sweep, headMark := marks.head
            sweepTop := fun q hq => by cases hq; exact next.sweepTop
            tops := l.tops, cycleTop := l.cycleTop, request := l.request, remainder := l.remainder }

theorem topsRise_commitRecord (v w : Valve) (p : Position) (new : LevelRecord) (origin : UnfitOrigin) (s : State) :
    (s.tally w).top ≤ ((commitRecord v p new origin s).tally w).top := by
  rw [commitRecord_tally]
  split
  case isTrue moved =>
    rw [← moved.1]
    show (s.tally v).top ≤ if new.life = .empty then (s.tally v).top else max (s.tally v).top (positionNumber p)
    split <;> omega
  case isFalse => exact Nat.le_refl _

/-- No valve has a record above position 96 (R27). -/
theorem TalliesOk.tops {s : State} (h : TalliesOk s) (v : Valve) : (s.tally v).top ≤ 96 := by
  have bound (rs : List LevelRecord) (n : Nat) : ∀ k ≤ n, (List.range k).foldl (fun t k =>
      if (rs[k]?.map LevelRecord.life).getD .empty = .empty then t else k + 1) 0 ≤ n := by
    intro k
    induction k with
    | zero => exact fun _ => Nat.zero_le _
    | succ k ih =>
      intro hk
      rw [List.range_succ, List.foldl_append]
      show (if _ then _ else _) ≤ _
      split
      · exact ih (Nat.le_of_succ_le hk)
      · exact hk
  rw [h v]
  refine Nat.le_trans (bound _ _ _ (Nat.le_refl _)) (Nat.le_of_eq ?_)
  rw [length_records]

/-- Higher tops, with link and sources as they were. -/
theorem PollsOk.rise {s t : State} (h : PollsOk s) (el : t.link = s.link) (ec : t.sources = s.sources)
    (tops : ∀ v, (t.tally v).top ≤ 96) (rise : ∀ v, (s.tally v).top ≤ (t.tally v).top) : PollsOk t := by
  have k := h.link.topsOk
  refine ⟨h.link.of_read (by rw [el]) (by rw [el]) (by rw [el]) (by rw [el]) (by rw [el])
    (by rw [el, ec]; exact h.link.marksOk) ⟨tops, fun v hv => ?_, fun v hv => ?_, fun v n hv => ?_⟩ rise,
    .congr (by rw [ec]) (by rw [ec]) h.queues⟩
  · exact Nat.le_trans (k.cycleTop v (ec ▸ hv)) (rise v)
  · exact Nat.le_trans (k.request v (ec ▸ hv)) (rise v)
  · obtain ⟨h1, h2⟩ := k.remainder v n (ec ▸ hv)
    exact ⟨h1, Nat.le_trans h2 (rise v)⟩

/-- A protective-firing offer (R45, R79). -/
theorem joinDirected_pollsOk {s : State} (h : PollsOk s) (place : hasPlace s = true) (v : Valve) {first count : Nat}
    (origin : EntryOrigin) (entry : 1 ≤ first ∧ 1 ≤ count ∧ count ≤ 8 ∧ first + count ≤ 97) :
    PollsOk (joinDirected v first count origin s) := by
  have k := h.link
  have q := h.queues
  have room : s.sources.directed.length < 4 := by simpa [hasPlace] using place
  have head : ((joinDirected v first count origin s).sources.directed.head?.any fun e => e.inProgress) =
      s.sources.directed.head?.any fun e => e.inProgress := by
    unfold joinDirected
    dsimp only
    cases s.sources.directed <;> rfl
  refine ⟨k.of_read rfl rfl rfl rfl rfl ⟨k.sweepMark, head.trans k.headMark⟩ (k.topsOk.congr rfl rfl rfl rfl)
    fun _ => Nat.le_refl _, ⟨q.cycle, ?_, fun e he => ?_, fun e he => ?_⟩⟩
  · simpa [joinDirected] using Nat.succ_le_of_lt room
  · obtain he | he := List.mem_append.1 he
    · exact q.entries e he
    · rw [List.mem_singleton.1 he]; exact entry
  · simp only [joinDirected] at he
    have headOnly := q.headOnly
    revert he headOnly
    cases s.sources.directed with
    | nil => simp
    | cons x l =>
      intro he headOnly
      obtain he | he := List.mem_append.1 he
      · exact headOnly e he
      · rw [List.mem_singleton.1 he]

theorem positionNumber_bounds (p : Position) : 1 ≤ positionNumber p ∧ positionNumber p ≤ 96 := by
  unfold positionNumber; omega

theorem offerCheck_pollsOk {s : State} (h : PollsOk s) (v : Valve) (p : Position) : PollsOk (offerCheck v p s) := by
  have := positionNumber_bounds p
  unfold offerCheck
  split
  case isTrue place => exact joinDirected_pollsOk h place v .protectiveFiring ⟨this.1, by decide, by decide, by omega⟩
  case isFalse => exact h.congr rfl rfl rfl rfl rfl rfl rfl

theorem applyResult_pollsOk {s : State} (h : BlocksOk s) (res : Result) : PollsOk (applyResult res s) := by
  obtain same | ⟨-, u, hu, made⟩ := applyResult_cases res s
  · rw [same]; exact h.polls
  have tallies := applyResult_tableOk (res := res) h.table
  have top (v : Valve) : (u.tally v).top ≤ 96 := by
    obtain made | made := made
    · rw [← made]; exact tallies.tallies.tops v
    · have := tallies.tallies.tops v
      rwa [made, tally_congr (offerCheck_frame _ _ u).2.1] at this
  have claimed : PollsOk u := by
    subst hu
    exact h.polls.rise (by simp) (by simp) top fun v => topsRise_commitRecord _ v _ _ _ s
  obtain made | made := made <;> rw [made]
  · exact claimed
  · exact offerCheck_pollsOk claimed _ _

theorem countMismatch_pollsOk {s : State} (h : PollsOk s) : PollsOk (countMismatch s) :=
  h.congr rfl rfl rfl rfl rfl rfl rfl

theorem overrun_pollsOk {s : State} (h : PollsOk s) : PollsOk (overrun s) := h.congr rfl rfl rfl rfl rfl rfl rfl

theorem resultWord_pollsOk {s : State} (h : BlocksOk s) (w : Word16) : PollsOk (resultWord w s) := by
  obtain e | ⟨p, -, hp, e⟩ := resultWord_cases w s <;> rw [e]
  · exact overrun_pollsOk h.polls
  · have taken : PollsOk (takenWord p w s) := by
      unfold takenWord
      split
      case h_1 res _ => exact applyResult_pollsOk h res
      case h_2 => exact countMismatch_pollsOk h.polls
    have poll : (takenWord p w s).link.poll = some p := by
      unfold takenWord
      split
      · simpa using hp
      · exact hp
    exact goOn_pollsOk taken poll

theorem replyHeader_pollsOk {s : State} (h : PollsOk s) (w : Word16) : PollsOk (replyHeader w s) := by
  unfold replyHeader
  split
  case h_1 p header e =>
    split
    · have flagged : (setVmuFault p.valve (replyFault w) (handBlocking p (replyBlocking w) s)).link =
          { s.link with vmuFault := put s.link.vmuFault p.valve (replyFault w) } := by
        unfold setVmuFault
        dsimp only
        split <;> simp
      have accepted : PollsOk (setVmuFault p.valve (replyFault w) (handBlocking p (replyBlocking w) s)) :=
        h.congr (by rw [flagged]) (by rw [flagged]) (by rw [flagged]) (by rw [flagged]) (by rw [flagged]) (by simp)
          (by simp)
      have hold : s.link.holdPending = none := by
        by_contra pending
        have := h.link.hold (Option.isSome_iff_ne_none.2 pending)
        rw [header] at this; cases this
      unfold acceptHeader
      dsimp only
      generalize setVmuFault p.valve (replyFault w) (handBlocking p (replyBlocking w) s) = u at flagged accepted ⊢
      have poll : u.link.poll = some p := by rw [flagged]; exact e
      split
      case isTrue cut =>
        exact cutPoll_pollsOk (accepted.link.cutSweep cut p poll) (accepted.link.pollOk poll)
          (poll ▸ accepted.link.marksOk) accepted.link.topsOk accepted.queues
      case isFalse cut =>
        exact enterInterval_pollsOk accepted poll (by rw [flagged]; exact hold) (by simpa using cut)
    · exact countMismatch_pollsOk h
  case h_2 => exact overrun_pollsOk h

theorem receive_pollsOk {s : State} (h : BlocksOk s) (f : BitVec 20) : PollsOk (receive f s) := by
  unfold receive
  split
  · exact replyHeader_pollsOk h.polls _
  · split
    · exact resultWord_pollsOk h _
    · exact countMismatch_pollsOk h.polls

/-! ### Timers (R63, R65) -/

theorem wordIntervalEnd_pollsOk {s : State} (h : PollsOk s) : PollsOk (wordIntervalEnd s) := by
  unfold wordIntervalEnd
  split
  · exact sendExpectation_pollsOk h
  · exact h

theorem awaitedTimeout_pollsOk {s : State} (h : PollsOk s) (awaiting : LinkState) : PollsOk (awaitedTimeout awaiting s) := by
  unfold awaitedTimeout
  split
  case h_1 p e =>
    split
    · exact abortPoll_pollsOk (e ▸ h.link.marksOk) h.link.topsOk h.queues
    · exact h
  case h_2 => exact h

/-! ### Check points (R75, R76, R85) -/

theorem requestCut_pollsOk {s : State} (h : PollsOk s) : PollsOk (requestCut s) := by
  have l := h.link
  unfold requestCut
  split
  case h_1 p e =>
    split
    case isTrue wanted =>
      have sweep : p.source = .sweep := by
        simp only [Bool.and_eq_true, decide_eq_true_eq] at wanted
        exact wanted.2
      have marks : MarksOk (some p) s.sources := e ▸ l.marksOk
      have cut (state : s.link.state = .header ∨ s.link.state = .exchange) :
          PollsOk { s with link := { s.link with cutPending := true } } := by
        refine ⟨{ poll := l.poll, idle := l.idle, timer := l.timer, hold := l.hold, cut := fun _ => state, cutSweep := ?_,
                  range := l.range, superseded := l.superseded, sweepMark := l.sweepMark, headMark := l.headMark,
                  sweepTop := l.sweepTop, tops := l.tops, cycleTop := l.cycleTop, request := l.request,
                  remainder := l.remainder }, .congr (s := s) rfl rfl h.queues⟩
        intro _ q hq
        obtain rfl : p = q := Option.some.inj (e.symm.trans hq)
        exact sweep
      split
      case h_1 header => exact cut (.inl header)
      case h_2 exchange => exact cut (.inr exchange)
      case h_3 => exact cutPoll_pollsOk sweep (l.pollOk e) marks l.topsOk h.queues
      case h_4 =>
        obtain ⟨marks, tops⟩ := tellCut_parts sweep (l.pollOk e) marks l.topsOk
        exact becomeHeld_pollsOk (fun _ none => nomatch none) marks tops (.congr (s := s) rfl rfl h.queues)
      case h_5 => exact h
    case isFalse => exact h
  case h_2 => exact h

theorem supersede_pollsOk {s : State} (h : PollsOk s) (v : Valve) : PollsOk (supersede v s) := by
  have l := h.link
  unfold supersede
  split
  case h_1 p held e =>
    split
    case isTrue same =>
      have marks := l.marksOk
      rw [e] at marks
      refine ⟨?_, .congr (s := s) rfl rfl h.queues⟩
      exact
        { poll := fun _ => rfl
          idle := fun idle => nomatch held.symm.trans idle
          timer := l.timer, hold := l.hold, cut := l.cut
          cutSweep := fun pending => by obtain c | c := l.cut pending <;> exact nomatch held.symm.trans c
          range := fun q hq => by cases hq; exact l.range p e
          superseded := fun q hq _ => by cases hq; exact same.1
          sweepMark := marks.sweep, headMark := marks.head
          sweepTop := fun q hq => by cases hq; exact l.sweepTop p e
          tops := l.tops, cycleTop := l.cycleTop, request := l.request, remainder := l.remainder }
    case isFalse => exact h
  case h_2 => exact h

theorem joinCycle_pollsOk {s : State} (h : PollsOk s) {v : Valve} (top : 1 ≤ (s.tally v).top) :
    PollsOk (joinCycle v s) := by
  have l := h.link
  unfold joinCycle
  split
  case isTrue => exact h.of_link rfl rfl rfl rfl rfl rfl rfl
  case isFalse new =>
    refine requestCut_pollsOk ⟨l.of_read rfl rfl rfl rfl rfl ⟨l.sweepMark, l.headMark⟩ ⟨l.tops, fun w hw => ?_, l.request, l.remainder⟩
      fun _ => Nat.le_refl _, ⟨?_, h.queues.room, h.queues.entries, h.queues.headOnly⟩⟩
    · obtain hw | hw := List.mem_append.1 hw
      · exact l.cycleTop w hw
      · rw [List.mem_singleton.1 hw]; exact top
    · exact List.nodup_append.2 ⟨h.queues.cycle, List.nodup_singleton v, fun a ha b hb e => by
        rw [List.mem_singleton.1 hb] at e
        exact new (e ▸ ha)⟩

theorem takeCheckPoint_pollsOk {s : State} (h : PollsOk s) (v : Valve) : PollsOk (takeCheckPoint s v) := by
  have cleared : PollsOk { s with sources := { s.sources with armed := put s.sources.armed v none } } :=
    h.of_link rfl rfl rfl rfl rfl rfl rfl
  unfold takeCheckPoint
  generalize { s with sources := { s.sources with armed := put s.sources.armed v none } } = u at cleared ⊢
  unfold checkPoint
  split
  case isTrue raised =>
    have top : 1 ≤ (u.tally v).top := by
      simp only [Bool.and_eq_true, decide_eq_true_eq] at raised
      exact raised.2
    refine joinCycle_pollsOk (supersede_pollsOk cleared v) ?_
    rwa [tally_congr (supersede_frame v u).2.1]
  case isFalse => exact cleared

theorem checkPoints_pollsOk {s : State} (h : PollsOk s) (passed : List Nat) (armed : Vector (Option Nat) 12) :
    PollsOk (checkPoints passed armed s) :=
  foldl_preserves (P := PollsOk) (f := takeCheckPoint) (fun _ v k => takeCheckPoint_pollsOk k v) _ h

/-! ### The arbiter (R84) -/

theorem startPoll_pollsOk {source : PollSource} {kind : PollKind} {v : Valve} {first last : Nat} {s : State}
    (hold : s.link.holdPending = none) (cut : s.link.cutPending = false)
    (range : 1 ≤ first ∧ first ≤ last ∧ last ≤ 96) (sweepTop : source = .sweep → last ≤ (s.tally v).top)
    (sweep : s.sources.sweepInProgress = decide (source = .sweep))
    (head : (s.sources.directed.head?.any fun e => e.inProgress) = decide (source = .directed)) (tops : TopsOk s)
    (queues : QueuesOk s) : PollsOk (startPoll source kind v first last s) :=
  openTelegram_pollsOk hold cut ⟨⟨range.1, Nat.le_refl _, range.2⟩, fun mark => (nomatch mark), sweepTop⟩ ⟨sweep, head⟩
    tops queues

theorem startCycle_pollsOk {s : State} (h : PollsOk s) (hold : s.link.holdPending = none)
    (cut : s.link.cutPending = false) (sweep : s.sources.sweepInProgress = false)
    (head : (s.sources.directed.head?.any fun e => e.inProgress) = false) : PollsOk (startCycle s) := by
  have tops := h.link.topsOk
  have nodup := h.queues.cycle
  unfold startCycle
  split
  case h_1 v rest queue =>
    rw [queue] at nodup
    exact startPoll_pollsOk (s := { s with sources := { s.sources with cycleQueue := rest } }) hold cut
      ⟨Nat.le_refl _, tops.cycleTop v (by rw [queue]; exact List.mem_cons_self ..), tops.tops v⟩ (fun e => nomatch e)
      sweep head
      ⟨tops.tops, fun w hw => tops.cycleTop w (by rw [queue]; exact List.mem_cons_of_mem v hw), tops.request,
        tops.remainder⟩
      ⟨(List.nodup_cons.1 nodup).2, h.queues.room, h.queues.entries, h.queues.headOnly⟩
  case h_2 => exact h

theorem startDirected_pollsOk {s : State} (h : PollsOk s) (hold : s.link.holdPending = none)
    (cut : s.link.cutPending = false) (sweep : s.sources.sweepInProgress = false) : PollsOk (startDirected s) := by
  have tops := h.link.topsOk
  have q := h.queues
  unfold startDirected
  split
  case h_1 e rest queue =>
    have entry := q.entries e (by rw [queue]; exact List.mem_cons_self ..)
    refine startPoll_pollsOk (s := { s with sources := { s.sources with directed := { e with inProgress := true } :: rest } })
      hold cut ⟨entry.1, by omega, by omega⟩ (fun e => nomatch e) sweep rfl (tops.congr rfl rfl rfl rfl)
      ⟨q.cycle, ?_, fun x hx => ?_, ?_⟩
    · have room := q.room
      rw [queue] at room
      exact room
    · obtain rfl | hx := List.mem_cons.1 hx
      · exact entry
      · exact q.entries x (by rw [queue]; exact List.mem_cons_of_mem e hx)
    · have headOnly := q.headOnly
      rw [queue] at headOnly
      exact headOnly
  case h_2 => exact h

theorem startSweep_pollsOk {s : State} (h : PollsOk s) (hold : s.link.holdPending = none)
    (cut : s.link.cutPending = false)
    (head : (s.sources.directed.head?.any fun e => e.inProgress) = false) : PollsOk (startSweep s) := by
  have tops := h.link.topsOk
  unfold startSweep
  split
  case h_1 v next kept =>
    have range := tops.remainder v next kept
    exact startPoll_pollsOk
      (s := { s with sources := { s.sources with remainder := none, sweepInProgress := true } }) hold cut
      ⟨range.1, range.2, tops.tops v⟩ (fun _ => Nat.le_refl _) rfl head
      ⟨tops.tops, tops.cycleTop, tops.request, fun _ _ absent => nomatch absent⟩ (.congr (s := s) rfl rfl h.queues)
  case h_2 v _ kept =>
    exact startPoll_pollsOk
      (s := { s with sources := { s.sources with sweepRequest := none, sweepInProgress := true } }) hold cut
      ⟨Nat.le_refl _, tops.request v kept, tops.tops v⟩ (fun _ => Nat.le_refl _) rfl head
      ⟨tops.tops, tops.cycleTop, fun _ absent => (nomatch absent), tops.remainder⟩ (.congr (s := s) rfl rfl h.queues)
  case h_3 => exact h

theorem arbiterStart_pollsOk {s : State} (h : PollsOk s) : PollsOk (arbiterStart s) := by
  unfold arbiterStart
  split
  case isTrue idle =>
    have l := h.link
    have none := l.idle idle
    have hold : s.link.holdPending = .none := by
      by_contra pending
      have := l.hold (Option.isSome_iff_ne_none.2 pending)
      rw [idle] at this; cases this
    have cut : s.link.cutPending = false := by
      by_contra pending
      obtain c | c := l.cut (by simpa using pending) <;> rw [idle] at c <;> cases c
    have sweep : s.sources.sweepInProgress = false := by have := l.sweepMark; rwa [none] at this
    have head : (s.sources.directed.head?.any fun e => e.inProgress) = false := by
      have := l.headMark; rwa [none] at this
    split
    case h_1 => exact startCycle_pollsOk h hold cut sweep head
    case h_2 => exact startDirected_pollsOk h hold cut sweep
    case h_3 => exact startSweep_pollsOk h hold cut head
    case h_4 => exact h
  case isFalse => exact h

/-! ### The sweep source (R81, R83) -/

theorem nextCursor_top {v w : Valve} {s : State} (h : nextCursor v s = some w) : 1 ≤ (s.tally w).top := by
  have := List.find?_some h
  exact of_decide_eq_true this

theorem sweepValve_top {w : Valve} {s : State} (h : sweepValve s = some w) : 1 ≤ (s.tally w).top := by
  unfold sweepValve at h
  split at h
  case isTrue top => cases h; exact top
  case isFalse => exact nextCursor_top h

theorem sweepTick_pollsOk {s : State} (h : PollsOk s) : PollsOk (sweepTick s) := by
  have l := h.link
  unfold sweepTick
  split
  · have timed : PollsOk { s with sources := { s.sources with sweepTimer := 0 } } :=
      h.of_link rfl rfl rfl rfl rfl rfl rfl
    generalize { s with sources := { s.sources with sweepTimer := 0 } } = u at timed ⊢
    have k := timed.link
    unfold sweepOccasion
    split
    · exact timed
    · split
      case h_1 w found =>
        have top := sweepValve_top found
        exact ⟨k.of_read rfl rfl rfl rfl rfl ⟨k.sweepMark, k.headMark⟩ ⟨k.tops, k.cycleTop,
          fun x hx => by cases hx; exact top, k.remainder⟩ fun _ => Nat.le_refl _,
          .congr (s := u) rfl rfl timed.queues⟩
      case h_2 => exact timed
  · split
    · exact h.of_link rfl rfl rfl rfl rfl rfl rfl
    · exact h

theorem sweepEnableSet_pollsOk {s : State} (h : PollsOk s) (on : Bool) : PollsOk (sweepEnableSet on s) := by
  have k := h.link
  refine ⟨k.of_read rfl rfl rfl rfl rfl ⟨k.sweepMark, k.headMark⟩ ⟨k.tops, k.cycleTop, fun x hx => ?_, fun x n hx => ?_⟩
    fun _ => Nat.le_refl _, .congr (s := s) rfl rfl h.queues⟩
  · have hx : (if on then s.sources.sweepRequest else none) = some x := hx
    exact k.request x (Option.ite_none_right_eq_some.1 hx).2
  · have hx : (if on then s.sources.remainder else none) = some (x, n) := hx
    exact k.remainder x n (Option.ite_none_right_eq_some.1 hx).2

/-! ### Claims (R69, R71, R80) -/

theorem holdClaim_pollsOk {s : State} (h : PollsOk s) (q : Port) : PollsOk (holdClaim q s).1 := by
  have l := h.link
  have keep : PollsOk (becomeHeld s.link.poll s) :=
    becomeHeld_pollsOk (fun _ e => l.pollOk e) l.marksOk l.topsOk h.queues
  unfold holdClaim
  split
  case h_1 => exact h
  case h_2 exchange =>
    split
    · exact h
    · exact ⟨{ poll := l.poll, idle := l.idle, timer := l.timer, hold := fun _ => exchange, cut := l.cut,
               cutSweep := l.cutSweep, range := l.range, superseded := l.superseded, sweepMark := l.sweepMark,
               headMark := l.headMark, sweepTop := l.sweepTop, tops := l.tops, cycleTop := l.cycleTop,
               request := l.request, remainder := l.remainder }, .congr (s := s) rfl rfl h.queues⟩
  case h_3 p header e =>
    split
    case isTrue cut =>
      obtain ⟨marks, tops⟩ := tellCut_parts (l.cutSweep cut p e) (l.pollOk e) (e ▸ l.marksOk) l.topsOk
      exact becomeHeld_pollsOk (fun _ none => nomatch none) marks tops (.congr (s := s) rfl rfl h.queues)
    case isFalse => rw [← e]; exact keep
  case h_4 => exact keep

theorem releaseClaim_pollsOk {s : State} (h : PollsOk s) : PollsOk (releaseClaim s).1 := by
  have l := h.link
  unfold releaseClaim
  split
  case h_1 held =>
    split
    case h_1 p e =>
      have marks : MarksOk (some p) s.sources := e ▸ l.marksOk
      have poll := l.pollOk e
      have hold : s.link.holdPending = none := by
        by_contra pending
        have := l.hold (Option.isSome_iff_ne_none.2 pending)
        rw [held] at this; cases this
      have cut : s.link.cutPending = false := by
        by_contra pending
        obtain c | c := l.cut (by simpa using pending) <;> rw [held] at c <;> cases c
      dsimp only
      split
      case isTrue superseded =>
        have cycle := poll.superseded superseded
        refine becomeIdle_pollsOk ⟨?_, ?_⟩ l.topsOk h.queues
        · rw [marks.sweep]; simp [cycle]
        · rw [marks.head]; simp [cycle]
      case isFalse =>
        obtain ⟨h1, h2, h3, h4⟩ := poll.range
        exact openTelegram_pollsOk hold cut ⟨⟨Nat.le_trans h1 h2, Nat.le_refl _, h3, h4⟩, fun mark => (nomatch mark),
          poll.sweepTop⟩ ⟨marks.sweep, marks.head⟩ l.topsOk h.queues
    case h_2 none => exact becomeIdle_pollsOk (none ▸ l.marksOk) l.topsOk h.queues
  case h_2 => exact h

theorem positionOf?_bounds {n : Nat} {p : Position} (h : positionOf? n = some p) : 1 ≤ n ∧ n ≤ 96 := by
  unfold positionOf? at h
  split at h
  · assumption
  · cases h

theorem checkClaim_pollsOk {s : State} (h : PollsOk s) (valve first count : Byte) :
    PollsOk (checkClaim valve first count s).1 := by
  unfold checkClaim
  split
  · exact h
  case isFalse size =>
    split
    case h_1 v a b hv ha hb =>
      split
      case isTrue place =>
        have first := positionOf?_bounds ha
        have last := positionOf?_bounds hb
        have size : 1 ≤ count.toNat ∧ count.toNat ≤ 8 := by
          simp only [Bool.or_eq_true, decide_eq_true_eq] at size
          omega
        exact joinDirected_pollsOk h place v .request ⟨first.1, size.1, size.2, by omega⟩
      case isFalse => exact h
    case h_2 => exact h

end Sys2Proof.Machine

/-! Link and queues over every step (R57 to R87). -/

namespace Sys2Proof.Machine

/-- Changes outside link, sources and tallies, or of the armed points alone. -/
structure PollsStay (s t : State) : Prop where
  link    : t.link = s.link
  tallies : t.tallies = s.tallies
  sources : ∃ armed, t.sources = { s.sources with armed := armed }

theorem PollsStay.pollsOk {s t : State} (m : PollsStay s t) (h : PollsOk s) : PollsOk t := by
  obtain ⟨armed, e⟩ := m.sources
  exact h.of_link m.link m.tallies (by rw [e]) (by rw [e]) (by rw [e]) (by rw [e]) (by rw [e])

theorem PollsStay.of_sources {s t : State} (link : t.link = s.link) (tallies : t.tallies = s.tallies)
    (sources : t.sources = s.sources) : PollsStay s t := ⟨link, tallies, s.sources.armed, sources⟩

theorem PollsStay.trans {s t u : State} (h : PollsStay s t) (k : PollsStay t u) : PollsStay s u := by
  obtain ⟨a, ha⟩ := h.sources
  obtain ⟨b, hb⟩ := k.sources
  exact ⟨k.link.trans h.link, k.tallies.trans h.tallies, b, by rw [hb, ha]⟩

theorem changeLock_stay (new : Lock) (s : State) : PollsStay s (changeLock new s) := by
  refine ⟨by simp, by simp, ?_⟩
  unfold changeLock sourcesLockChange
  dsimp only
  split
  · exact ⟨Vector.replicate 12 none, by simp [clearArmed]⟩
  · exact ⟨Vector.replicate 12 none, by simp [clearArmed]⟩
  · exact ⟨s.sources.armed, by simp⟩

theorem LockMove.stay_polls {s t : State} (m : LockMove s t) : PollsStay s t := by
  cases m with
  | stay f _ => exact .of_sources rfl rfl rfl
  | change new f _ _ => exact .trans (t := { s with phase := f }) (.of_sources rfl rfl rfl) (changeLock_stay new _)

theorem expireTimes_stay (n : Nat) (s : State) : PollsStay s (expireTimes n s) := by
  induction n generalizing s with
  | zero => exact .of_sources rfl rfl rfl
  | succ n ih => exact (missedCrossing_lockMove s).stay_polls.trans (ih _)

theorem referenceCrossing_stay (since : Nat) (s : State) : PollsStay s (referenceCrossing since s) :=
  (expireTimes_stay _ s).trans (takeCrossing_lockMove _ _).stay_polls

theorem fireValve_stay (v : Valve) (s : State) : PollsStay s (fireValve v s) := by
  refine ⟨by simp, by simp, ?_⟩
  unfold fireValve
  dsimp only
  split
  · exact ⟨put s.sources.armed v (some (armedPoint s.phase.phase)), by simp⟩
  · exact ⟨put s.sources.armed v (some (armedPoint s.phase.phase)), by simp⟩

theorem judgeWindows_stay (passed : List Nat) (s : State) : PollsStay s (judgeWindows passed s) := by
  have opened (v : Valve) (base : Nat) (t : State) : PollsStay t (judgeOpen v base t) := by
    unfold judgeOpen setWindow
    split
    · exact (fireValve_stay v t).trans (.of_sources rfl rfl rfl)
    · exact .of_sources rfl rfl rfl
  have judged (base : Nat) (t : State) (v : Valve) : PollsStay t (judgeWindow passed base t v) := by
    unfold judgeWindow setWindow
    split
    · split
      · exact opened v base t
      · exact .of_sources rfl rfl rfl
    · exact opened v base t
    · split <;> exact .of_sources rfl rfl rfl
  unfold judgeWindows
  split
  case h_1 base _ =>
    exact foldl_preserves (P := PollsStay s) (f := judgeWindow passed base) (fun t v k => k.trans (judged base t v)) _
      (.of_sources rfl rfl rfl)
  case h_2 => exact .of_sources rfl rfl rfl

theorem cycleStartWork_pollsOk {s : State} (h : PollsOk s) : PollsOk (cycleStartWork s) := by
  have swapped : PollsStay s (swapAtCycleStart s) := by
    unfold swapAtCycleStart
    split
    · exact .of_sources (by simp) (by simp) (by simp)
    · exact .of_sources rfl rfl rfl
  have worked : PollsStay (swapAtCycleStart s) (sequencerCycleWork (swapAtCycleStart s)) :=
    .of_sources (by simp) (by simp) (by simp)
  exact sweepTick_pollsOk ((swapped.trans worked).pollsOk h)

theorem stepEvent_pollsOk {s : State} (h : PollsOk s) : PollsOk (stepEvent s) := by
  by_cases counting : s.phase.counting = true
  · rw [stepEvent_eq counting]
    have moved : PollsOk { s with phase := advancePhase s.phase } :=
      PollsStay.pollsOk (.of_sources (s := s) rfl rfl rfl) h
    have worked : PollsOk (stepWork s) := by
      unfold stepWork
      split
      · exact cycleStartWork_pollsOk moved
      · exact moved
    have settled : PollsStay (stepWork s) (settleTrip (stepWork s)) := .of_sources rfl rfl rfl
    have checked := checkPoints_pollsOk (settled.pollsOk worked) (passedNext s.phase) s.sources.armed
    have judged := (judgeWindows_stay (passedNext s.phase) _).pollsOk checked
    generalize judgeWindows (passedNext s.phase) _ = u at judged ⊢
    have bypassed : PollsStay u (bypassPart s.seq.conv (passedNext s.phase).length u) :=
      .of_sources (by simp) (by simp) (by simp)
    exact bypassed.pollsOk judged
  · rw [stepEvent_stopped counting]; exact h

/-! ### Events, claims and resets -/

theorem controlReset_pollsOk {s : State} (h : PollsOk s) (keep : Option Port) : PollsOk (controlReset keep s) where
  link :=
    { poll := fun polling => (nomatch polling), idle := fun _ => rfl, timer := rfl, hold := fun pending => (nomatch pending)
      cut := fun pending => (nomatch pending), cutSweep := fun pending => (nomatch pending)
      range := fun _ none => (nomatch none), superseded := fun _ none => (nomatch none), sweepMark := rfl, headMark := rfl
      sweepTop := fun _ none => (nomatch none), tops := h.link.tops, cycleTop := fun _ absent => nomatch absent
      request := fun _ absent => (nomatch absent), remainder := fun _ _ absent => nomatch absent }
  queues := ⟨List.nodup_nil, Nat.zero_le _, fun _ absent => (nomatch absent), fun _ absent => nomatch absent⟩

theorem reset_pollsOk : PollsOk State.reset where
  link :=
    { poll := fun polling => (nomatch polling), idle := fun _ => rfl, timer := rfl, hold := fun pending => (nomatch pending)
      cut := fun pending => (nomatch pending), cutSweep := fun pending => (nomatch pending)
      range := fun _ none => (nomatch none), superseded := fun _ none => (nomatch none), sweepMark := rfl, headMark := rfl
      sweepTop := fun _ none => (nomatch none), tops := reset_tableOk.tallies.tops
      cycleTop := fun _ absent => (nomatch absent), request := fun _ absent => nomatch absent
      remainder := fun _ _ absent => nomatch absent }
  queues := ⟨List.nodup_nil, Nat.zero_le _, fun _ absent => (nomatch absent), fun _ absent => nomatch absent⟩

theorem countTick_pollsOk {s : State} (h : PollsOk s) : PollsOk (countTick s) :=
  h.congr rfl rfl (by simp [countTick, tickLink]) rfl rfl rfl rfl

theorem pollsOk_of_event {f : State → State} (hf : EventOf f) {s : State} (h : BlocksOk s) : PollsOk (f s) := by
  have k := h.polls
  cases hf with
  | restartPulse => exact controlReset_pollsOk k none
  | crossing since => exact (referenceCrossing_stay since s).pollsOk k
  | missed => exact (missedCrossing_lockMove s).stay_polls.pollsOk k
  | step => exact stepEvent_pollsOk k
  | word f => exact receive_pollsOk h f
  | timeout awaiting => exact awaitedTimeout_pollsOk k awaiting
  | interval => exact wordIntervalEnd_pollsOk k
  | arbiter => exact arbiterStart_pollsOk k
  | _ => exact PollsStay.pollsOk (.of_sources (by simp) (by simp) (by simp)) k

theorem changeClaim_pollsOk {s : State} (h : BlocksOk s) {v : Valve} {p : Position} {e : Option Word16} {k : Change}
    (keeps : TableOk (changeClaim v p e k s).1) : PollsOk (changeClaim v p e k s).1 := by
  obtain same | ⟨-, -, -, made⟩ := changeClaim_cases v p e k s
  · rw [same]; exact h.polls
  · rw [made] at keeps ⊢
    exact h.polls.rise (by simp) (by simp) keeps.tallies.tops fun w => topsRise_commitRecord v w p _ .change s

theorem offsetSet_stay (s : State) : PollsStay s (offsetSet s) := by
  unfold offsetSet
  split
  · exact .trans (t := { s with phase := offsetItems s.phase }) (.of_sources rfl rfl rfl) (changeLock_stay _ _)
  · exact .of_sources rfl rfl rfl

theorem storeClaim_pollsOk {s : State} (h : BlocksOk s) (σ : Setting) (v : Valve) (n : Nat) :
    PollsOk (storeClaim σ v n s).1 := by
  obtain ⟨code, -, made⟩ | ⟨-, made⟩ := storeClaim_cases σ v n s <;> rw [made]
  · exact h.polls
  have stored : PollsOk { s with settings := putSetting s.settings v n σ } :=
    PollsStay.pollsOk (.of_sources (s := s) rfl rfl rfl) h.polls
  have top (w : Valve) : ((setConsequences σ v { s with settings := putSetting s.settings v n σ }).tally w).top =
      (s.tally w).top := by rw [setConsequences_tally h.tallies]; rfl
  have rises {t : State} (made : t = setConsequences σ v { s with settings := putSetting s.settings v n σ })
      (link : t.link = s.link) (sources : t.sources = s.sources) : PollsOk t := by
    subst made
    exact h.polls.rise link sources (fun w => by rw [top w]; exact h.link.tops w) fun w => Nat.le_of_eq (top w).symm
  cases σ
  case sweepEnable => exact sweepEnableSet_pollsOk stored _
  case referenceOffset => exact (offsetSet_stay _).pollsOk stored
  case minimumSound | reserve => exact rises rfl (regrade_frame v _).2.2.1 (regrade_frame v _).2.2.2.1
  all_goals exact rises rfl rfl rfl

theorem pollsOk_of_claim {p : Port} {k : State → State × Option Reply} (hk : ClaimKind p k) {s : State}
    (h : BlocksOk s) : PollsOk (k s).1 := by
  have polls := h.polls
  have table := tableOk_of_claim hk h.table
  cases hk with
  | admission v x cls tag =>
    obtain same | ⟨v, p, -, made⟩ := admitClaim_cases v x cls tag s
    · rw [same]; exact polls
    · rw [made] at table ⊢; exact changeClaim_pollsOk h table
  | amend v x rev cls tag | clear v x rev cls tag | reprove v x rev cls tag | retire v x rev why =>
    obtain same | ⟨v, p, -, -, made⟩ := keyedChange_cases v x rev _ s
    · rw [same]; exact polls
    · rw [made] at table ⊢; exact changeClaim_pollsOk h table
  | check v x n => exact checkClaim_pollsOk polls v x n
  | hold => exact holdClaim_pollsOk polls p
  | release => exact releaseClaim_pollsOk polls
  | set σ v w =>
    obtain same | ⟨v, made⟩ := setClaim_cases σ v w s
    · rw [same]; exact polls
    · rw [made]; exact storeClaim_pollsOk h σ v w.toNat
  | lookup | clearNotices | setMask =>
    exact PollsStay.pollsOk (.of_sources (by simp [readOnly, clearNoticesClaim, setMaskClaim])
      (by simp [readOnly, clearNoticesClaim, setMaskClaim]) (by simp [readOnly, clearNoticesClaim, setMaskClaim])) polls
  | _ => exact PollsStay.pollsOk (.of_sources (by simp) (by simp) (by simp)) polls

theorem pollsOk_keptByParts : KeptByParts PollsOk where
  reads e h := PollsStay.pollsOk (.of_sources e.link e.tallies e.sources) h
  same _ h := h.polls
  power _ _ := PollsStay.pollsOk (s := State.reset) (.of_sources rfl rfl rfl) reset_pollsOk
  restart keep _ h := controlReset_pollsOk h.polls keep
  tick _ h _ := countTick_pollsOk h.polls
  event _ hf _ h := pollsOk_of_event hf h
  claim _ _ hk _ h := pollsOk_of_claim hk h

/-- Settles O57: link and queues through the events, the claims, the resets and the base tick. -/
theorem stepKeepsLink : Obligations.StepKeepsLink := by
  unfold Obligations.StepKeepsLink
  intro s t invariant reached
  have h := step_keeps pollsOk_keptByParts invariant reached
  exact ⟨h.queues, h.link⟩

end Sys2Proof.Machine

/-! Ports, engine and owners of requests through the operations of the ports (R151 to R157). -/

namespace Sys2Proof.Machine

/-! ### Ports and engine, the promptness of the engine apart -/

/-- Ports, owners and image in order; the engine may have left a request waiting. -/
structure PortsReady (s : State) : Prop where
  port    : ∀ p, PortOk (s.port p)
  owner   : ∀ p, ownedBy p s = if (s.port p).begun then 1 else 0
  lookup  : s.building ≠ ImageBuild.empty → ∃ q, begun (.lookConverter q) q.port s = true
  missing : missingParts s.building ≠ []
  parts   : ∀ (k : Fin 6) bytes, s.building.parts[k] = some bytes → ∃ fields, bytes = imagePart (byte (k.val + 1)) fields

theorem PortsOk.ready {s : State} (h : PortsOk s) : PortsReady s := ⟨h.port, h.owner, h.lookup, h.missing, h.parts⟩

theorem PortsReady.ok {s : State} (h : PortsReady s) (prompt : s.engine.busy = false → ∀ p, waits p s = false) :
    PortsOk s := ⟨h.port, h.owner, prompt, h.lookup, h.missing, h.parts⟩

/-- The ports differ at most in their notices, and the owners and the image are the same. -/
structure OwnersStay (s t : State) : Prop where
  ports    : SamePorts s t
  engine   : t.engine = s.engine
  swap     : t.schedule.swapPending = s.schedule.swapPending
  hold     : t.link.holdPending = s.link.holdPending
  building : t.building = s.building

theorem OwnersStay.refl (s : State) : OwnersStay s s := ⟨.refl s, rfl, rfl, rfl, rfl⟩

theorem OwnersStay.trans {s t u : State} (h : OwnersStay s t) (k : OwnersStay t u) : OwnersStay s u :=
  ⟨h.ports.trans k.ports, k.engine.trans h.engine, k.swap.trans h.swap, k.hold.trans h.hold,
    k.building.trans h.building⟩

theorem SamePorts.slots {s t : State} (h : SamePorts s t) (p : Port) : (t.port p).state = (s.port p).state ∧
    (t.port p).request = (s.port p).request ∧ (t.port p).begun = (s.port p).begun := by
  rw [h p]; exact ⟨rfl, rfl, rfl⟩

theorem begun_congr {s t : State} (c : Instr) (p : Port) (engine : t.engine = s.engine)
    (request : (t.port p).request = (s.port p).request) (taken : (t.port p).begun = (s.port p).begun) :
    begun c p t = begun c p s := by
  simp only [begun, engine, request, taken]

theorem PortOk.withFlags {u : PortUnit} (h : PortOk u) (flags : BitVec 10) : PortOk { u with flags := flags } :=
  ⟨h.idle, h.working, h.answered, h.transfer⟩

theorem ownedBy_congr {s t : State} (p : Port) (engine : t.engine = s.engine)
    (swap : t.schedule.swapPending = s.schedule.swapPending) (hold : t.link.holdPending = s.link.holdPending) :
    ownedBy p t = ownedBy p s := by
  simp only [ownedBy, engine, swap, hold]

theorem OwnersStay.portsReady {s t : State} (m : OwnersStay s t) (h : PortsReady s) : PortsReady t where
  port p := by rw [m.ports p]; exact (h.port p).withFlags _
  owner p := by
    rw [ownedBy_congr p m.engine m.swap m.hold, (m.ports.slots p).2.2]
    exact h.owner p
  lookup built := by
    rw [m.building] at built
    obtain ⟨q, hq⟩ := h.lookup built
    obtain ⟨-, request, taken⟩ := m.ports.slots q.port
    exact ⟨q, by rwa [begun_congr _ _ m.engine request taken]⟩
  missing := by rw [m.building]; exact h.missing
  parts := by rw [m.building]; exact h.parts

theorem waits_congr {s t : State} (p : Port) (state : (t.port p).state = (s.port p).state)
    (taken : (t.port p).begun = (s.port p).begun) : waits p t = waits p s := by
  simp only [waits, state, taken]

theorem OwnersStay.portsOk {s t : State} (m : OwnersStay s t) (h : PortsOk s) : PortsOk t :=
  (m.portsReady h.ready).ok fun idle p => by
    obtain ⟨state, -, taken⟩ := m.ports.slots p
    rw [waits_congr p state taken]
    exact h.prompt (m.engine ▸ idle) p

/-! ### Answers (R153, R156) -/

/-- The port `q` has its request answered, and the other port is as it was but for notices. -/
structure Answers (q : Port) (s t : State) : Prop where
  slot  : ∃ a, t.port q = { s.port q with
    state := .answered, request := none, begun := false, answer := some a, flags := (t.port q).flags }
  other : t.port (otherPort q) = { s.port (otherPort q) with flags := (t.port (otherPort q)).flags }

theorem placeAnswer_answers {s u : State} (m : SamePorts s u) {q : Port} (held : (s.port q).request.isSome = true)
    (r : Reply) : Answers q s (placeAnswer q r u) := by
  obtain ⟨f, hf⟩ := Option.isSome_iff_exists.1 held
  have hu : (u.port q).request = some f := (m.slots q).2.1.trans hf
  refine ⟨?_, ?_⟩
  · have placed : ∃ a, (placeAnswer q r u).port q =
        { u.port q with state := .answered, request := none, begun := false, answer := some a } := by
      unfold placeAnswer
      rw [hu]
      dsimp only
      split
      · exact ⟨_, State.setPort_port_same _ _ _⟩
      · exact ⟨_, (State.port_congr rfl rfl q).trans (State.setPort_port_same _ _ _)⟩
    obtain ⟨a, e⟩ := placed
    refine ⟨a, ?_⟩
    rw [e, m q]
  · rw [placeAnswer_other]
    exact m (otherPort q)

/-- A begun request is in the slot of a WORKING port. -/
theorem PortsReady.held {s : State} (h : PortsReady s) {q : Port} (taken : (s.port q).begun = true) :
    (s.port q).state = .working ∧ (s.port q).request.isSome = true := by
  have k := h.port q
  cases state : (s.port q).state with
  | idle => have := (k.idle state).2.2; rw [taken] at this; cases this
  | working => exact ⟨rfl, (k.working state).1⟩
  | answered => have := (k.answered state).2.2; rw [taken] at this; cases this

/-- A begun request answered, its owner rid of it. -/
theorem Answers.portsReady {q : Port} {s t : State} (m : Answers q s t) (h : PortsReady s)
    (taken : (s.port q).begun = true) (drop : ownedBy q t = 0)
    (keep : ownedBy (otherPort q) t = ownedBy (otherPort q) s)
    (lookup : t.building ≠ ImageBuild.empty → ∃ x, begun (.lookConverter x) x.port t = true)
    (missing : missingParts t.building ≠ [])
    (parts : ∀ (k : Fin 6) bytes, t.building.parts[k] = some bytes →
      ∃ fields, bytes = imagePart (byte (k.val + 1)) fields) : PortsReady t := by
  obtain ⟨a, slot⟩ := m.slot
  have other := m.other
  have working := (h.held taken).1
  refine ⟨fun p => ?_, fun p => ?_, lookup, missing, parts⟩
  · obtain rfl | rfl := eq_or_eq_otherPort q p
    · rw [slot]
      refine ⟨fun idle => (nomatch idle), fun w => (nomatch w), fun _ => ⟨rfl, rfl, rfl⟩, fun x hx live => ?_⟩
      obtain ⟨idle, answered⟩ := (h.port p).transfer x hx live
      refine ⟨fun found => ?_, fun found => ?_⟩
      · exact nomatch working.symm.trans (idle found)
      · exact nomatch working.symm.trans (answered found).1
    · rw [other]; exact (h.port _).withFlags _
  · obtain rfl | rfl := eq_or_eq_otherPort q p
    · rw [drop, slot]; rfl
    · rw [keep, h.owner, other]

/-- After an answer the answered port does not wait, and the other waits if it did. -/
theorem Answers.waits {q : Port} {s t : State} (m : Answers q s t) (p : Port) :
    waits p t = (decide (p ≠ q) && waits p s) := by
  obtain ⟨a, slot⟩ := m.slot
  obtain rfl | rfl := eq_or_eq_otherPort q p
  · have state : (t.port p).state = .answered := by rw [slot]
    simp [Machine.waits, state]
  · rw [waits_congr (s := s) _ (by rw [m.other]) (by rw [m.other])]
    simp

/-! ### The engine begins (R153 to R155) -/

/-- The number of ports whose requests wait. -/
def waiting (s : State) : Nat := (if waits .a s then 1 else 0) + (if waits .b s then 1 else 0)

theorem waits_of_nextPort_none {s : State} (h : nextPort s = none) (p : Port) : waits p s = false := by
  unfold nextPort at h
  by_cases other : waits (otherPort s.engine.last) s = true
  · simp [other] at h
  · by_cases last : waits s.engine.last s = true
    · simp [other, last] at h
    · obtain rfl | rfl := eq_or_eq_otherPort s.engine.last p
      · simpa using last
      · simpa using other

theorem beginPort_port (p : Port) (s : State) : (beginPort p s).port p = { s.port p with begun := true } :=
  (State.port_congr rfl rfl p).trans (State.setPort_port_same _ _ _)

/-- The engine takes up a waiting request. -/
theorem beginPort_portsReady {s : State} (h : PortsReady s) (idle : s.engine.busy = false) {p : Port}
    (wait : waits p s = true) : PortsReady (beginPort p s) := by
  simp only [waits, Bool.and_eq_true, decide_eq_true_eq, Bool.not_eq_true'] at wait
  obtain ⟨working, fresh⟩ := wait
  have slot := beginPort_port p s
  have other := beginPort_other p s
  have engine : (beginPort p s).engine = { busy := true, last := p } := rfl
  have swap : (beginPort p s).schedule.swapPending = s.schedule.swapPending := by simp
  have hold : (beginPort p s).link.holdPending = s.link.holdPending := by simp
  have building : (beginPort p s).building = s.building := by simp
  have owned (x : Port) : ownedBy x (beginPort p s) = (if p = x then 1 else 0) + ownedBy x s := by
    simp only [ownedBy, engine, swap, hold, idle]
    simp [Nat.add_assoc]
  refine ⟨fun x => ?_, fun x => ?_, fun built => ?_, by rw [building]; exact h.missing, by rw [building]; exact h.parts⟩
  · obtain rfl | rfl := eq_or_eq_otherPort p x
    · have k := h.port x
      rw [slot]
      exact ⟨fun e => (nomatch working.symm.trans e), k.working, fun e => (nomatch working.symm.trans e), k.transfer⟩
    · rw [other]; exact h.port _
  · rw [owned, h.owner]
    obtain rfl | rfl := eq_or_eq_otherPort p x
    · rw [slot]; simp [fresh]
    · rw [other]; simp [(otherPort_ne p).symm]
  · rw [building] at built
    obtain ⟨q, hq⟩ := h.lookup built
    simp [begun, idle] at hq

theorem refusalAtBegin_request {p : Port} {s : State} {r : Reply} (h : refusalAtBegin p s = some r) :
    (s.port p).request.isSome = true := by
  unfold refusalAtBegin at h
  cases e : (s.port p).request with
  | none => rw [e] at h; cases h
  | some f => rfl

/-- An engine that begins often enough leaves no request waiting (R153). -/
theorem engineBegin_portsOk {n : Nat} {s : State} (h : PortsReady s) (few : waiting s ≤ n) :
    PortsOk (engineBegin n s) := by
  induction n generalizing s with
  | zero =>
    refine h.ok fun _ p => ?_
    simp only [waiting] at few
    show waits p s = false
    cases p <;> · by_contra wait
                  simp [Bool.of_not_eq_false wait] at few
  | succ n ih =>
    unfold engineBegin
    by_cases busy : s.engine.busy = true
    · rw [if_pos busy]
      exact h.ok fun idle => nomatch busy.symm.trans idle
    rw [if_neg busy]
    split
    case h_1 none => exact h.ok fun _ => waits_of_nextPort_none none
    case h_2 p found =>
      have wait := nextPort_waits found
      have began := beginPort_portsReady h (by simpa using busy) wait
      dsimp only
      split
      case h_1 r refused =>
        have answers : Answers p (beginPort p s) (freeEngine (placeAnswer p r (beginPort p s))) :=
          have placed := placeAnswer_answers (.refl _) (refusalAtBegin_request refused) r
          ⟨placed.slot, placed.other⟩
        have taken : ((beginPort p s).port p).begun = true := by rw [beginPort_port]
        have swap : (freeEngine (placeAnswer p r (beginPort p s))).schedule.swapPending = s.schedule.swapPending := by
          simp [freeEngine]
        have hold : (freeEngine (placeAnswer p r (beginPort p s))).link.holdPending = s.link.holdPending := by
          simp [freeEngine]
        have building : (freeEngine (placeAnswer p r (beginPort p s))).building = s.building := by simp [freeEngine]
        have idle : (freeEngine (placeAnswer p r (beginPort p s))).engine.busy = false := rfl
        have idleBefore : s.engine.busy = false := by simpa using busy
        have owned (x : Port) : ownedBy x (freeEngine (placeAnswer p r (beginPort p s))) = ownedBy x s := by
          simp only [ownedBy, swap, hold, idle, idleBefore]
          simp
        have waits' := answers.waits
        have fresh : (s.port p).begun = false := by
          simp only [waits, Bool.and_eq_true, Bool.not_eq_true'] at wait
          exact wait.2
        have empty : s.building = ImageBuild.empty := by
          by_contra built
          obtain ⟨q, hq⟩ := h.lookup built
          simp [begun, idleBefore] at hq
        refine ih (answers.portsReady began taken ?_ ?_ ?_ ?_ ?_) ?_
        · rw [owned, h.owner, fresh]; rfl
        · rw [owned, h.owner, began.owner, beginPort_other]
        · rw [building]; exact fun built => absurd empty built
        · rw [building]; exact h.missing
        · rw [building]; exact h.parts
        · have rest : waits (otherPort p) (beginPort p s) = waits (otherPort p) s :=
            waits_congr _ (by rw [beginPort_other]) (by rw [beginPort_other])
          simp only [waiting, waits'] at few ⊢
          cases p
          · rw [wait] at few
            simp only [otherPort] at rest
            rw [if_pos rfl] at few
            simp [rest]
            omega
          · rw [wait] at few
            simp only [otherPort] at rest
            rw [if_pos rfl] at few
            simp [rest]
            omega
      case h_2 => exact began.ok fun idle => nomatch idle

theorem waiting_le (s : State) : waiting s ≤ 2 := by
  unfold waiting; split <;> split <;> omega

/-! ### Frames that arrive and transfers (R151, R152) -/

/-- A frame taken into the slot of a port that is not WORKING, while no transfer of the port is in progress. -/
theorem acceptFrame_portsOk {s : State} (h : PortsReady s) {p : Port} (free : (s.port p).state ≠ .working)
    (quiet : (s.port p).transfer = none) (f : Frame) : PortsOk (acceptFrame p f s) := by
  refine engineBegin_portsOk ?_ (waiting_le _)
  have fresh : (s.port p).begun = false := by
    by_contra taken
    exact free (h.held (by simpa using taken)).1
  have slot := State.setPort_port_same s p
    { s.port p with state := .working, request := some f, begun := false, answer := none, refused := false }
  have other := State.setPort_port_other s p
    { s.port p with state := .working, request := some f, begun := false, answer := none, refused := false }
  generalize e : s.setPort p { s.port p with state := .working, request := some f, begun := false, answer := none, refused := false } = t at slot other ⊢
  have engine : t.engine = s.engine := by rw [← e]; simp
  have building : t.building = s.building := by rw [← e]; simp
  have owned (x : Port) : ownedBy x t = ownedBy x s :=
    ownedBy_congr x engine (by rw [← e]; simp) (by rw [← e]; simp)
  refine ⟨fun x => ?_, fun x => ?_, fun built => ?_, by rw [building]; exact h.missing, by rw [building]; exact h.parts⟩
  · obtain rfl | rfl := eq_or_eq_otherPort p x
    · rw [slot]
      exact ⟨fun e => (nomatch e), fun _ => ⟨rfl, rfl⟩, fun e => (nomatch e), fun x hx => nomatch quiet.symm.trans hx⟩
    · rw [other]; exact h.port _
  · rw [owned, h.owner]
    obtain rfl | rfl := eq_or_eq_otherPort p x
    · rw [slot, fresh]
    · rw [other]
  · rw [building] at built
    obtain ⟨q, hq⟩ := h.lookup built
    have elsewhere : q.port ≠ p := fun same => by
      simp [begun, same, fresh] at hq
    obtain same | same := eq_or_eq_otherPort p q.port
    · exact absurd same elsewhere
    · refine ⟨q, ?_⟩
      rw [begun_congr (s := s) _ _ engine (by rw [same, other]) (by rw [same, other])]
      exact hq

/-- A port changed that goes on, or goes on not, WORKING at the same request. -/
theorem setPort_portsOk {s : State} (h : PortsOk s) {p : Port} {u : PortUnit} (ok : PortOk u)
    (state : u.state = .working ↔ (s.port p).state = .working) (request : u.request = (s.port p).request)
    (taken : u.begun = (s.port p).begun) : PortsOk (s.setPort p u) := by
  have slots (x : Port) : (((s.setPort p u).port x).state = .working ↔ (s.port x).state = .working) ∧
      ((s.setPort p u).port x).request = (s.port x).request ∧ ((s.setPort p u).port x).begun = (s.port x).begun := by
    rw [State.setPort_port]
    split
    case isTrue same => subst same; exact ⟨state, request, taken⟩
    case isFalse => exact ⟨.rfl, rfl, rfl⟩
  refine ⟨fun x => ?_, fun x => ?_, fun idle x => ?_, fun built => ?_, by simpa using h.missing, by simpa using h.parts⟩
  · rw [State.setPort_port]
    split
    · exact ok
    · exact h.port x
  · rw [ownedBy_congr (s := s) x (by simp) (by simp) (by simp), (slots x).2.2]
    exact h.owner x
  · have before := h.prompt (by simpa using idle) x
    obtain ⟨working, -, taken⟩ := slots x
    simpa only [waits, working, taken] using before
  · obtain ⟨q, hq⟩ := h.lookup (by simpa using built)
    exact ⟨q, by rwa [begun_congr (s := s) _ _ (by simp) (slots q.port).2.1 (slots q.port).2.2]⟩

theorem startTransfer_portsOk {s : State} (h : PortsOk s) (p : Port) : PortsOk (startTransfer p s) := by
  unfold startTransfer
  dsimp only
  split
  · exact h
  · have k := h.port p
    refine setPort_portsOk h ⟨k.idle, k.working, k.answered, fun x hx _ => ?_⟩ .rfl rfl rfl
    cases hx
    exact ⟨id, fun found => ⟨found, rfl⟩⟩

theorem endTransfer_portsOk {s : State} (h : PortsOk s) (p : Port) (sent : List Byte) :
    PortsOk (endTransfer p sent s) := by
  unfold endTransfer
  dsimp only
  split
  case h_1 => exact h
  case h_2 x found =>
    have k := h.port p
    have ended : PortsOk (s.setPort p { s.port p with transfer := none, shiftedOut := shifted x sent.length }) :=
      setPort_portsOk h ⟨k.idle, k.working, k.answered, fun _ absent => nomatch absent⟩ .rfl rfl rfl
    have slot := State.setPort_port_same s p { s.port p with transfer := none, shiftedOut := shifted x sent.length }
    split
    case isTrue => exact ended
    case isFalse live =>
      have live : x.discard = false := by simpa using live
      obtain ⟨idle, answered⟩ := k.transfer x found live
      generalize s.setPort p { s.port p with transfer := none, shiftedOut := shifted x sent.length } = t at ended slot ⊢
      have k := ended.port p
      split
      case h_1 => exact setPort_portsOk ended ⟨k.idle, k.working, k.answered, k.transfer⟩ .rfl rfl rfl
      case h_2 notWorking =>
        refine acceptFrame_portsOk ended.ready (fun working => ?_) (by rw [slot]) _
        rw [slot] at working
        cases state : x.found with
        | idle => exact nomatch working.symm.trans (idle state)
        | working => exact notWorking state
        | answered => exact nomatch working.symm.trans (answered state).1
      case h_3 _ foundAnswered =>
        split
        case isTrue =>
          have state : (t.port p).state = .answered := by rw [slot]; exact (answered foundAnswered).1
          obtain ⟨request, -, taken⟩ := k.answered state
          refine setPort_portsOk ended ⟨fun _ => ⟨request, rfl, taken⟩, fun e => (nomatch e), fun e => (nomatch e),
            fun y hy => ?_⟩ (by simp [state]) rfl rfl
          rw [slot] at hy; cases hy
        case isFalse => exact ended
      case h_4 => exact ended

theorem transferEvent_portsOk {s : State} (h : PortsOk s) (p : Port) (part : TransferPart) :
    PortsOk (transferEvent p part s) := by
  unfold transferEvent
  split
  · exact startTransfer_portsOk h p
  · exact endTransfer_portsOk h p _
  · split
    · exact h
    · exact endTransfer_portsOk (startTransfer_portsOk h p) p _

theorem sendFrame_portsOk {s : State} (h : PortsOk s) (p : Port) (f : Frame) : PortsOk (sendFrame p f s) := by
  unfold sendFrame
  split
  · exact h
  case isFalse quiet =>
    split
    · have k := h.port p
      exact setPort_portsOk h ⟨k.idle, k.working, k.answered, k.transfer⟩ .rfl rfl rfl
    case isFalse free => exact acceptFrame_portsOk h.ready free (by simpa using quiet) f

theorem Sent.portsOk {s u : State} (m : Sent s u) (h : PortsOk s) : PortsOk u := by
  obtain rfl | ⟨p, f, rfl⟩ := m
  · exact h
  · exact sendFrame_portsOk h p f

end Sys2Proof.Machine

/-! Ports, engine and owners of requests over every step (R151 to R157). -/

namespace Sys2Proof.Machine

/-! ### Owners that answer (R69, R113) -/

/-- An owner other than the engine, rid of its request, answers it. -/
theorem portsOk_of_ownerAnswer {s u : State} (h : PortsOk s) (ports : SamePorts s u) (engine : u.engine = s.engine)
    (building : u.building = s.building) {q : Port} (sum : ∀ x, ownedBy x s = ownedBy x u + if x = q then 1 else 0)
    (r : Reply) : PortsOk (placeAnswer q r u) := by
  have taken : (s.port q).begun = true := by
    by_contra fresh
    have := h.owner q
    rw [if_neg fresh, sum q, if_pos rfl] at this
    cases this
  have drop : ownedBy q u = 0 := by
    have := h.owner q
    rw [if_pos taken, sum q, if_pos rfl] at this
    exact Nat.succ.inj this
  have keep : ownedBy (otherPort q) u = ownedBy (otherPort q) s := by
    rw [sum, if_neg (otherPort_ne q)]; rfl
  have owned (x : Port) : ownedBy x (placeAnswer q r u) = ownedBy x u :=
    ownedBy_congr x (by simp) (by simp) (by simp)
  have answers := placeAnswer_answers ports (h.ready.held taken).2 r
  have image : (placeAnswer q r u).building = s.building := by simpa using building
  have sameEngine : (placeAnswer q r u).engine = s.engine := by simpa using engine
  refine (answers.portsReady h.ready taken ((owned _).trans drop) ((owned _).trans keep) (fun built => ?_)
    (by rw [image]; exact h.missing) (by rw [image]; exact h.parts)).ok fun idle p => ?_
  · obtain ⟨x, hx⟩ := h.lookup (image ▸ built)
    refine ⟨x, ?_⟩
    have elsewhere : x.port ≠ q := fun same => by
      simp only [begun, Bool.and_eq_true, decide_eq_true_eq] at hx
      obtain ⟨⟨⟨busy, last⟩, -⟩, -⟩ := hx
      rw [same] at last
      simp [ownedBy, engine, busy, last] at drop
    obtain same | same := eq_or_eq_otherPort q x.port
    · exact absurd same elsewhere
    · have other := answers.other
      rw [begun_congr (s := s) _ _ sameEngine (by rw [same, other]) (by rw [same, other])]
      exact hx
  · rw [answers.waits, h.prompt (sameEngine ▸ idle)]
    simp

theorem makePendingSwap_portsOk {s : State} (h : PortsOk s) : PortsOk (makePendingSwap s) := by
  unfold makePendingSwap
  split
  case h_1 p pending =>
    have none : (makeSwap s).schedule.swapPending = none := by
      simp only [makeSwap, swapPages]; split <;> rfl
    have ports : SamePorts s (makeSwap s) :=
      .trans (t := { s with schedule := swapPages s.schedule }) (.of_eq rfl rfl) (setNotice_samePorts _ _)
    refine portsOk_of_ownerAnswer (u := makeSwap s) h ports rfl rfl (fun x => ?_) _
    have engine : (makeSwap s).engine = s.engine := rfl
    have hold : (makeSwap s).link.holdPending = s.link.holdPending := rfl
    simp only [ownedBy, engine, hold, pending, none]
    by_cases same : x = p
    · simp [same, Nat.add_right_comm]
    · simp [same, Ne.symm same]
  case h_2 => exact h

theorem holdOr_portsOk {s : State} (h : PortsOk s) (kept : Option Poll) {go : State → State}
    (goes : s.link.holdPending = none → OwnersStay s (go s)) : PortsOk (holdOr kept go s) := by
  cases pending : s.link.holdPending with
  | none => rw [holdOr_of_none pending]; exact (goes pending).portsOk h
  | some q =>
    rw [holdOr_of_hold pending]
    refine portsOk_of_ownerAnswer (u := becomeHeld kept s) h (.of_eq rfl rfl) rfl rfl (fun x => ?_) _
    have engine : (becomeHeld kept s).engine = s.engine := rfl
    have swap : (becomeHeld kept s).schedule.swapPending = s.schedule.swapPending := rfl
    have none : (becomeHeld kept s).link.holdPending = none := rfl
    simp only [ownedBy, engine, swap, pending, none]
    by_cases same : x = q
    · simp [same]
    · simp [same, Ne.symm same]

theorem becomeIdle_owners {s : State} (hold : s.link.holdPending = none) : OwnersStay s (becomeIdle s) :=
  ⟨.of_eq rfl rfl, rfl, rfl, hold.symm, rfl⟩

theorem becomeHeld_owners {s : State} (hold : s.link.holdPending = none) (kept : Option Poll) :
    OwnersStay s (becomeHeld kept s) := ⟨.of_eq rfl rfl, rfl, rfl, hold.symm, rfl⟩

/-! ### The link's operations -/

theorem setNotice_owners (n : Notice) (s : State) : OwnersStay s (setNotice n s) :=
  ⟨setNotice_samePorts n s, rfl, rfl, rfl, rfl⟩

theorem countMismatch_owners (s : State) : OwnersStay s (countMismatch s) :=
  .trans (t := { s with link := { s.link with mismatches := saturate 255 s.link.mismatches } })
    ⟨.of_eq rfl rfl, rfl, rfl, rfl, rfl⟩ (setNotice_owners _ _)

theorem overrun_owners (s : State) : OwnersStay s (overrun s) :=
  .trans (t := { s with link := { s.link with overruns := saturate 255 s.link.overruns } })
    ⟨.of_eq rfl rfl, rfl, rfl, rfl, rfl⟩ (setNotice_owners _ _)

theorem tellEnded_owners (p : Poll) (s : State) : OwnersStay s (tellEnded p s) :=
  ⟨.of_eq (by simp) (by simp), by simp, by simp, by simp, by simp⟩

theorem sendExpectation_owners (s : State) : OwnersStay s (sendExpectation s) := by
  unfold sendExpectation
  split <;> exact ⟨.of_eq rfl rfl, rfl, rfl, rfl, rfl⟩

theorem enterInterval_owners (s : State) : OwnersStay s (enterInterval s) := by
  unfold enterInterval
  split
  · exact sendExpectation_owners s
  · exact ⟨.of_eq rfl rfl, rfl, rfl, rfl, rfl⟩

theorem cutPoll_portsOk {s : State} (h : PortsOk s) (p : Poll) : PortsOk (cutPoll p s) := by
  have told : OwnersStay s (tellCut p s) := ⟨.of_eq rfl rfl, rfl, rfl, rfl, rfl⟩
  exact holdOr_portsOk (told.portsOk h) none becomeIdle_owners

theorem completePoll_portsOk {s : State} (h : PortsOk s) (p : Poll) : PortsOk (completePoll p s) := by
  have told := tellEnded_owners p s
  have counted : OwnersStay s
      { tellEnded p s with link := { (tellEnded p s).link with failures := 0, down := false } } :=
    told.trans ⟨.of_eq rfl rfl, rfl, rfl, rfl, rfl⟩
  unfold completePoll
  dsimp only
  refine holdOr_portsOk (OwnersStay.portsOk ?_ h) none becomeIdle_owners
  split
  · exact counted.trans (setNotice_owners _ _)
  · exact counted

theorem abortPoll_portsOk {s : State} (h : PortsOk s) (p : Poll) : PortsOk (abortPoll p s) := by
  have counted (l : Link) (e : l.holdPending = s.link.holdPending) : OwnersStay s { s with link := l } :=
    ⟨.of_eq rfl rfl, rfl, rfl, e, rfl⟩
  have noticed (l : Link) (e : l.holdPending = s.link.holdPending) : OwnersStay s (setNotice .link { s with link := l }) :=
    (counted l e).trans (setNotice_owners _ _)
  unfold abortPoll
  dsimp only
  refine holdOr_portsOk (OwnersStay.portsOk (.trans ?_ (tellEnded_owners p _)) h) none becomeIdle_owners
  split
  · exact noticed _ rfl
  · exact counted _ rfl

theorem goOn_portsOk {s : State} (h : PortsOk s) (p : Poll) : PortsOk (goOn p s) := by
  unfold goOn
  split
  · exact completePoll_portsOk h p
  · split
    · exact cutPoll_portsOk h p
    · exact holdOr_portsOk h (some p) fun _ => enterInterval_owners s

theorem commitTally_owners (v : Valve) (y : Tally) (origin : UnfitOrigin) (s : State) :
    OwnersStay s (commitTally v y origin s) := by
  refine ⟨?_, by simp, by simp, by simp, by simp⟩
  have stored : SamePorts s (s.setTally v y) := .of_eq rfl rfl
  unfold commitTally
  dsimp only
  split
  · exact stored
  · have noticed := stored.trans (setNotice_samePorts .grade _)
    split
    · exact noticed.trans (unfitEntry_samePorts v origin _)
    · exact noticed

theorem commitRecord_owners (v : Valve) (p : Position) (new : LevelRecord) (origin : UnfitOrigin) (s : State) :
    OwnersStay s (commitRecord v p new origin s) := by
  have stored (r : LevelRecord) : OwnersStay s (s.setRecord v p r) := ⟨.of_eq rfl rfl, rfl, rfl, rfl, rfl⟩
  unfold commitRecord
  dsimp only
  split
  · exact ((stored _).trans (setNotice_owners .level _)).trans (commitTally_owners v _ origin _)
  · exact stored new

theorem offerCheck_owners (v : Valve) (p : Position) (s : State) : OwnersStay s (offerCheck v p s) := by
  unfold offerCheck
  split
  · exact ⟨.of_eq rfl rfl, rfl, rfl, rfl, rfl⟩
  · exact setNotice_owners _ _

theorem takenWord_owners (p : Poll) (w : Word16) (s : State) : OwnersStay s (takenWord p w s) := by
  unfold takenWord
  split
  case h_1 res _ =>
    obtain same | ⟨-, u, hu, made⟩ := applyResult_cases res s
    · rw [same]; exact .refl s
    have claimed : OwnersStay s u := hu ▸ commitRecord_owners _ _ _ _ s
    obtain made | made := made <;> rw [made]
    · exact claimed
    · exact claimed.trans (offerCheck_owners _ _ u)
  case h_2 => exact countMismatch_owners s

theorem resultWord_portsOk {s : State} (h : PortsOk s) (w : Word16) : PortsOk (resultWord w s) := by
  obtain e | ⟨p, -, -, e⟩ := resultWord_cases w s <;> rw [e]
  · exact (overrun_owners s).portsOk h
  · have taken := takenWord_owners p w s
    have moved : OwnersStay (takenWord p w s) (withPoll (processed p) (takenWord p w s)) :=
      ⟨.of_eq rfl rfl, rfl, rfl, rfl, rfl⟩
    exact goOn_portsOk ((taken.trans moved).portsOk h) (processed p)

theorem setVmuFault_owners (v : Valve) (b : Bool) (s : State) : OwnersStay s (setVmuFault v b s) := by
  have flagged : OwnersStay s { s with link := { s.link with vmuFault := put s.link.vmuFault v b } } :=
    ⟨.of_eq rfl rfl, rfl, rfl, rfl, rfl⟩
  unfold setVmuFault
  dsimp only
  split
  · exact flagged.trans (setNotice_owners _ _)
  · exact flagged

theorem handBlocking_owners (p : Poll) (b : Bool) (s : State) : OwnersStay s (handBlocking p b s) :=
  ⟨.of_eq (by simp) (by simp), by simp, by simp, by simp, by simp⟩

theorem replyHeader_portsOk {s : State} (h : PortsOk s) (w : Word16) : PortsOk (replyHeader w s) := by
  unfold replyHeader
  split
  case h_1 p _ _ =>
    split
    · have accepted := (handBlocking_owners p (replyBlocking w) s).trans
        (setVmuFault_owners p.valve (replyFault w) (handBlocking p (replyBlocking w) s))
      unfold acceptHeader
      dsimp only
      split
      · exact cutPoll_portsOk (accepted.portsOk h) p
      · exact (accepted.trans (enterInterval_owners _)).portsOk h
    · exact (countMismatch_owners s).portsOk h
  case h_2 => exact (overrun_owners s).portsOk h

theorem receive_portsOk {s : State} (h : PortsOk s) (f : BitVec 20) : PortsOk (receive f s) := by
  unfold receive
  split
  · exact replyHeader_portsOk h _
  · split
    · exact resultWord_portsOk h _
    · exact (countMismatch_owners s).portsOk h

theorem awaitedTimeout_portsOk {s : State} (h : PortsOk s) (awaiting : LinkState) :
    PortsOk (awaitedTimeout awaiting s) := by
  unfold awaitedTimeout
  split
  · split
    · exact abortPoll_portsOk h _
    · exact h
  · exact h

/-- Only in EXCHANGE is a hold pending (R69). -/
theorem LinkOk.noHold {s : State} (h : LinkOk s) (state : s.link.state ≠ .exchange) : s.link.holdPending = none := by
  by_contra pending
  exact state (h.hold (Option.isSome_iff_ne_none.2 pending))

theorem requestCut_portsOk {s : State} (h : PortsOk s) (noHold : s.link.state = .held → s.link.holdPending = none) :
    PortsOk (requestCut s) := by
  unfold requestCut
  split
  case h_1 p _ =>
    split
    · split
      case h_1 | h_2 =>
        have marked : OwnersStay s { s with link := { s.link with cutPending := true } } :=
          ⟨.of_eq rfl rfl, rfl, rfl, rfl, rfl⟩
        exact marked.portsOk h
      case h_3 => exact cutPoll_portsOk h p
      case h_4 held =>
        have told : OwnersStay s (tellCut p s) := ⟨.of_eq rfl rfl, rfl, rfl, rfl, rfl⟩
        exact (told.trans (becomeHeld_owners (s := tellCut p s) (noHold held) none)).portsOk h
      case h_5 => exact h
    · exact h
  case h_2 => exact h

theorem supersede_owners (v : Valve) (s : State) : OwnersStay s (supersede v s) := by
  unfold supersede
  split
  · split
    · exact ⟨.of_eq rfl rfl, rfl, rfl, rfl, rfl⟩
    · exact .refl s
  · exact .refl s

theorem joinCycle_portsOk {s : State} (h : PortsOk s) (noHold : s.link.state = .held → s.link.holdPending = none)
    (v : Valve) : PortsOk (joinCycle v s) := by
  have changed (c : Sources) : OwnersStay s { s with sources := c } := ⟨.of_eq rfl rfl, rfl, rfl, rfl, rfl⟩
  unfold joinCycle
  split
  · exact (changed _).portsOk h
  · exact requestCut_portsOk ((changed _).portsOk h) noHold

theorem takeCheckPoint_portsOk {s : State} (h : PortsOk s) (polls : PollsOk s) (v : Valve) :
    PortsOk (takeCheckPoint s v) := by
  have cleared : OwnersStay s { s with sources := { s.sources with armed := put s.sources.armed v none } } :=
    ⟨.of_eq rfl rfl, rfl, rfl, rfl, rfl⟩
  have clearedPolls : PollsOk { s with sources := { s.sources with armed := put s.sources.armed v none } } :=
    polls.of_link rfl rfl rfl rfl rfl rfl rfl
  unfold takeCheckPoint
  generalize { s with sources := { s.sources with armed := put s.sources.armed v none } } = u at cleared clearedPolls ⊢
  unfold checkPoint
  split
  · exact joinCycle_portsOk ((cleared.trans (supersede_owners v u)).portsOk h)
      (fun held => (supersede_pollsOk clearedPolls v).link.noHold (by rw [held]; decide)) v
  · exact cleared.portsOk h

/-! ### Step events and changes of lock state -/

theorem cycleStartWork_portsOk {s : State} (h : PortsOk s) : PortsOk (cycleStartWork s) := by
  have swapped : PortsOk (swapAtCycleStart s) := by
    unfold swapAtCycleStart
    split
    · exact makePendingSwap_portsOk h
    · exact h
  generalize e : swapAtCycleStart s = u at swapped
  have worked : OwnersStay u (sequencerCycleWork u) :=
    ⟨sequencerCycleWork_samePorts u, by simp, by simp, by simp, by simp⟩
  have ticked : OwnersStay (sequencerCycleWork u) (sweepTick (sequencerCycleWork u)) :=
    ⟨.of_eq (by simp) (by simp), by simp, by simp, by simp, by simp⟩
  unfold cycleStartWork
  rw [e]
  exact (worked.trans ticked).portsOk swapped

theorem fireValve_owners (v : Valve) (s : State) : OwnersStay s (fireValve v s) :=
  ⟨.of_eq (by simp) (by simp), by simp, by simp, by simp, by simp⟩

theorem stepEvent_portsOk {s : State} (h : PortsOk s) (polls : PollsOk s) : PortsOk (stepEvent s) := by
  by_cases counting : s.phase.counting = true
  · rw [stepEvent_eq counting]
    have moved : OwnersStay s { s with phase := advancePhase s.phase } := ⟨.of_eq rfl rfl, rfl, rfl, rfl, rfl⟩
    have movedPolls : PollsStay s { s with phase := advancePhase s.phase } := .of_sources rfl rfl rfl
    have worked : PortsOk (stepWork s) ∧ PollsOk (stepWork s) := by
      unfold stepWork
      split
      · refine ⟨?_, cycleStartWork_pollsOk (movedPolls.pollsOk polls)⟩
        exact cycleStartWork_portsOk (moved.portsOk h)
      · exact ⟨moved.portsOk h, movedPolls.pollsOk polls⟩
    generalize stepWork s = u at worked ⊢
    have settled : OwnersStay u (settleTrip u) := ⟨.of_eq rfl rfl, rfl, rfl, rfl, rfl⟩
    have settledPolls : PollsStay u (settleTrip u) := .of_sources rfl rfl rfl
    have checked : PortsOk (checkPoints (passedNext s.phase) s.sources.armed (settleTrip u)) ∧
        PollsOk (checkPoints (passedNext s.phase) s.sources.armed (settleTrip u)) :=
      foldl_preserves (P := fun t => PortsOk t ∧ PollsOk t) (f := takeCheckPoint)
        (fun _ v k => ⟨takeCheckPoint_portsOk k.1 k.2 v, takeCheckPoint_pollsOk k.2 v⟩) _
        ⟨settled.portsOk worked.1, settledPolls.pollsOk worked.2⟩
    generalize checkPoints (passedNext s.phase) s.sources.armed (settleTrip u) = w at checked ⊢
    have judged : OwnersStay w (bypassPart s.seq.conv (passedNext s.phase).length (judgeWindows (passedNext s.phase) w)) :=
      ⟨.of_eq (by simp) (by simp), by simp, by simp, by simp, by simp⟩
    exact judged.portsOk checked.1
  · rw [stepEvent_stopped counting]; exact h

theorem changeLock_portsOk {s : State} (h : PortsOk s) (f : Phase) (new : Lock) :
    PortsOk (changeLock new { s with phase := f }) := by
  have noticed : OwnersStay s (setNotice .phase { s with phase := { f with lock := new } }) :=
    .trans (t := { s with phase := { f with lock := new } }) ⟨.of_eq rfl rfl, rfl, rfl, rfl, rfl⟩ (setNotice_owners _ _)
  have told (t : State) : OwnersStay t (sequencerLockChange new t) :=
    ⟨sequencerLockChange_samePorts new t, by simp, by simp, by simp, by simp⟩
  have scheduled {t : State} (k : PortsOk t) (old : Lock) : PortsOk (scheduleLockChange old new t) := by
    unfold scheduleLockChange
    split
    · exact makePendingSwap_portsOk k
    · exact k
  have sources {t : State} (k : PortsOk t) : PortsOk (sourcesLockChange new t) := by
    have cleared : OwnersStay t (clearArmed t) := ⟨.of_eq rfl rfl, rfl, rfl, rfl, rfl⟩
    unfold sourcesLockChange
    split
    · exact cleared.portsOk k
    · exact cleared.portsOk k
    · exact k
  exact sources (scheduled ((noticed.trans (told _)).portsOk h) _)

theorem LockMove.portsOk {s t : State} (m : LockMove s t) (h : PortsOk s) : PortsOk t := by
  cases m with
  | stay f _ =>
    have moved : OwnersStay s { s with phase := f } := ⟨.of_eq rfl rfl, rfl, rfl, rfl, rfl⟩
    exact moved.portsOk h
  | change new f _ _ => exact changeLock_portsOk h f new

theorem expireTimes_portsOk {s : State} (h : PortsOk s) (n : Nat) : PortsOk (expireTimes n s) := by
  induction n generalizing s with
  | zero => exact h
  | succ n ih => exact ih ((missedCrossing_lockMove s).portsOk h)

theorem referenceCrossing_portsOk {s : State} (h : PortsOk s) (since : Nat) : PortsOk (referenceCrossing since s) :=
  (takeCrossing_lockMove _ _).portsOk (expireTimes_portsOk h _)

/-! ### Resets (R162, R163) -/

theorem resetPort_ok {keep : Bool} {u : PortUnit} (answer : keep = true → u.answer.isSome = true) :
    PortOk (resetPort keep u) := by
  refine ⟨fun idle => ?_, fun working => ?_, fun answered => ?_, fun x hx live => ?_⟩
  · cases keep
    · exact ⟨rfl, rfl, rfl⟩
    · cases idle
  · cases keep <;> cases working
  · cases keep
    · cases answered
    · exact ⟨rfl, answer rfl, rfl⟩
  · simp only [resetPort, Option.map_eq_some_iff] at hx
    obtain ⟨y, -, rfl⟩ := hx
    cases live

theorem controlReset_portsOk (keep : Option Port) {s : State}
    (answer : ∀ p, keep = some p → (s.port p).answer.isSome = true) : PortsOk (controlReset keep s) := by
  have slot (p : Port) : (controlReset keep s).port p = resetPort (decide (keep = some p)) (s.port p) := by
    cases p <;> rfl
  refine ⟨fun p => ?_, fun p => ?_, fun _ p => ?_, fun built => absurd rfl built, ?_, ?_⟩
  · rw [slot]
    exact resetPort_ok fun kept => answer p (by simpa using kept)
  · rw [slot]; rfl
  · simp only [waits, slot]
    by_cases kept : keep = some p <;> simp [resetPort, kept]
  · show missingParts ImageBuild.empty ≠ []
    decide
  · intro k bytes found
    have empty : ImageBuild.empty.parts[k] = none := by simp [ImageBuild.empty]
    exact nomatch empty.symm.trans found

theorem reset_portsOk : PortsOk State.reset where
  port p := by cases p <;> constructor <;> decide
  owner p := by cases p <;> rfl
  prompt _ p := by cases p <;> rfl
  lookup built := absurd rfl built
  missing := by decide
  parts k bytes found := by
    have empty : State.reset.building.parts[k] = none := by simp [State.reset, ImageBuild.empty]
    exact nomatch empty.symm.trans found

end Sys2Proof.Machine

/-! Ports, engine and owners of requests through the executions of requests, and over every step (R153 to R157). -/

namespace Sys2Proof.Machine

/-! ### How a claim ends -/

/-- A claim from a port ends with its reply, with engine and image as they were, or leaves its request to the schedule or
to the link, which had none (R69, R112). -/
inductive ClaimEnds (p : Port) (s : State) : State × Option Reply → Prop
  | answers (v : State) (r : Reply) (ports : PortsOk v) (engine : v.engine = s.engine)
      (building : v.building = s.building) : ClaimEnds p s (v, some r)
  | swap (free : s.schedule.swapPending = none) :
      ClaimEnds p s ({ s with schedule := { s.schedule with swapPending := some p } }, none)
  | hold (free : s.link.holdPending = none) :
      ClaimEnds p s ({ s with link := { s.link with holdPending := some p } }, none)

theorem OwnersStay.ends {p : Port} {s v : State} (m : OwnersStay s v) (h : PortsOk s) (r : Reply) :
    ClaimEnds p s (v, some r) := .answers v r (m.portsOk h) m.engine m.building

theorem PortsOk.ends {p : Port} {s : State} (h : PortsOk s) (r : Reply) : ClaimEnds p s (s, some r) :=
  (OwnersStay.refl s).ends h r

/-- A claim that always replies ends so, where ports, owners and image stay. -/
theorem ClaimEnds.of_stay {p : Port} {s : State} {done : State × Option Reply} (replies : done.2.isSome = true)
    (ports : PortsOk done.1) (engine : done.1.engine = s.engine) (building : done.1.building = s.building) :
    ClaimEnds p s done := by
  obtain ⟨v, r⟩ := done
  obtain ⟨r, rfl⟩ := Option.isSome_iff_exists.1 replies
  exact .answers v r ports engine building

/-- What an engine that executes a request of a port owns, and nobody else does (R153). -/
theorem PortsOk.executing {s : State} (h : PortsOk s) {p : Port} (engine : s.engine = { busy := true, last := p }) :
    (s.port p).begun = true ∧ s.schedule.swapPending ≠ some p ∧ s.link.holdPending ≠ some p := by
  have owner := h.owner p
  simp only [ownedBy, engine] at owner
  by_cases taken : (s.port p).begun = true
  · refine ⟨taken, fun swap => ?_, fun hold => ?_⟩
    · simp [taken, swap] at owner
      omega
    · simp [taken, hold] at owner
  · simp [taken] at owner

/-- A request handed from the engine to another owner. -/
theorem portsReady_of_handed {s t : State} (h : PortsOk s) (ports : ∀ x, t.port x = s.port x)
    (owners : ∀ x, ownedBy x t = ownedBy x s) (empty : t.building = ImageBuild.empty) : PortsReady t := by
  refine ⟨fun x => by rw [ports]; exact h.port x, fun x => by rw [owners, ports]; exact h.owner x,
    fun built => absurd empty built, by rw [empty]; decide, fun k bytes found => ?_⟩
  rw [empty] at found
  have none : ImageBuild.empty.parts[k] = none := by simp [ImageBuild.empty]
  exact nomatch none.symm.trans found

/-- The end of an execution whose image, if any, is built (R153). -/
theorem ClaimEnds.conclude {p : Port} {s : State} {done : State × Option Reply} (m : ClaimEnds p s done)
    (h : PortsOk s) (engine : s.engine = { busy := true, last := p }) (empty : s.building = ImageBuild.empty) :
    PortsOk (conclude p done) := by
  refine engineBegin_portsOk ?_ (waiting_le _)
  cases m with
  | answers v r ports sameEngine building =>
    have running : v.engine = { busy := true, last := p } := sameEngine.trans engine
    obtain ⟨taken, swap, hold⟩ := ports.executing running
    have placed := placeAnswer_answers (.refl v) (ports.ready.held taken).2 r
    have answers : Answers p v (freeEngine (placeAnswer p r v)) := ⟨placed.slot, placed.other⟩
    have sameSwap : (freeEngine (placeAnswer p r v)).schedule.swapPending = v.schedule.swapPending := by simp [freeEngine]
    have sameHold : (freeEngine (placeAnswer p r v)).link.holdPending = v.link.holdPending := by simp [freeEngine]
    have built : (freeEngine (placeAnswer p r v)).building = ImageBuild.empty := by
      simpa [freeEngine] using building.trans empty
    have idle : (freeEngine (placeAnswer p r v)).engine.busy = false := rfl
    refine answers.portsReady ports.ready taken ?_ ?_ (fun k => absurd built k) ?_ ?_
    · simp only [ownedBy, idle, sameSwap, sameHold, swap, hold]
      rfl
    · simp only [ownedBy, idle, sameSwap, sameHold, running]
      simp [(otherPort_ne p).symm]
    · rw [built]; decide
    · intro k bytes found
      rw [built] at found
      have none : ImageBuild.empty.parts[k] = none := by simp [ImageBuild.empty]
      exact nomatch none.symm.trans found
  | swap free =>
    generalize e : freeEngine { s with schedule := { s.schedule with swapPending := some p } } = t
    have idle : t.engine.busy = false := by rw [← e]; rfl
    have swap : t.schedule.swapPending = some p := by rw [← e]; rfl
    have hold : t.link.holdPending = s.link.holdPending := by rw [← e]; rfl
    refine portsReady_of_handed h (fun _ => by rw [← e]; exact State.port_congr rfl rfl _) (fun x => ?_)
      (by rw [← e]; exact empty)
    simp only [ownedBy, idle, swap, hold, engine, free]
    simp
  | hold free =>
    generalize e : freeEngine { s with link := { s.link with holdPending := some p } } = t
    have idle : t.engine.busy = false := by rw [← e]; rfl
    have swap : t.schedule.swapPending = s.schedule.swapPending := by rw [← e]; rfl
    have hold : t.link.holdPending = some p := by rw [← e]; rfl
    refine portsReady_of_handed h (fun _ => by rw [← e]; exact State.port_congr rfl rfl _) (fun x => ?_)
      (by rw [← e]; exact empty)
    simp only [ownedBy, idle, swap, hold, engine, free]
    simp [Nat.add_comm]

/-! ### The claims -/

theorem changeClaim_ends {p : Port} {s : State} (h : PortsOk s) (v : Valve) (x : Position) (e : Option Word16)
    (k : Change) : ClaimEnds p s (changeClaim v x e k s) := by
  refine .of_stay ?_ ?_ (by simp) (by simp)
  · unfold changeClaim
    dsimp only
    repeat' split
    all_goals rfl
  · obtain same | ⟨-, -, -, made⟩ := changeClaim_cases v x e k s
    · rw [same]; exact h
    · rw [made]; exact (commitRecord_owners v x _ .change s).portsOk h

theorem keyedChange_ends {p : Port} {s : State} (h : PortsOk s) (valve position : Byte) (e : Option Word16)
    (k : Change) : ClaimEnds p s (keyedChange valve position e k s) := by
  unfold keyedChange
  split
  · exact changeClaim_ends h _ _ e k
  · exact h.ends _

theorem admitClaim_ends {p : Port} {s : State} (h : PortsOk s) (valve position : Byte) (cls : Option EmitClass)
    (tag : Option Word24) : ClaimEnds p s (admitClaim valve position cls tag s) := by
  unfold admitClaim
  split
  · split
    · exact h.ends _
    · exact changeClaim_ends h _ _ none _
  · exact h.ends _

theorem checkClaim_ends {p : Port} {s : State} (h : PortsOk s) (valve first count : Byte) :
    ClaimEnds p s (checkClaim valve first count s) := by
  have joined (v : Valve) (x n : Nat) (o : EntryOrigin) : OwnersStay s (joinDirected v x n o s) :=
    ⟨.of_eq rfl rfl, rfl, rfl, rfl, rfl⟩
  unfold checkClaim
  split
  · exact h.ends _
  · split
    · split
      · exact (joined _ _ _ _).ends h _
      · exact h.ends _
    · exact h.ends _

theorem orderClaim_ends {p : Port} {s : State} (h : PortsOk s) (o : OrderParts) :
    ClaimEnds p s (orderClaim o s) := by
  have staged (g : Page) : OwnersStay s (setStagedPage g s) := by
    unfold setStagedPage
    split <;> exact ⟨.of_eq rfl rfl, rfl, rfl, rfl, rfl⟩
  unfold orderClaim
  split
  · exact h.ends _
  · split
    · exact h.ends _
    · split
      · exact h.ends _
      · exact (staged _).ends h _

theorem swapClaim_ends {p : Port} {s : State} (h : PortsOk s) : ClaimEnds p s (swapClaim p s) := by
  unfold swapClaim
  split
  · exact h.ends _
  case isFalse free =>
    have free : s.schedule.swapPending = none := by simpa using free
    split
    · exact h.ends _
    · split
      · exact h.ends _
      · split
        · have none : (makeSwap s).schedule.swapPending = none := by simp only [makeSwap, swapPages]; split <;> rfl
          have ports : SamePorts s (makeSwap s) :=
            .trans (t := { s with schedule := swapPages s.schedule }) (.of_eq rfl rfl) (setNotice_samePorts _ _)
          exact OwnersStay.ends ⟨ports, rfl, none.trans free.symm, rfl, rfl⟩ h _
        · exact .swap free

theorem enter_owners (c : Conv) (x : Option ExitTarget) (s : State) : OwnersStay s (enter c x s) :=
  ⟨enter_samePorts c x s, by simp, by simp, by simp, by simp⟩

theorem stopByRole_owners (x : ExitTarget) (s : State) : OwnersStay s (stopByRole x s) :=
  ⟨stopByRole_samePorts x s, by simp, by simp, by simp, by simp⟩

theorem strengthen_owners (x : ExitTarget) (s : State) : OwnersStay s (strengthen x s) :=
  ⟨strengthen_samePorts x s, by simp, by simp, by simp, by simp⟩

theorem enterRetarded_owners (x : ExitTarget) (s : State) : OwnersStay s (enterRetarded x s) :=
  ⟨enterRetarded_samePorts x s, by simp, by simp, by simp, by simp⟩

theorem deblockClaim_ends {p : Port} {s : State} (h : PortsOk s) : ClaimEnds p s (deblockClaim s) := by
  unfold deblockClaim
  split
  · split
    · exact h.ends _
    · exact (enter_owners .pending none s).ends h _
  · exact h.ends _

theorem blockClaim_ends {p : Port} {s : State} (h : PortsOk s) : ClaimEnds p s (blockClaim s) := by
  unfold blockClaim
  split
  case h_1 | h_8 => exact h.ends _
  case h_2 | h_3 => exact (enter_owners .blocked none s).ends h _
  case h_4 | h_5 => exact (stopByRole_owners .blocked s).ends h _
  case h_6 | h_7 => exact (strengthen_owners .blocked s).ends h _

theorem retardClaim_ends {p : Port} {s : State} (h : PortsOk s) : ClaimEnds p s (retardClaim s) := by
  unfold retardClaim
  split
  case h_1 | h_2 => exact (enterRetarded_owners .deionizing s).ends h _
  case h_3 => exact h.ends _

theorem bypassClaim_ends {p : Port} {s : State} (h : PortsOk s) : ClaimEnds p s (bypassClaim s) := by
  have entered : OwnersStay s (enterBypassing .blocked s) :=
    ⟨enterBypassing_samePorts .blocked s, by simp, by simp, by simp, by simp⟩
  unfold bypassClaim
  split
  case h_1 | h_2 => exact entered.ends h _
  case h_3 => exact h.ends _

theorem clearTripClaim_ends {p : Port} {s : State} (h : PortsOk s) : ClaimEnds p s (clearTripClaim s) := by
  have cleared : OwnersStay (enter .blocked none s) (unlatch (enter .blocked none s)) :=
    ⟨.of_eq rfl rfl, rfl, rfl, rfl, rfl⟩
  unfold clearTripClaim
  split
  · split
    · exact h.ends _
    · exact ((enter_owners .blocked none s).trans cleared).ends h _
  · exact h.ends _

theorem trimClaim_ends {p : Port} {s : State} (h : PortsOk s) (insert suppress : Bool) :
    ClaimEnds p s (trimClaim insert suppress s) := by
  have moved (f : Phase) : OwnersStay s { s with phase := f } := ⟨.of_eq rfl rfl, rfl, rfl, rfl, rfl⟩
  have trimmed (step : Int) : ClaimEnds p s (trimBy step s) := by
    unfold trimBy
    dsimp only
    split
    · exact h.ends _
    · exact (moved _).ends h _
  unfold trimClaim
  split
  · exact h.ends _
  · split
    · exact h.ends _
    · split
      · exact trimmed 1
      · exact trimmed (-1)
      · exact h.ends _

theorem holdClaim_ends {p : Port} {s : State} (h : PortsOk s) (l : LinkOk s) : ClaimEnds p s (holdClaim p s) := by
  unfold holdClaim
  split
  case h_1 => exact h.ends _
  case h_2 =>
    split
    · exact h.ends _
    case isFalse free => exact .hold (by simpa using free)
  case h_3 x header _ =>
    have free := l.noHold (by rw [header]; decide)
    have told : OwnersStay s (tellCut x s) := ⟨.of_eq rfl rfl, rfl, rfl, rfl, rfl⟩
    split
    · exact (told.trans (becomeHeld_owners (s := tellCut x s) free none)).ends h _
    · exact (becomeHeld_owners free (some x)).ends h _
  case h_4 notHeld notExchange _ =>
    exact (becomeHeld_owners (l.noHold fun exchange => notExchange exchange) _).ends h _

theorem releaseClaim_ends {p : Port} {s : State} (h : PortsOk s) (l : LinkOk s) :
    ClaimEnds p s (releaseClaim s) := by
  unfold releaseClaim
  split
  case h_1 held =>
    have free := l.noHold (by rw [held]; decide)
    have opened (x : Poll) : OwnersStay s (openTelegram x s) := ⟨.of_eq rfl rfl, rfl, rfl, rfl, rfl⟩
    split
    · split
      · exact (becomeIdle_owners free).ends h _
      · exact (opened _).ends h _
    · exact (becomeIdle_owners free).ends h _
  case h_2 => exact h.ends _

theorem storeClaim_ends {p : Port} {s : State} (h : PortsOk s) (σ : Setting) (v : Valve) (n : Nat) :
    ClaimEnds p s (storeClaim σ v n s) := by
  have stored : OwnersStay s { s with settings := putSetting s.settings v n σ } := ⟨.of_eq rfl rfl, rfl, rfl, rfl, rfl⟩
  have ports := stored.portsOk h
  refine .of_stay ?_ ?_ (by simp) (by simp)
  · unfold storeClaim
    split <;> rfl
  · obtain ⟨code, -, made⟩ | ⟨-, made⟩ := storeClaim_cases σ v n s <;> rw [made]
    · exact h
    generalize { s with settings := putSetting s.settings v n σ } = u at ports ⊢
    have respread : OwnersStay u (respread u) := ⟨.of_eq rfl rfl, rfl, rfl, rfl, rfl⟩
    have reclamped : OwnersStay u (reclamp u) := ⟨.of_eq rfl rfl, rfl, rfl, rfl, rfl⟩
    have swept (on : Bool) : OwnersStay u (sweepEnableSet on u) := ⟨.of_eq rfl rfl, rfl, rfl, rfl, rfl⟩
    cases σ
    case minimumSound | reserve => exact (commitTally_owners v _ .change u).portsOk ports
    case standardOnTime | longOnTime => exact respread.portsOk ports
    case sweepEnable => exact (swept _).portsOk ports
    case alphaMin | alphaMax => exact reclamped.portsOk ports
    case referenceOffset =>
      show PortsOk (offsetSet u)
      unfold offsetSet
      split
      · exact changeLock_portsOk ports (offsetItems u.phase) .acquiring
      · exact ports
    all_goals exact ports

theorem setClaim_ends {p : Port} {s : State} (h : PortsOk s) (σ : Setting) (valve : Byte) (value : Word16) :
    ClaimEnds p s (setClaim σ valve value s) := by
  unfold setClaim
  split
  · exact h.ends _
  · exact storeClaim_ends h σ _ _

theorem claimEnds {p : Port} {k : State → State × Option Reply} (hk : ClaimKind p k) {s : State} (ports : PortsOk s)
    (l : LinkOk s) : ClaimEnds p s (k s) := by
  have slot := ports.port p
  cases hk with
  | lookup r => exact ports.ends _
  | clearNotices flags | setMask mask =>
    refine .of_stay rfl (setPort_portsOk ports ?_ .rfl rfl rfl) (by simp [clearNoticesClaim, setMaskClaim])
      (by simp [clearNoticesClaim, setMaskClaim])
    exact ⟨slot.idle, slot.working, slot.answered, slot.transfer⟩
  | admission v x cls tag => exact admitClaim_ends ports v x cls tag
  | amend v x rev cls tag | clear v x rev cls tag | reprove v x rev cls tag | retire v x rev why =>
    exact keyedChange_ends ports v x rev _
  | check v x n => exact checkClaim_ends ports v x n
  | order o => exact orderClaim_ends ports o
  | swap => exact swapClaim_ends ports
  | deblock => exact deblockClaim_ends ports
  | block => exact blockClaim_ends ports
  | retard => exact retardClaim_ends ports
  | bypass => exact bypassClaim_ends ports
  | clearTrip => exact clearTripClaim_ends ports
  | trim i d => exact trimClaim_ends ports i d
  | hold => exact holdClaim_ends ports l
  | release => exact releaseClaim_ends ports l
  | set σ v w => exact setClaim_ends ports σ v w

/-! ### Executions and events -/

/-- The request that the engine has begun is one command (R153). -/
theorem begun_unique {c d : Instr} {p q : Port} {s : State} (h : begun c p s = true) (k : begun d q s = true) :
    c = d := by
  simp only [begun, Bool.and_eq_true, decide_eq_true_eq] at h k
  obtain ⟨⟨⟨-, hp⟩, -⟩, hc⟩ := h
  obtain ⟨⟨⟨-, hq⟩, -⟩, hd⟩ := k
  have same : p = q := hp.symm.trans hq
  subst same
  exact Parsed.command.inj (Option.some.inj (hc.symm.trans hd))

theorem engine_of_begun {c : Instr} {p : Port} {s : State} (h : begun c p s = true) :
    s.engine = { busy := true, last := p } := by
  simp only [begun, Bool.and_eq_true, decide_eq_true_eq] at h
  obtain ⟨⟨⟨busy, last⟩, -⟩, -⟩ := h
  cases e : s.engine
  simp_all

theorem claim_portsOk {c : Instr} {q : Sender} {k : State → State × Option Reply} (hc : claimOf c = some (q, k))
    {s : State} (ports : PortsOk s) (l : LinkOk s) (running : begun c q.port s = true) :
    PortsOk (conclude q.port (k s)) := by
  refine (claimEnds (claimKind_of_claimOf hc) ports l).conclude ports (engine_of_begun running) ?_
  by_contra built
  obtain ⟨x, hx⟩ := ports.lookup built
  obtain rfl := begun_unique running hx
  cases hc

/-- Another image, with everything else of ports and owners the same. -/
theorem portsOk_of_building {s t : State} (h : PortsOk s) (ports : ∀ x, t.port x = s.port x)
    (engine : t.engine = s.engine) (swap : t.schedule.swapPending = s.schedule.swapPending)
    (hold : t.link.holdPending = s.link.holdPending)
    (lookup : t.building ≠ ImageBuild.empty → ∃ q, begun (.lookConverter q) q.port t = true)
    (missing : missingParts t.building ≠ [])
    (parts : ∀ (k : Fin 6) bytes, t.building.parts[k] = some bytes →
      ∃ fields, bytes = imagePart (byte (k.val + 1)) fields) : PortsOk t where
  port x := by rw [ports]; exact h.port x
  owner x := by rw [ownedBy_congr x engine swap hold, ports]; exact h.owner x
  prompt idle x := by
    rw [waits_congr (s := s) x (by rw [ports]) (by rw [ports])]
    exact h.prompt (engine ▸ idle) x
  lookup := lookup
  missing := missing
  parts := parts

theorem placeAnswer_answer {p : Port} {s : State} (held : (s.port p).request.isSome = true) (r : Reply) :
    ((placeAnswer p r s).port p).answer.isSome = true := by
  obtain ⟨a, e⟩ := (placeAnswer_answers (.refl s) held r).slot
  rw [e]; rfl

theorem lookConverterMoment_portsOk {q : Sender} {s : State} (ports : PortsOk s)
    (running : begun (.lookConverter q) q.port s = true) : PortsOk (lookConverterMoment q.port s) := by
  have engine := engine_of_begun running
  unfold lookConverterMoment
  split
  · exact ports
  obtain ⟨k, ks, found⟩ := List.exists_cons_of_ne_nil ports.missing
  obtain ⟨x, -, made⟩ := takePart_eq found
  have parts (j : Fin 6) (bytes : List Byte) (given : (takePart s).building.parts[j] = some bytes) :
      ∃ fields, bytes = imagePart (byte (j.val + 1)) fields := by
    rw [made] at given
    by_cases same : x.val = j.val
    · have same : x = j := Fin.ext same
      subst same
      exact ⟨partFields x s, by simpa [converterPart, eq_comm] using given⟩
    · exact ports.parts j bytes (by simpa [put_getElem, same] using given)
  have slots (b : ImageBuild) (y : Port) : ({ takePart s with building := b } : State).port y = s.port y :=
    State.port_congr (by simp) (by simp) y
  dsimp only
  split
  case h_1 =>
    generalize image (converterImage (takePart s).building) = r
    have ended : PortsOk { takePart s with building := ImageBuild.empty } :=
      portsOk_of_building ports (slots _) (by simp) (by simp) (by simp) (fun built => absurd rfl built)
        (show missingParts ImageBuild.empty ≠ [] by decide)
        fun j bytes given => by
          have none : ImageBuild.empty.parts[j] = none := by simp [ImageBuild.empty]
          exact nomatch none.symm.trans given
    exact (ended.ends r).conclude ended (by simpa using engine) rfl
  case h_2 left =>
    have same (y : Port) : (takePart s).port y = s.port y := State.port_congr (by simp) (by simp) y
    refine portsOk_of_building ports same (by simp) (by simp) (by simp) (fun _ => ⟨q, ?_⟩) (by rw [left]; simp) parts
    rw [begun_congr (s := s) _ _ (by simp) (by rw [same]) (by rw [same])]
    exact running

theorem event_portsOk {f : State → State} (hf : EventOf f) {s : State} (ports : PortsOk s) (b : BlocksOk s) :
    PortsOk (f s) := by
  have setLane (v : Valve) (l : Lane) : OwnersStay s (s.setLane v l) := ⟨.of_eq rfl rfl, rfl, rfl, rfl, rfl⟩
  cases hf with
  | restartPulse => exact controlReset_portsOk none fun _ absent => nomatch absent
  | blockAssertion =>
    have closed (t : State) : OwnersStay t (cutLanes (closeWindows t)) := ⟨.of_eq rfl rfl, rfl, rfl, rfl, rfl⟩
    have stopped : OwnersStay s (stopAtOnce s) := ⟨stopAtOnce_samePorts s, by simp, by simp, by simp, by simp⟩
    exact (stopped.trans (closed _)).portsOk ports
  | lineFault =>
    unfold takeLineFault
    split
    · exact (enterRetarded_owners _ s).portsOk ports
    · exact (enterRetarded_owners _ s).portsOk ports
    · exact ports
  | crossing since => exact referenceCrossing_portsOk ports since
  | missed => exact (missedCrossing_lockMove s).portsOk ports
  | step => exact stepEvent_portsOk ports b.polls
  | word f => exact receive_portsOk ports f
  | timeout awaiting => exact awaitedTimeout_portsOk ports awaiting
  | interval =>
    unfold wordIntervalEnd
    split
    · exact (sendExpectation_owners s).portsOk ports
    · exact ports
  | arbiter =>
    have started : OwnersStay s (arbiterStart s) := by
      have opened (c : Sources) (x : Poll) : OwnersStay s (openTelegram x { s with sources := c }) :=
        ⟨.of_eq rfl rfl, rfl, rfl, rfl, rfl⟩
      unfold arbiterStart startCycle startDirected startSweep
      repeat' split
      all_goals first | exact .refl s | exact opened _ _
    exact started.portsOk ports
  | onTime v => exact (setLane v _).portsOk ports
  | gap v => exact (setLane v _).portsOk ports
  | stopFrame v => exact (setLane v _).portsOk ports
  | transfer p part => exact transferEvent_portsOk ports p part

theorem Reaches.portsOk {c : Instr} {s t : State} (h : Reaches c s t) (ports : PortsOk s) (b : BlocksOk s) :
    PortsOk t := by
  cases h with
  | reset l h =>
    have stay : OwnersStay State.reset (powerOn l s) := ⟨.of_eq rfl rfl, rfl, rfl, rfl, rfl⟩
    exact h ▸ stay.portsOk reset_portsOk
  | event h =>
    obtain ⟨l, h⟩ := h
    have lines : OwnersStay s (setLines l s) := ⟨.of_eq rfl rfl, rfl, rfl, rfl, rfl⟩
    obtain rfl | ⟨f, hf, rfl⟩ := h
    · exact lines.portsOk ports
    · exact event_portsOk hf (lines.portsOk ports) (b.congr (setLines_sameParts l s))
  | sent h => exact h.portsOk ports
  | run q f u hu _ running hf h =>
    have ports := hu.portsOk ports
    have b := b.congr hu.sameParts
    subst h
    cases hf with
    | claim hc => exact claim_portsOk hc ports b.link running
    | restart =>
      refine controlReset_portsOk (some q.port) fun p kept => ?_
      obtain rfl := Option.some.inj kept
      have taken := (ports.executing (engine_of_begun running)).1
      exact placeAnswer_answer (ports.ready.held taken).2 _
    | lookConverter => exact lookConverterMoment_portsOk ports running

theorem countTick_portsOk {s : State} (h : PortsOk s) : PortsOk (countTick s) := by
  refine portsOk_of_building h (fun _ => State.port_congr rfl rfl _) rfl rfl rfl (fun built => ?_) h.missing h.parts
  obtain ⟨q, hq⟩ := h.lookup fun empty => built (by simp [countTick, settleTrip, empty, ImageBuild.empty])
  have slot : (countTick s).port q.port = s.port q.port := State.port_congr rfl rfl _
  exact ⟨q, (begun_congr _ _ rfl (by rw [slot]) (by rw [slot])).trans hq⟩

/-- Settles O60: the ports through the events, the executions of requests, the resets and the base tick. -/
theorem stepKeepsPorts : Obligations.StepKeepsPorts := by
  unfold Obligations.StepKeepsPorts
  intro s t invariant reached
  have queued (queue : List Instr) (count : Nat) : OwnersStay s { s with pending := queue, freeCount := count } :=
    ⟨.of_eq rfl rfl, rfl, rfl, rfl, rfl⟩
  unfold step at reached
  split at reached
  case h_1 c rest _ =>
    exact (exec_reaches reached).portsOk ((queued rest s.freeCount).portsOk invariant.ports)
      (invariant.blocks.congr (queue_sameParts rest s.freeCount s))
  case h_2 =>
    cases reached
    obtain h | ⟨-, h⟩ | ⟨c, n, -, h⟩ := idleStep_cases s <;> rw [h]
    · exact invariant.ports
    · exact countTick_portsOk invariant.ports
    · exact (queued [c] n).portsOk invariant.ports

end Sys2Proof.Machine

/-! Steps, the power-on reset and the control resets (R22, R36, R153, R158, R163, R167). -/

namespace Sys2Proof.Machine

/-! ### One step -/

/-- Settles O1: the definition of a step at a queue with a front. -/
theorem stepRunsFrontCommand : Obligations.StepRunsFrontCommand := by
  unfold Obligations.StepRunsFrontCommand
  intro c rest s queue
  unfold step
  rw [queue]

theorem chosenSource_isSome_iff (s : State) : (chosenSource s).isSome = true ↔ ∃ x, sourcePending s x = true := by
  have grows (l : List PollSource) : ∀ best, best.isSome = true → (l.foldl (prefer s.settings) best).isSome = true := by
    induction l with
    | nil => exact fun _ h => h
    | cons x l ih =>
      intro best h
      refine ih _ ?_
      obtain ⟨b, rfl⟩ := Option.isSome_iff_exists.1 h
      simp only [prefer]
      split <;> rfl
  have found (l : List PollSource) : (l.foldl (prefer s.settings) none).isSome = true ↔ l ≠ [] := by
    cases l with
    | nil => simp
    | cons x l => exact iff_of_true (grows l _ rfl) (by simp)
  rw [chosenSource, found]
  constructor
  · intro some
    obtain ⟨x, hx⟩ := List.exists_mem_of_ne_nil _ some
    exact ⟨x, (List.mem_filter.1 hx).2⟩
  · rintro ⟨x, hx⟩
    exact List.ne_nil_of_mem (List.mem_filter.2 ⟨by cases x <;> simp, hx⟩)

theorem begunRequest_eq_some_iff (c : Instr) (s : State) : begunRequest s = some c ↔
    begun c s.engine.last s = true ∧ s.building.taken = false := by
  unfold begunRequest begun
  split
  case isTrue running =>
    obtain ⟨⟨busy, started⟩, fresh⟩ : (s.engine.busy = true ∧ (s.port s.engine.last).begun = true) ∧
        s.building.taken = false := by simpa using running
    simp only [busy, started, fresh, Bool.true_and, decide_true, decide_eq_true_eq, and_true]
    split
    case h_1 d e => simp [e]
    case h_2 other => simpa using other c
  case isFalse => simp_all

theorem mem_promptSteps_iff (c : Instr) (s : State) : c ∈ promptSteps s ↔
    begun c s.engine.last s = true ∧ s.building.taken = false ∨
      c = .arbiterPollStart ∧ s.link.state = .idle ∧ ∃ x, sourcePending s x = true := by
  have arbiter : arbiterDue s = true ↔ s.link.state = .idle ∧ ∃ x, sourcePending s x = true := by
    rw [← chosenSource_isSome_iff]
    simp [arbiterDue]
  unfold promptSteps
  rw [List.mem_append, Option.mem_toList, begunRequest_eq_some_iff, ← arbiter]
  by_cases due : arbiterDue s = true <;> simp [due]

theorem mem_intervalEvents_iff (c : Instr) (s : State) : c ∈ intervalEvents s.phase ↔
    c = .missedCrossing ∧ 940000 ≤ s.phase.interval := by
  unfold intervalEvents intervalLimit
  split <;> simp [*]

theorem mem_stepEvents_iff (c : Instr) (s : State) : c ∈ stepEvents s.phase ↔
    c = .phaseStepEvent ∧ s.phase.counting = true ∧ (s.phase.loaded.any fun p =>
      decide (p / 3600 + (if s.phase.longStep then 1 else 0) ≤ s.phase.tick)) = true := by
  unfold stepEvents presentLength stepLength
  cases s.phase.loaded <;> simp [and_comm]

theorem mem_linkEvents_iff (c : Instr) (s : State) : c ∈ linkEvents s.link ↔
    s.link.timer = some 0 ∧ (c = .replyTimeout ∧ s.link.state = .header ∨ c = .wordTimeout ∧ s.link.state = .exchange ∨
      c = .wordIntervalEnd ∧ s.link.state = .interval) := by
  unfold linkEvents
  split
  · split <;> simp [*]
  · simp [*]

theorem mem_laneEvents_iff (c : Instr) (v : Valve) (l : Lane) : c ∈ laneEvents v l ↔
    l.timer = 0 ∧ (c = .onTimeEnd v ∧ l.state = .lit ∨ c = .gapEnd v ∧ l.state = .gap ∨
      c = .stopFrameEnd v ∧ l.state = .stopping) := by
  unfold laneEvents
  split
  · split <;> simp [*]
  · simp [*]

theorem mem_readySteps_iff (s : State) (c : Instr) : c ∈ readySteps s ↔
    begun c s.engine.last s = true ∧ s.building.taken = false ∨
    c = .arbiterPollStart ∧ s.link.state = .idle ∧ (∃ x, sourcePending s x = true) ∨
    c = .missedCrossing ∧ 940000 ≤ s.phase.interval ∨
    c = .phaseStepEvent ∧ s.phase.counting = true ∧
      (s.phase.loaded.any fun p => decide (p / 3600 + (if s.phase.longStep then 1 else 0) ≤ s.phase.tick)) = true ∨
    s.link.timer = some 0 ∧ (c = .replyTimeout ∧ s.link.state = .header ∨ c = .wordTimeout ∧ s.link.state = .exchange ∨
      c = .wordIntervalEnd ∧ s.link.state = .interval) ∨
    (∃ v, (s.lane v).timer = 0 ∧ (c = .onTimeEnd v ∧ (s.lane v).state = .lit ∨ c = .gapEnd v ∧ (s.lane v).state = .gap ∨
      c = .stopFrameEnd v ∧ (s.lane v).state = .stopping)) := by
  unfold readySteps dueEvents
  simp only [List.mem_append, mem_promptSteps_iff, mem_intervalEvents_iff, mem_stepEvents_iff, mem_linkEvents_iff,
    List.mem_flatMap, mem_laneEvents_iff, mem_allValves, true_and, or_assoc]

theorem idleStep_of_ready {s : State} (porHigh : s.lines.porLow = false) (ready : readySteps s ≠ []) :
    ∃ c ∈ readySteps s, idleStep s = { s with
      pending := [c], freeCount := if (readySteps s).length = 1 then s.freeCount else s.freeCount + 1 } := by
  obtain ⟨c, cs, found⟩ := List.exists_cons_of_ne_nil ready
  refine ⟨(chooseOne s.freeCount c cs).1, by rw [found]; exact chooseOne_mem _ _ _, ?_⟩
  have count : (chooseOne s.freeCount c cs).2 =
      if (readySteps s).length = 1 then s.freeCount else s.freeCount + 1 := by
    rw [chooseOne_count, found]
    simp
  rw [← count]
  simp [idleStep, porHigh, found]

theorem countTick_lane (s : State) (v : Valve) : (countTick s).lane v = tickLane (s.lane v) := by
  simp [countTick, settleTrip, State.lane]

/-- Settles O2: the steps that are ready, and the tick where none is. -/
theorem emptyQueueStepTakesTime : Obligations.EmptyQueueStepTakesTime := by
  unfold Obligations.EmptyQueueStepTakesTime
  have idle (s : State) (queue : s.pending = []) : step s = .next (idleStep s) := by
    unfold step
    rw [queue]
  refine ⟨fun s queue => ⟨fun porLow => ?_, fun porHigh => ⟨fun quiet => ?_, fun ready => ?_⟩⟩, mem_readySteps_iff,
    fun s => ⟨?_, fun v => ?_⟩⟩
  · rw [idle s queue]
    simp [idleStep, porLow]
  · rw [idle s queue]
    simp [idleStep, porHigh, quiet]
  · obtain ⟨c, hc, made⟩ := idleStep_of_ready porHigh ready
    exact ⟨c, hc, (idle s queue).trans (congrArg _ made)⟩
  · by_cases counting : s.phase.counting = true <;> simp [countTick, settleTrip, tickStep, tickInterval, tickLink, counting]
  · rw [countTick_lane]
    unfold tickLane
    split
    case h_1 idle => rw [if_pos idle]
    case h_2 busy => rw [if_neg busy]

/-! ### Power-on reset (R22, R36, R167) -/

/-- Settles O55: the reset state meets each part of the invariant. -/
theorem resetMeetsTheInvariant : Obligations.ResetMeetsTheInvariant := by
  unfold Obligations.ResetMeetsTheInvariant
  have table := reset_tableOk
  have firing := reset_firingOk
  exact
    { settings := table.settings, tallies := table.tallies, spreads := table.spreads, fit := table.fit
      records := table.records, queues := reset_pollsOk.queues, link := reset_pollsOk.link
      phase := phaseOk_of_afterReset rfl, sequencer := firing.sequencer, converter := firing.converter
      lanes := firing.lanes, schedule := firing.schedule, ports := reset_portsOk }

theorem exec_porAsserted (s : State) :
    exec .porAsserted s = .next (powerOn { s.lines with porLow := true } s) := rfl

theorem reset_record (v : Valve) (p : Position) : State.reset.record v p = LevelRecord.powerOn := by
  simp [State.record, State.reset]

theorem reset_tally (v : Valve) : State.reset.tally v = Tally.powerOn := by
  simp [State.tally, State.reset]

theorem reset_lane (v : Valve) : State.reset.lane v = Lane.powerOn := by
  simp [State.lane, State.reset]

theorem reset_setting (v : Valve) (σ : Setting) : getSetting State.reset.settings v σ = σ.default := by
  cases σ
  case minimumSound | reserve => simp [getSetting, State.reset, Settings.powerOn, Setting.default]
  all_goals rfl

/-- Settles O3: the reset state, block by block. -/
theorem powerOnResetGivesPowerOnValues : Obligations.PowerOnResetGivesPowerOnValues := by
  unfold Obligations.PowerOnResetGivesPowerOnValues
  refine ⟨exec_powerOnReset, exec_porAsserted, reset_record, reset_tally, ?_, reset_setting, fun v => ?_, rfl, rfl, rfl,
    ⟨rfl, rfl, rfl, rfl⟩, rfl, rfl, rfl, fun p => ?_⟩
  · decide +kernel
  · rw [reset_lane]; exact ⟨rfl, rfl, rfl, rfl, rfl⟩
  · cases p <;> rfl

/-! ### Control reset (R23, R74, R119, R139, R150, R158, R162) -/

theorem resetPort_discards {keep : Bool} {u : PortUnit} {x : Transfer} (h : (resetPort keep u).transfer = some x) :
    x.discard = true := by
  simp only [resetPort, Option.map_eq_some_iff] at h
  obtain ⟨y, -, rfl⟩ := h
  rfl

/-- A control reset leaves of a port's rest what it leaves of the rest before, whether or not the port keeps its answer. -/
theorem resetPort_rest {k l : Bool} {u w : PortUnit} (h : u.rest = w.rest) :
    (resetPort k u).rest = (resetPort l w).rest := by
  simp only [PortUnit.rest, PortRest.mk.injEq] at h
  obtain ⟨-, transfer, -, mask, shifted⟩ := h
  simp [PortUnit.rest, resetPort, transfer, mask, shifted]

/-- Settles O4: the control reset block by block, after the answer where a RESTART request caused it. -/
theorem controlResetKeepsTheTable : Obligations.ControlResetKeepsTheTable := by
  unfold Obligations.ControlResetKeepsTheTable
  refine ⟨fun s porHigh => ⟨controlReset none s, exec_restartPulse_of_powered porHigh, rfl, rfl, rfl, rfl, rfl, rfl, rfl,
    rfl, rfl, rfl, rfl, rfl, rfl, fun v => ?_, rfl, rfl, fun p => ?_⟩, fun q s executing => ?_⟩
  · simp [controlReset, State.lane, resetLane]
  · rw [controlReset_port]
    exact ⟨rfl, rfl, rfl, rfl, rfl, rfl, fun x hx => resetPort_discards hx⟩
  · obtain ⟨f, held, tag, -, -, -⟩ := executing.slot (c := .restart q) rfl
    have placed := placeAnswer_eq held tag (plain .done)
    have slot : (controlReset (some q.port) (placeAnswer q.port (plain .done) s)).port q.port =
        resetPort true ((placeAnswer q.port (plain .done) s).port q.port) := by
      rw [controlReset_port]; simp
    refine ⟨_, controlReset none s, exec_restart_of_executing executing, exec_restartPulse_of_powered executing.1, ?_,
      by simp [State.blocks, controlReset], rfl, ?_, ?_⟩
    · simp only [Answered, slot]
      rw [placed]
      simp [resetPort, held]
    · rw [controlReset_port, controlReset_port, placeAnswer_other]
      simp [(otherPort_ne q.port).symm]
    · rw [controlReset_port, controlReset_port]
      exact resetPort_rest (placeAnswer_rest q.port q.port (plain .done) s)

end Sys2Proof.Machine

/-! The station lines and the requests on the converter (R98, R127 to R131, R133, R134, R136). -/

namespace Sys2Proof.Machine

/-! ### A request whose execution is one claim -/

/-- An executing request whose claim answers and touches of the ports at most the notices completes. -/
theorem completes_of_claimOf {c : Instr} {q : Sender} {claim : State → State × Option Reply} {s u : State} {r : Reply}
    (hc : claimOf c = some (q, claim)) (executing : Executing c q s) (claimed : claim s = (u, some r))
    (ports : SamePorts s u) (engine : u.engine = s.engine) : Completes c q u r s := by
  obtain ⟨_, _, row⟩ := requestOf_of_claimOf hc
  exact serveClaim_completes_of_samePorts row executing (exec_of_claimOf hc s) claimed ports engine

/-- An executing request whose claim answers and changes nothing completes with that answer. -/
theorem refuses_of_claimOf {c : Instr} {q : Sender} {claim : State → State × Option Reply} {s : State} {r : Reply}
    (hc : claimOf c = some (q, claim)) (executing : Executing c q s) (claimed : claim s = (s, some r)) :
    Completes c q s r s :=
  completes_of_claimOf hc executing claimed (.refl s) rfl

/-- The same for a claim that answers with a change of converter state. -/
theorem converterChange_completes {c : Instr} {q : Sender} {claim : State → State × Option Reply} {s : State} {r : Reply}
    {f : Sequencer → Sequencer} (hc : claimOf c = some (q, claim)) (executing : Executing c q s)
    (claimed : claim s = (converterChange f s, some r)) : Completes c q (converterChange f s) r s :=
  completes_of_claimOf hc executing claimed (converterChange_samePorts f s) rfl

/-! ### DEBLOCK (R127) -/

theorem deblockClaim_of_elsewhere {s : State} (elsewhere : s.seq.conv ≠ .blocked) :
    deblockClaim s = (s, some (plain .wrongState)) := by
  unfold deblockClaim
  split
  case h_1 blocked => exact absurd blocked elsewhere
  case h_2 => rfl

theorem deblockClaim_of_refusal {s : State} (blocked : s.seq.conv = .blocked) {why : Reason}
    (h : deblockRefusal s = some why) : deblockClaim s = (s, some (notReady why)) := by
  simp [deblockClaim, blocked, h]

theorem deblockRefusal_of_blockLine {s : State} (high : s.lines.block = true) : deblockRefusal s = some .blockLine := by
  simp [deblockRefusal, high]

/-- A BLOCKED converter's items are those that PENDING asks for, but for the state itself. -/
theorem enter_pending_of_blocked {s : State} (h : SequencerOk s) (blocked : s.seq.conv = .blocked) :
    enter .pending none s = converterChange (fun x => { x with conv := .pending }) s := by
  have counts : countsFailures s.seq.conv = false := by rw [blocked]; rfl
  obtain ⟨hold, run, mark, last⟩ := h.failures counts
  have exit : s.seq.exitTarget = none := by simpa [blocked, hasExit] using h.exit
  have recovery := h.recovery (by rw [blocked]; nofun)
  have windows : s.seq.windows = Vector.replicate 12 .closed := by
    have closed := h.windows (by rw [blocked]; rfl)
    ext i hi
    simpa using closed ⟨i, hi⟩
  have fresh : s.seq.freshTrip = false := by
    cases trip : s.seq.freshTrip
    case false => rfl
    case true =>
      obtain ⟨retarded | bypassing, _⟩ := h.trip trip
      · exact absurd (blocked.symm.trans retarded) (by decide)
      · exact absurd (blocked.symm.trans bypassing) (by decide)
  have items : enterItems .pending none s.seq = { s.seq with conv := .pending } := by
    simp [enterItems, hasWindows, isStopped, hold, run, mark, last, exit, recovery, windows, fresh]
  simp [enter, isFiring, blocked, items, converterChange]

theorem deblockClaim_of_ready {s : State} (h : SequencerOk s) (blocked : s.seq.conv = .blocked)
    (ready : deblockRefusal s = none) :
    deblockClaim s = (converterChange (fun x => { x with conv := .pending }) s, some (plain .done)) := by
  simp [deblockClaim, blocked, ready, enter_pending_of_blocked h blocked]

/-! ### BYPASS (R131) -/

theorem bypassClaim_of_inverter {s : State} (state : s.seq.conv = .ramping ∨ s.seq.conv = .running)
    (role : s.livePage.role = .inverter) :
    bypassClaim s = (converterChange (bypassingWith .blocked) s, some (plain .done)) := by
  rcases state with state | state <;> simp [bypassClaim, state, role, enterBypassing_eq]

theorem bypassClaim_of_elsewhere {s : State}
    (elsewhere : s.seq.conv ≠ .ramping ∧ s.seq.conv ≠ .running ∨ s.livePage.role = .rectifier) :
    bypassClaim s = (s, some (plain .wrongState)) := by
  unfold bypassClaim
  split
  case h_1 state role => rcases elsewhere with ⟨notRamping, -⟩ | rectifier <;> simp_all
  case h_2 state role => rcases elsewhere with ⟨-, notRunning⟩ | rectifier <;> simp_all
  case h_3 => rfl

/-- Settles O8: the five values of DEBLOCK's claim, by its checks in their order, and the two of BYPASS's. -/
theorem deblockAndBypass : Obligations.DeblockAndBypass := by
  unfold Obligations.DeblockAndBypass
  refine ⟨fun q s executing ok => ⟨fun elsewhere => ?_, fun blocked => ⟨fun high => ?_, fun low =>
    ⟨fun lock => ?_, fun lock => ⟨fun page => ?_, fun page => ⟨fun unfit => ?_, fun fit => ?_⟩⟩⟩⟩⟩,
    fun q s executing => ⟨fun h => ?_, fun elsewhere => ?_⟩⟩
  · exact refuses_of_claimOf rfl executing (deblockClaim_of_elsewhere elsewhere)
  · exact refuses_of_claimOf rfl executing (deblockClaim_of_refusal blocked (deblockRefusal_of_blockLine high))
  · exact refuses_of_claimOf rfl executing (deblockClaim_of_refusal blocked (by simp [deblockRefusal, low, lock]))
  · exact refuses_of_claimOf rfl executing (deblockClaim_of_refusal blocked (by simp [deblockRefusal, low, lock, page]))
  · exact refuses_of_claimOf rfl executing
      (deblockClaim_of_refusal blocked (by simp [deblockRefusal, low, lock, page, unfit]))
  · exact converterChange_completes rfl executing
      (deblockClaim_of_ready ok blocked (by simp [deblockRefusal, low, lock, page, fit]))
  · exact converterChange_completes rfl executing (bypassClaim_of_inverter h.1 h.2)
  · exact refuses_of_claimOf rfl executing (bypassClaim_of_elsewhere elsewhere)

/-! ### BLOCK (R130) -/

theorem stopByRole_of_rectifier {s : State} (role : s.livePage.role = .rectifier) (x : ExitTarget) :
    stopByRole x s = converterChange (retardedWith x) s := by
  simp [stopByRole, role, enterRetarded_eq]

theorem stopByRole_of_inverter {s : State} (role : s.livePage.role = .inverter) (x : ExitTarget) :
    stopByRole x s = converterChange (bypassingWith x) s := by
  simp [stopByRole, role, enterBypassing_eq]

theorem blockClaim_of_firing {s : State} (state : s.seq.conv = .ramping ∨ s.seq.conv = .running) :
    blockClaim s = (stopByRole .blocked s, some (plain .done)) := by
  rcases state with state | state <;> simp [blockClaim, state]

theorem blockClaim_of_exiting {s : State} (state : s.seq.conv = .retarded ∨ s.seq.conv = .bypassing) :
    blockClaim s = (strengthen .blocked s, some (plain .done)) := by
  rcases state with state | state <;> simp [blockClaim, state]

theorem blockClaim_of_waiting {s : State} (state : s.seq.conv = .pending ∨ s.seq.conv = .deionizing) :
    blockClaim s = (converterChange (stoppedAs .blocked) s, some (plain .done)) := by
  have entered (h : isFiring s.seq.conv = false) := enter_stopped_of_idle (c := .blocked) rfl h
  rcases state with state | state <;> simp [blockClaim, state, entered, isFiring]

/-- Settles O9: the value of the claim in each state, by the role or the exit target where the table asks for it. -/
theorem blockRequestByState : Obligations.BlockRequestByState := by
  unfold Obligations.BlockRequestByState
  refine fun q s executing => ⟨fun blocked => ?_, fun waiting => ?_, fun firing => ⟨fun role => ?_, fun role => ?_⟩,
    fun exiting => ⟨fun weaker => ?_, fun stronger => ?_⟩, fun tripped => ?_⟩
  · exact refuses_of_claimOf rfl executing (by simp [blockClaim, blocked])
  · exact converterChange_completes rfl executing (blockClaim_of_waiting waiting)
  · exact converterChange_completes rfl executing (by rw [blockClaim_of_firing firing, stopByRole_of_rectifier role])
  · exact converterChange_completes rfl executing (by rw [blockClaim_of_firing firing, stopByRole_of_inverter role])
  · exact converterChange_completes rfl executing
      (by rw [blockClaim_of_exiting exiting, strengthen_of_stronger weaker (by decide)])
  · have stays : strengthen .blocked s = s := by
      rcases stronger with same | tripped
      · exact strengthen_of_weaker same (by decide)
      · exact strengthen_of_weaker tripped (by decide)
    exact refuses_of_claimOf rfl executing (by rw [blockClaim_of_exiting exiting, stays])
  · exact refuses_of_claimOf rfl executing (by simp [blockClaim, tripped])

/-! ### LINEFAULT and RETARD (R128) -/

theorem takeLineFault_of_firing {s : State} (state : s.seq.conv = .ramping ∨ s.seq.conv = .running) :
    takeLineFault s = converterChange (retardedWith .deionizing) s := by
  rcases state with state | state <;> simp [takeLineFault, state, enterRetarded_eq]

theorem takeLineFault_of_elsewhere {s : State} (ramping : s.seq.conv ≠ .ramping) (running : s.seq.conv ≠ .running) :
    takeLineFault s = s := by
  unfold takeLineFault
  split
  case h_1 state => exact absurd state ramping
  case h_2 state => exact absurd state running
  case h_3 => rfl

theorem exec_linefaultEdge_of_low {s : State} (low : s.lines.linefault = false) : exec .linefaultEdge s =
    .next (if s.lines.porLow then { s with lines := { s.lines with linefault := true } }
      else takeLineFault { s with lines := { s.lines with linefault := true } }) := by
  simp [exec, execLinefaultEdge, low, setLines]

theorem exec_linefaultEdge_of_high {s : State} (high : s.lines.linefault = true) :
    exec .linefaultEdge s = .next s := by
  simp [exec, execLinefaultEdge, high]

theorem retardClaim_of_firing {s : State} (state : s.seq.conv = .ramping ∨ s.seq.conv = .running) :
    retardClaim s = (converterChange (retardedWith .deionizing) s, some (plain .done)) := by
  rcases state with state | state <;> simp [retardClaim, state, enterRetarded_eq]

theorem retardClaim_of_elsewhere {s : State} (ramping : s.seq.conv ≠ .ramping) (running : s.seq.conv ≠ .running) :
    retardClaim s = (s, some (plain .wrongState)) := by
  unfold retardClaim
  split
  case h_1 state => exact absurd state ramping
  case h_2 state => exact absurd state running
  case h_3 => rfl

/-- Settles O7: the edge and the request make the same change, on a line that was low and on the claim. -/
theorem lineFaultAndRetard : Obligations.LineFaultAndRetard := by
  unfold Obligations.LineFaultAndRetard
  refine ⟨fun s porHigh low state => ?_, fun s porHigh low ramping running => ?_,
    fun s high => exec_linefaultEdge_of_high high, fun s => rfl, fun q s executing state => ?_,
    fun q s executing ramping running => ?_⟩
  · rw [exec_linefaultEdge_of_low low, porHigh, if_neg Bool.false_ne_true]
    exact congrArg _ (takeLineFault_of_firing state)
  · rw [exec_linefaultEdge_of_low low, porHigh, if_neg Bool.false_ne_true]
    exact congrArg _ (takeLineFault_of_elsewhere ramping running)
  · exact converterChange_completes rfl executing (retardClaim_of_firing state)
  · exact refuses_of_claimOf rfl executing (retardClaim_of_elsewhere ramping running)

/-! ### The BLOCK line (R136) -/

theorem cutLane_cutLane (l : Lane) : cutLane (cutLane l) = cutLane l := by
  cases state : l.state <;> simp [cutLane, state, darkLane]

theorem cutLanes_cutLanes (s : State) : cutLanes (cutLanes s) = cutLanes s := by
  have twice : mapEntries cutLane (mapEntries cutLane s.lanes) = mapEntries cutLane s.lanes := by
    ext i hi : 1
    simp [cutLane_cutLane]
  simp [cutLanes, twice]

/-- BLOCKED or TRIPPED entered from any state and then the lanes cut: the stop of R136. -/
theorem cutLanes_enter_stopped {c : Conv} (hc : isStopped c = true) (s : State) :
    cutLanes (enter c none s) = converterStop (stoppedAs c) s := by
  cases firing : isFiring s.seq.conv
  case false => rw [enter_stopped_of_idle hc firing]; rfl
  case true =>
    have cut : converterStop (stoppedAs c) s = cutLanes (converterChange (stoppedAs c) s) := rfl
    rw [enter_stopped_of_firing hc firing, cut, cutLanes_cutLanes]

theorem stopAtOnce_of_stopped {s : State} (h : isStopped s.seq.conv = true) : stopAtOnce s = s := by
  simp [stopAtOnce, h]

theorem stopAtOnce_of_active {s : State} (h : isStopped s.seq.conv = false) :
    stopAtOnce s = converterStop (stoppedAs (if s.seq.tripLatch then .tripped else .blocked)) s := by
  have stop : isStopped (if s.seq.tripLatch then .tripped else .blocked) = true := by split <;> rfl
  simp [stopAtOnce, h, cutLanes_enter_stopped stop]

theorem exec_blockLineAsserted_of_low {s : State} (low : s.lines.block = false) : exec .blockLineAsserted s =
    .next (if s.lines.porLow then { s with lines := { s.lines with block := true } }
      else takeBlockAssertion { s with lines := { s.lines with block := true } }) := by
  simp [exec, execBlockLineAsserted, low, setLines]

theorem exec_blockLineAsserted_of_high {s : State} (high : s.lines.block = true) :
    exec .blockLineAsserted s = .next s := by
  simp [exec, execBlockLineAsserted, high]

/-- A stop has closed the windows and cut the lanes already. -/
theorem takeBlockAssertion_of_active {s : State} (h : isStopped s.seq.conv = false) : takeBlockAssertion s =
    converterStop (stoppedAs (if s.seq.tripLatch then .tripped else .blocked)) s := by
  rw [takeBlockAssertion, stopAtOnce_of_active h]
  have cut (c : Conv) : cutLanes (closeWindows (converterStop (stoppedAs c) s)) =
      cutLanes (cutLanes (converterChange (stoppedAs c) s)) := rfl
  rw [cut, cutLanes_cutLanes]
  rfl

theorem takeBlockAssertion_of_stopped {s : State} (h : isStopped s.seq.conv = true) : takeBlockAssertion s =
    { s with seq := allClosed s.seq, lanes := mapEntries cutLane s.lanes } := by
  rw [takeBlockAssertion, stopAtOnce_of_stopped h]
  rfl

theorem powered_of_porLow {s : State} (h : s.lines.porLow = true) (act : State → State) :
    powered act s = .next s := by
  simp [powered, h]

/-- While POR is low a command that is not a change of a line's level does nothing (R167). -/
theorem exec_of_porLow {c : Instr} {s : State} (low : s.lines.porLow = true) (reset : c ≠ .powerOnReset)
    (por : c ≠ .porAsserted) (block : c ≠ .blockLineAsserted) (release : c ≠ .blockLineReleased)
    (fault : c ≠ .linefaultEdge) (cleared : c ≠ .linefaultReleased) (auth : ∀ p, c ≠ .authSelChange p) :
    exec c s = .next s := by
  cases c
  case powerOnReset => exact absurd rfl reset
  case porAsserted => exact absurd rfl por
  case blockLineAsserted => exact absurd rfl block
  case blockLineReleased => exact absurd rfl release
  case linefaultEdge => exact absurd rfl fault
  case linefaultReleased => exact absurd rfl cleared
  case authSelChange p => exact absurd rfl (auth p)
  case deferredSwap occasion => cases occasion <;> exact powered_of_porLow low _
  case onTimeEnd | gapEnd | stopFrameEnd => exact powered_of_porLow low fun t => t.setLane _ _
  all_goals exact powered_of_porLow low _

/-- Settles O6: the assertion on a line that was low, by whether the converter is stopped, and the two levels that are
followed while POR is low. -/
theorem blockLineStopsTheConverter : Obligations.BlockLineStopsTheConverter := by
  unfold Obligations.BlockLineStopsTheConverter
  refine ⟨fun s porHigh low active => ?_, fun s porHigh low stopped => ?_, fun s => rfl,
    fun q s executing blocked high => ?_, fun s high => exec_blockLineAsserted_of_high high,
    fun s porLow => ⟨fun low => ?_, fun low => ?_, fun c => exec_of_porLow porLow⟩⟩
  · rw [exec_blockLineAsserted_of_low low, porHigh, if_neg Bool.false_ne_true]
    exact congrArg _ (takeBlockAssertion_of_active active)
  · rw [exec_blockLineAsserted_of_low low, porHigh, if_neg Bool.false_ne_true]
    exact congrArg _ (takeBlockAssertion_of_stopped stopped)
  · exact refuses_of_claimOf rfl executing (deblockClaim_of_refusal blocked (deblockRefusal_of_blockLine high))
  · rw [exec_blockLineAsserted_of_low low, porLow, if_pos rfl]
  · rw [exec_linefaultEdge_of_low low, porLow, if_pos rfl]

/-! ### TRIM (R98) -/

theorem trimBy_of_kept {step : Int} {s : State} (h : limitCorrection (s.phase.correction + step) = s.phase.correction) :
    trimBy step s = (s, some (plain .clamped)) := by
  simp [trimBy, h]

/-- A trim within the limits moves the correction by its step, and the spacing is 0 where the correction becomes 0. -/
theorem trimBy_of_moved {step : Int} {s : State} (moves : step ≠ 0) (least : -50 ≤ s.phase.correction + step)
    (greatest : s.phase.correction + step ≤ 50) : trimBy step s =
    ({ s with phase := { s.phase with
        correction := s.phase.correction + step
        spacing := if s.phase.correction = -step then 0 else s.phase.spacing } }, some (plain .done)) := by
  have limited : limitCorrection (s.phase.correction + step) = s.phase.correction + step := by
    unfold limitCorrection; omega
  have zero : s.phase.correction + step = 0 ↔ s.phase.correction = -step := by omega
  simp [trimBy, limited, moves, setCorrection, zero]

/-- Settles O11: the two field checks, then the correction against its limit. -/
theorem trimMovesTheCorrection : Obligations.TrimMovesTheCorrection := by
  unfold Obligations.TrimMovesTheCorrection
  intro q insert suppress s executing ok
  obtain ⟨least, greatest⟩ := ok.correction
  refine ⟨fun i d => ?_, fun i runs => ?_, fun i d runs => ?_, fun i d runs => ⟨fun limit => ?_, fun below => ?_⟩,
    fun i d runs => ⟨fun limit => ?_, fun above => ?_⟩⟩
  · exact refuses_of_claimOf rfl executing (by simp [trimClaim, i, d])
  · refine refuses_of_claimOf rfl executing ?_
    rcases i with i | i <;> simp [trimClaim, i, runs]
  · exact refuses_of_claimOf rfl executing (by simp [trimClaim, i, d, runs])
  · have kept := trimBy_of_kept (step := 1) (s := s) (by rw [limit]; decide)
    exact refuses_of_claimOf rfl executing (by simp [trimClaim, i, d, runs, kept])
  · have moved := trimBy_of_moved (step := 1) (s := s) (by decide) (by omega) (by omega)
    exact completes_of_claimOf rfl executing (by simpa [trimClaim, i, d, runs] using moved) (.of_eq rfl rfl) rfl
  · have kept := trimBy_of_kept (step := -1) (s := s) (by rw [limit]; decide)
    exact refuses_of_claimOf rfl executing (by simp [trimClaim, i, d, runs, kept])
  · have moved := trimBy_of_moved (step := -1) (s := s) (by decide) (by omega) (by omega)
    exact completes_of_claimOf rfl executing (by simpa [trimClaim, i, d, runs, sub_eq_add_neg] using moved) (.of_eq rfl rfl) rfl

/-! ### Trips (R133, R134) -/

theorem raiseTrip_of_firing {s : State} (state : s.seq.conv = .ramping ∨ s.seq.conv = .running) (cause : TripCause) :
    raiseTrip cause s = stopByRole .tripped (latchTrip cause s) := by
  rcases state with state | state <;> simp [raiseTrip, state]

theorem raiseTrip_of_exiting {s : State} (state : s.seq.conv = .retarded ∨ s.seq.conv = .bypassing) (cause : TripCause) :
    raiseTrip cause s = strengthen .tripped (latchTrip cause s) := by
  rcases state with state | state <;> simp [raiseTrip, state]

theorem raiseTrip_of_stopped {s : State} (state : s.seq.conv = .blocked ∨ s.seq.conv = .tripped) (cause : TripCause) :
    raiseTrip cause s = s := by
  rcases state with state | state <;> simp [raiseTrip, state]

theorem enter_blocked_of_pending {s : State} (state : s.seq.conv = .pending) :
    enter .blocked none s = converterChange (stoppedAs .blocked) s :=
  enter_stopped_of_idle rfl (by rw [state]; rfl)

theorem unfitEntry_evidence_of_firing {s : State} (state : s.seq.conv = .ramping ∨ s.seq.conv = .running) (v : Valve) :
    unfitEntry v .evidence s =
      { raiseTrip (.valveUnfit v) s with seq := { (raiseTrip (.valveUnfit v) s).seq with freshTrip := true } } := by
  rcases state with state | state <;> simp [unfitEntry, markTrip, state]

theorem markTrip_of_elsewhere {c : Conv} (ramping : c ≠ .ramping) (running : c ≠ .running) (s : State) :
    markTrip c s = s := by
  unfold markTrip
  split
  case h_1 => exact absurd rfl ramping
  case h_2 => exact absurd rfl running
  case h_3 => rfl

/-- Settles O12: the trip cause by converter state, with the latch set first where the state lets it be. -/
theorem tripCausesByState : Obligations.TripCausesByState := by
  unfold Obligations.TripCausesByState
  refine fun cause s => ⟨fun clear => ⟨fun firing => ⟨fun role => ?_, fun role => ?_⟩, fun exiting weaker => ?_,
    fun deionizing => ?_⟩, fun exiting set tripped => ?_, fun pending => ?_, fun stopped => raiseTrip_of_stopped stopped cause,
    fun v firing => ?_, fun v ramping running => ?_, fun v => ?_, rfl⟩
  · rw [raiseTrip_of_firing firing, latchTrip_of_clear clear]
    exact stopByRole_of_rectifier (s := setNotice .trip { s with seq := latched cause s.seq }) role .tripped
  · rw [raiseTrip_of_firing firing, latchTrip_of_clear clear]
    exact stopByRole_of_inverter (s := setNotice .trip { s with seq := latched cause s.seq }) role .tripped
  · rw [raiseTrip_of_exiting exiting, latchTrip_of_clear clear]
    rcases weaker with exit | exit
    · exact strengthen_of_stronger exit (by decide)
    · exact strengthen_of_stronger exit (by decide)
  · have raised : raiseTrip cause s = enter .tripped none (latchTrip cause s) := by simp [raiseTrip, deionizing]
    rw [raised, latchTrip_of_clear clear]
    exact enter_stopped_of_idle rfl (by simp [latched, deionizing, isFiring])
  · rw [raiseTrip_of_exiting exiting, latchTrip_of_set set]
    exact strengthen_of_weaker tripped (by decide)
  · have raised : raiseTrip cause s = enter .blocked none s := by simp [raiseTrip, pending]
    rw [raised, enter_blocked_of_pending pending]
  · rw [unfitEntry_evidence_of_firing firing]
    exact ⟨rfl, rfl⟩
  · exact markTrip_of_elsewhere ramping running _
  · unfold unfitEntry
    dsimp only
    split
    case isTrue pending => exact enter_blocked_of_pending pending
    case isFalse => rfl

end Sys2Proof.Machine

/-! The phase step event: what it leaves of the ports, the move of the phase section, and the ticks of a loaded period
(R92 to R97). -/

namespace Sys2Proof.Machine

/-! ### The ports outside their slots -/

/-- Outside its slots each port differs at most in notice flags that are set in addition. -/
def NoticesRise (s t : State) : Prop :=
  ∀ p, ∃ more, (t.port p).rest = { (s.port p).rest with flags := (s.port p).flags ||| more }

theorem NoticesRise.refl (s : State) : NoticesRise s s := fun _ => ⟨0, by simp [PortUnit.rest]⟩

theorem NoticesRise.trans {s t u : State} (h : NoticesRise s t) (k : NoticesRise t u) : NoticesRise s u := fun p => by
  obtain ⟨a, first⟩ := h p
  obtain ⟨b, second⟩ := k p
  have flags : (t.port p).flags = (s.port p).flags ||| a := congrArg PortRest.flags first
  exact ⟨a ||| b, by rw [second, first, flags, BitVec.or_assoc]⟩

theorem NoticesRise.of_rest {s t : State} (h : ∀ p, (t.port p).rest = (s.port p).rest) : NoticesRise s t := fun p =>
  ⟨0, by rw [h p]; simp [PortUnit.rest]⟩

theorem NoticesRise.of_eq {s t : State} (ha : t.portA = s.portA) (hb : t.portB = s.portB) : NoticesRise s t :=
  .of_rest fun p => by rw [State.port_congr ha hb]

theorem NoticesRise.of_samePorts {s t : State} (h : SamePorts s t) (k : FlagsStay s t) : NoticesRise s t := fun p => by
  obtain ⟨more, flags⟩ := k p
  exact ⟨more, by rw [h p, flags]; rfl⟩

theorem NoticesRise.flagsStay {s t : State} (h : NoticesRise s t) : FlagsStay s t := fun p => by
  obtain ⟨more, rest⟩ := h p
  exact ⟨more, congrArg PortRest.flags rest⟩

theorem NoticesRise.outside {s t : State} (h : NoticesRise s t) (p : Port) :
    (t.port p).mask = (s.port p).mask ∧ (t.port p).transfer = (s.port p).transfer ∧
    (t.port p).refused = (s.port p).refused ∧ (t.port p).shiftedOut = (s.port p).shiftedOut := by
  obtain ⟨more, rest⟩ := h p
  exact ⟨congrArg PortRest.mask rest, congrArg PortRest.transfer rest, congrArg PortRest.refused rest,
    congrArg PortRest.shiftedOut rest⟩

theorem setNotice_rises (n : Notice) (s : State) : NoticesRise s (setNotice n s) :=
  .of_samePorts (setNotice_samePorts n s) (setNotice_flagsStay n s)

theorem placeAnswer_rises (p : Port) (r : Reply) (s : State) : NoticesRise s (placeAnswer p r s) :=
  .of_rest fun x => placeAnswer_rest p x r s

theorem engineBegin_rises (n : Nat) (s : State) : NoticesRise s (engineBegin n s) :=
  .of_rest fun p => engineBegin_rest n p s

/-! ### The notices that the parts of a step event leave -/

theorem enterRamping_flagsStay (s : State) : FlagsStay s (enterRamping s) :=
  (enter_flagsStay .ramping none s).trans (.of_eq rfl rfl)

theorem takeExit_flagsStay (s : State) : FlagsStay s (takeExit s) := by
  unfold takeExit
  split
  · exact (enter_flagsStay .deionizing none s).trans (.of_eq rfl rfl)
  · exact enter_flagsStay .blocked none s
  · exact enter_flagsStay .tripped none s
  · exact .refl s

/-- New items of the sequencer leave the flags. -/
theorem flagsStay_seq (q : Sequencer) (s : State) : FlagsStay s { s with seq := q } := .of_eq rfl rfl

theorem settleRestart_flagsStay (s : State) : FlagsStay s (settleRestart s) := by
  unfold settleRestart
  split
  · exact (enter_flagsStay .blocked none s).trans (setNotice_flagsStay .restarts _)
  · dsimp only
    split
    · exact (flagsStay_seq _ s).trans (enter_flagsStay .blocked none _)
    · exact (flagsStay_seq _ s).trans (enterRamping_flagsStay _)

theorem afterFailures_flagsStay {work : State → State} (works : ∀ u, FlagsStay u (work u)) (s : State) :
    FlagsStay s (afterFailures work s) := by
  unfold afterFailures
  dsimp only
  split
  · exact (flagsStay_seq _ s).trans (raiseTrip_flagsStay _ _)
  · exact (flagsStay_seq _ s).trans (works _)

theorem rampStep_flagsStay (s : State) : FlagsStay s (rampStep s) := by
  unfold rampStep
  dsimp only
  split
  · exact (flagsStay_seq _ s).trans (enter_flagsStay .running none _)
  · exact flagsStay_seq _ s

theorem recoveryStep_flagsStay (s : State) : FlagsStay s (recoveryStep s) := by
  unfold recoveryStep
  split
  · exact flagsStay_seq _ s
  · exact .refl s

theorem sequencerCycleWork_flagsStay (s : State) : FlagsStay s (sequencerCycleWork s) := by
  unfold sequencerCycleWork
  split
  case h_1 => exact (enterRamping_flagsStay s).trans (flagsStay_seq _ _)
  case h_2 => exact afterFailures_flagsStay rampStep_flagsStay s
  case h_3 => exact afterFailures_flagsStay recoveryStep_flagsStay s
  case h_4 =>
    unfold retardStep
    dsimp only
    split
    · exact .refl s
    · split
      · exact (flagsStay_seq _ s).trans (takeExit_flagsStay _)
      · exact flagsStay_seq _ s
  case h_5 =>
    unfold deionizationStep
    dsimp only
    split
    · exact (flagsStay_seq _ s).trans (settleRestart_flagsStay _)
    · exact flagsStay_seq _ s
  case h_6 =>
    unfold bypassStep
    dsimp only
    split
    · exact .refl s
    · split
      · exact (flagsStay_seq _ s).trans (takeExit_flagsStay _)
      · exact flagsStay_seq _ s
  case h_7 | h_8 => exact .refl s

theorem sequencerCycleWork_rises (s : State) : NoticesRise s (sequencerCycleWork s) :=
  .of_samePorts (sequencerCycleWork_samePorts s) (sequencerCycleWork_flagsStay s)

theorem makePendingSwap_rises (s : State) : NoticesRise s (makePendingSwap s) := by
  have made : NoticesRise s (makeSwap s) :=
    .trans (t := { s with schedule := swapPages s.schedule }) (.of_eq rfl rfl) (setNotice_rises .swap _)
  unfold makePendingSwap
  split
  · exact made.trans (placeAnswer_rises _ _ _)
  · exact .refl s

theorem swapAtCycleStart_rises (s : State) : NoticesRise s (swapAtCycleStart s) := by
  unfold swapAtCycleStart
  split
  · exact makePendingSwap_rises s
  · exact .refl s

theorem sweepTick_rises (s : State) : NoticesRise s (sweepTick s) := .of_eq (by simp) (by simp)

theorem cycleStartWork_rises (s : State) : NoticesRise s (cycleStartWork s) :=
  ((swapAtCycleStart_rises s).trans (sequencerCycleWork_rises _)).trans (sweepTick_rises _)

theorem holdOr_rises {kept : Option Poll} {go : State → State} {s : State} (goes : NoticesRise s (go s)) :
    NoticesRise s (holdOr kept go s) := by
  unfold holdOr
  split
  · exact .trans (t := becomeHeld kept s) (.of_eq rfl rfl) (placeAnswer_rises _ _ _)
  · exact goes

theorem becomeIdle_rises (s : State) : NoticesRise s (becomeIdle s) := .of_eq rfl rfl

theorem cutPoll_rises (p : Poll) (s : State) : NoticesRise s (cutPoll p s) :=
  .trans (t := tellCut p s) (.of_eq rfl rfl) (holdOr_rises (becomeIdle_rises _))

theorem requestCut_rises (s : State) : NoticesRise s (requestCut s) := by
  unfold requestCut
  split
  case h_1 p _ =>
    split
    · split
      case h_3 => exact cutPoll_rises p s
      all_goals exact .of_eq rfl rfl
    · exact .refl s
  case h_2 => exact .refl s

theorem checkPoint_rises (v : Valve) (s : State) : NoticesRise s (checkPoint v s) := by
  have superseded : NoticesRise s (supersede v s) := .of_eq (by simp) (by simp)
  have joined (u : State) : NoticesRise u (joinCycle v u) := by
    unfold joinCycle
    split
    · exact .of_eq rfl rfl
    · exact .trans (t := { u with sources := { u.sources with cycleQueue := u.sources.cycleQueue ++ [v] } })
        (.of_eq rfl rfl) (requestCut_rises _)
  unfold checkPoint
  split
  · exact superseded.trans (joined _)
  · exact .refl s

theorem checkPoints_rises (passed : List Nat) (armed : Vector (Option Nat) 12) (s : State) :
    NoticesRise s (checkPoints passed armed s) :=
  foldl_preserves (P := NoticesRise s) (f := takeCheckPoint)
    (fun t v k => (k.trans (.of_eq rfl rfl)).trans
      (checkPoint_rises v { t with sources := { t.sources with armed := put t.sources.armed v none } })) _ (.refl s)

/-- The work of a cycle start is told to the ports by the notices of the whole step event. -/
theorem stepEvent_rises_after_work {s : State} (counting : s.phase.counting = true) :
    NoticesRise (stepWork s) (stepEvent s) := by
  rw [stepEvent_eq counting]
  have settled : NoticesRise (stepWork s) (settleTrip (stepWork s)) := .of_eq rfl rfl
  have checked := settled.trans (checkPoints_rises (passedNext s.phase) s.sources.armed (settleTrip (stepWork s)))
  generalize checkPoints (passedNext s.phase) s.sources.armed (settleTrip (stepWork s)) = u at checked ⊢
  exact checked.trans (.of_eq (by simp) (by simp))

theorem stepWork_rises (s : State) : NoticesRise s (stepWork s) := by
  have moved : NoticesRise s { s with phase := advancePhase s.phase } := .of_eq rfl rfl
  unfold stepWork
  split
  · exact moved.trans (cycleStartWork_rises _)
  · exact moved

theorem stepEvent_rises (s : State) : NoticesRise s (stepEvent s) := by
  by_cases counting : s.phase.counting = true
  · exact (stepWork_rises s).trans (stepEvent_rises_after_work counting)
  · rw [stepEvent_stopped counting]; exact .refl s

/-! ### The phase section (R92, R93, R97) -/

theorem exec_phaseStepEvent {s : State} (porHigh : s.lines.porLow = false) :
    exec .phaseStepEvent s = .next (stepEvent s) := powered_of_powered porHigh stepEvent

/-- An event that is one case of a larger event is that event where the case is due (log entry 4). -/
theorem powered_whenDue {due : State → Bool} {event : State → State} {s : State} (porHigh : s.lines.porLow = false)
    (h : due s = true) : powered (whenDue due event) s = .next (event s) := by
  simp [powered_of_powered porHigh, whenDue, h]

theorem stepEvent_stepFrame (s : State) : StepFrame s (stepEvent s) := by
  have phase := stepEvent_phase s
  have outside := (stepEvent_rises s).outside
  unfold StepFrame
  rw [phase]
  split <;> simp [outside]

theorem stepEvent_phase_of_counting {s : State} (counting : s.phase.counting = true) :
    (stepEvent s).phase = advancePhase s.phase := (stepEvent_phase s).trans (if_pos counting)

theorem advance_of_plain {f : Phase} (h : correctionDue f = false) : advance f = 1 := by simp [advance, h]

theorem correctionDue_of_plain {f : Phase} (h : f.correction = 0 ∨ chainRuns f.lock = false ∨ f.spacing < 9) :
    correctionDue f = false := by
  rcases h with h | h | h
  · simp [correctionDue, h]
  · simp [correctionDue, h]
  · simp [correctionDue, Nat.not_le.2 h]

theorem passedNext_of_plain {f : Phase} (h : correctionDue f = false) : passedNext f = [(f.phase + 1) % 3600] := by
  simp [passedNext, advance_of_plain h, passedValues]

theorem afterCorrection_of_plain {f : Phase} (h : correctionDue f = false) :
    (afterCorrection f).correction = f.correction ∧
    (afterCorrection f).spacing =
      if f.correction ≠ 0 ∧ chainRuns f.lock = true then f.spacing + 1 else f.spacing := by
  have steers : (decide (f.correction ≠ 0) && chainRuns f.lock) = true ↔ f.correction ≠ 0 ∧ chainRuns f.lock = true := by
    simp
  simp only [afterCorrection, h, Bool.false_eq_true, if_false, steers]
  split <;> exact ⟨rfl, rfl⟩

theorem correctionDue_of_steered {f : Phase} (counting : f.counting = true) (runs : chainRuns f.lock = true)
    (spaced : 9 ≤ f.spacing) (steered : f.correction ≠ 0) : correctionDue f = true := by
  simp [correctionDue, counting, runs, spaced, steered]

theorem advance_of_inserted {f : Phase} (due : correctionDue f = true) (inserted : 0 < f.correction) :
    advance f = 2 ∧ passedNext f = [(f.phase + 1) % 3600, (f.phase + 2) % 3600] ∧
    (afterCorrection f).correction = f.correction - 1 ∧ (afterCorrection f).spacing = 0 := by
  simp [advance, passedNext, passedValues, afterCorrection, due, inserted, List.range_succ]

theorem advance_of_suppressed {f : Phase} (due : correctionDue f = true) (suppressed : f.correction < 0) :
    advance f = 0 ∧ passedNext f = [] ∧
    (afterCorrection f).correction = f.correction + 1 ∧ (afterCorrection f).spacing = 0 := by
  have negative : ¬ 0 < f.correction := by omega
  simp [advance, passedNext, passedValues, afterCorrection, due, negative]

theorem cycleStartNext_iff {f : Phase} (counting : f.counting = true) :
    cycleStartNext f = true ↔ 0 ∈ passedNext f := by simp [cycleStartNext, counting]

theorem advancePhase_counting {f : Phase} (counting : f.counting = true) : (advancePhase f).counting = true := by
  unfold advancePhase nextStep
  dsimp only
  split <;> simp [loadPeriod, beginStep, counting]

/-- Settles O13: the sections of the phase after the event, by the correction that it carries and by what is loaded. -/
theorem phaseStepMovesTheChain : Obligations.PhaseStepMovesTheChain := by
  unfold Obligations.PhaseStepMovesTheChain
  refine fun s porHigh => ⟨fun stopped => ?_, fun counting => ⟨stepEvent s, exec_phaseStepEvent porHigh,
    stepEvent_stepFrame s, ?_⟩⟩
  · rw [exec_phaseStepEvent porHigh, stepEvent_stopped (by simp [stopped])]
  rw [stepEvent_phase_of_counting counting]
  have correction (due : correctionDue s.phase = true) : exec .phaseCorrection s = .next (stepEvent s) :=
    powered_whenDue porHigh due
  have notStart (h : 0 ∉ passedNext s.phase) : cycleStartNext s.phase = false := by
    simpa [← cycleStartNext_iff counting] using h
  refine ⟨advancePhase_counting counting, fun plain => ?_, fun runs spaced => ⟨fun inserted => ?_, fun suppressed => ?_⟩,
    ?_, fun p start pending saved => ?_, fun p elsewhere loaded => ?_⟩
  · have due := correctionDue_of_plain plain
    obtain ⟨same, spacing⟩ := afterCorrection_of_plain due
    simp [advance_of_plain due, passedNext_of_plain due, same, spacing]
  · have due := correctionDue_of_steered counting runs spaced (by omega)
    obtain ⟨two, passed, less, restarted⟩ := advance_of_inserted due inserted
    exact ⟨correction due, by simp [two], by simp [less], by simp [restarted], passed⟩
  · have due := correctionDue_of_steered counting runs spaced (by omega)
    obtain ⟨none, passed, more, restarted⟩ := advance_of_suppressed due suppressed
    exact ⟨correction due, by simp [none], by simp [more], by simp [restarted], passed⟩
  · simp [cycleStartNext, counting]
  · obtain ⟨period, made, -, tick, short, spread⟩ :=
      advancePhase_of_load ((cycleStartNext_iff counting).2 start) pending saved
    exact ⟨period, made, tick, short, spread⟩
  · have next : (cycleStartNext s.phase && s.phase.pendingLoad) = false := by
      rcases elsewhere with h | h
      · simp [notStart h]
      · simp [h]
    simp [advancePhase, nextStep, next, loaded, beginStep, stepRemainder]

/-! ### The ticks of a period (R92) -/

/-- The step that follows `k` steps of a period that was loaded: the remainders so far, folded below 3,600. -/
theorem nextStep_iterate_loadPeriod (p : Nat) (f : Phase) (k : Nat) :
    ((nextStep false)^[k] (loadPeriod p f)).loaded = some p ∧
    ((nextStep false)^[k] (loadPeriod p f)).spreadAcc = (k + 1) * (p % 3600) % 3600 ∧
    ((nextStep false)^[k] (loadPeriod p f)).longStep =
      decide ((k + 1) * (p % 3600) / 3600 = k * (p % 3600) / 3600 + 1) := by
  have below : p % 3600 < 3600 := Nat.mod_lt _ (by decide)
  induction k with
  | zero =>
    have short : ¬ 3600 ≤ p % 3600 := by omega
    simp [loadPeriod, beginStep, stepRemainder, short]
  | succ k ih =>
    obtain ⟨loaded, spread, -⟩ := ih
    rw [Function.iterate_succ_apply']
    generalize (nextStep false)^[k] (loadPeriod p f) = g at loaded spread
    have sum : (k + 1 + 1) * (p % 3600) = (k + 1) * (p % 3600) + p % 3600 := by ring
    rw [sum]
    generalize (k + 1) * (p % 3600) = before at spread ⊢
    simp only [nextStep, loaded, Bool.false_and, beginStep, stepRemainder, spread]
    refine ⟨trivial, ?_, ?_⟩
    · split <;> omega
    · exact decide_eq_decide.2 (by omega)

/-- As many of the first `n` steps of a loaded period are long as the remainders so far fill of 3,600. -/
theorem longSteps_of_loadPeriod (p : Nat) (f : Phase) (n : Nat) :
    ((List.range n).filter fun k => ((nextStep false)^[k] (loadPeriod p f)).longStep).length =
      n * (p % 3600) / 3600 := by
  have below : p % 3600 < 3600 := Nat.mod_lt _ (by decide)
  induction n with
  | zero => simp
  | succ n ih =>
    obtain ⟨-, -, long⟩ := nextStep_iterate_loadPeriod p f n
    have sum : (n + 1) * (p % 3600) = n * (p % 3600) + p % 3600 := by ring
    rw [List.range_succ, List.filter_append, List.length_append, ih]
    simp only [List.filter_cons, List.filter_nil, long, decide_eq_true_eq]
    split
    case isTrue filled => rw [filled]; rfl
    case isFalse short => rw [sum] at short ⊢; simp only [List.length_nil]; omega

/-- The first `n` steps of a loaded period take its step length each, and one tick more where they are long. -/
theorem ticks_of_loadPeriod (p : Nat) (f : Phase) (n : Nat) :
    ((List.range n).map fun k => (presentLength ((nextStep false)^[k] (loadPeriod p f))).getD 0).sum =
      n * (p / 3600) + ((List.range n).filter fun k => ((nextStep false)^[k] (loadPeriod p f)).longStep).length := by
  induction n with
  | zero => simp
  | succ n ih =>
    obtain ⟨loaded, -, -⟩ := nextStep_iterate_loadPeriod p f n
    have length : (presentLength ((nextStep false)^[n] (loadPeriod p f))).getD 0 =
        p / 3600 + if ((nextStep false)^[n] (loadPeriod p f)).longStep then 1 else 0 := by
      simp [presentLength, loaded, stepLength]
    have product : (n + 1) * (p / 3600) = n * (p / 3600) + p / 3600 := by ring
    rw [List.range_succ, List.map_append, List.sum_append, ih, List.filter_append, List.length_append, product]
    simp only [List.map_cons, List.map_nil, List.sum_cons, List.sum_nil, length, List.filter_cons, List.filter_nil]
    split <;> simp <;> omega

/-- Settles O14: 3,600 steps of the step length, with as many long ones as the remainder. -/
theorem periodTakesItsTicks : Obligations.PeriodTakesItsTicks := by
  unfold Obligations.PeriodTakesItsTicks
  intro p f
  have long : ((List.range 3600).filter fun k => ((nextStep false)^[k] (loadPeriod p f)).longStep).length = p % 3600 := by
    rw [longSteps_of_loadPeriod]
    omega
  refine ⟨?_, long⟩
  rw [ticks_of_loadPeriod, long]
  omega

end Sys2Proof.Machine

/-! A cycle start: the sequencer's work by converter state, and the sweep source's (R81, R82, R125, R126, R128, R129,
R131). -/

namespace Sys2Proof.Machine

/-! ### The parts of a step event -/

/-- A state at a step event that is a cycle start, as the sequencer's work finds it: the phase moved on, a pending swap
made (R95, R114). -/
def turned (s : State) : State := swapAtCycleStart { s with phase := advancePhase s.phase }

@[simp] theorem turned_frame (s : State) :
    (turned s).table = s.table ∧ (turned s).tallies = s.tallies ∧ (turned s).settings = s.settings ∧
    (turned s).link = s.link ∧ (turned s).sources = s.sources ∧ (turned s).seq = s.seq ∧
    (turned s).lanes = s.lanes := by
  unfold turned swapAtCycleStart
  split <;> simp

theorem unfitCount_turned (s : State) : unfitCount (turned s) = unfitCount s :=
  unfitCount_congr (turned_frame s).2.1

/-- A step event that is a cycle start (R93, R95). -/
theorem stepWork_of_start {s : State} (counting : s.phase.counting = true) (start : 0 ∈ passedNext s.phase) :
    stepWork s = sweepTick (sequencerCycleWork (turned s)) :=
  if_pos ((cycleStartNext_iff counting).2 start)

theorem stepWork_of_noStart {s : State} (counting : s.phase.counting = true) (noStart : 0 ∉ passedNext s.phase) :
    stepWork s = { s with phase := advancePhase s.phase } :=
  if_neg fun start => noStart ((cycleStartNext_iff counting).1 start)

/-- The check points taken at a step event, before its windows (log entry 31). -/
def stepChecked (s : State) : State := checkPoints (passedNext s.phase) s.sources.armed (settleTrip (stepWork s))

@[simp] theorem stepChecked_frame (s : State) :
    (stepChecked s).seq = { (stepWork s).seq with freshTrip := false } ∧ (stepChecked s).lanes = (stepWork s).lanes ∧
    (stepChecked s).schedule = (stepWork s).schedule ∧ (stepChecked s).phase = (stepWork s).phase ∧
    (stepChecked s).settings = s.settings ∧ (stepChecked s).table = s.table := by
  unfold stepChecked
  simp

theorem stepEvent_of_counting {s : State} (counting : s.phase.counting = true) :
    stepEvent s = bypassPart s.seq.conv (passedNext s.phase).length
      (judgeWindows (passedNext s.phase) (stepChecked s)) := stepEvent_eq counting

@[simp] theorem stepEvent_schedule (s : State) (counting : s.phase.counting = true) :
    (stepEvent s).schedule = (stepWork s).schedule := by
  rw [stepEvent_eq counting]
  simp

theorem livePage_of_start {s : State} (counting : s.phase.counting = true) (start : 0 ∈ passedNext s.phase) :
    (turned s).livePage = (stepEvent s).livePage :=
  livePage_congr (by simp [counting, stepWork_of_start counting start])

/-- Outside BYPASSING a step event leaves the sequencer, its windows apart, as the cycle start's work made it. -/
theorem stepEvent_apartWindows {s : State} (counting : s.phase.counting = true)
    (elsewhere : s.seq.conv ≠ .bypassing ∨ (stepWork s).seq.conv ≠ .bypassing) :
    apartWindows (stepEvent s).seq = apartWindows { (stepWork s).seq with freshTrip := false } := by
  obtain ⟨w, judged, -⟩ := judgeWindows_seq (passedNext s.phase) (stepChecked s)
  have stays : ¬ (s.seq.conv = .bypassing ∧ (judgeWindows (passedNext s.phase) (stepChecked s)).seq.conv = .bypassing) := by
    rw [judgeWindows_conv, (stepChecked_frame s).1]
    exact not_and_or.2 elsewhere
  rw [stepEvent_of_counting counting]
  unfold bypassPart
  rw [if_neg stays, judged, (stepChecked_frame s).1]
  rfl

/-- Outside the states with windows, and outside BYPASSING, a step event leaves the sequencer and the lanes as the cycle
start's work made them. -/
theorem stepEvent_windowless {s : State} (counting : s.phase.counting = true)
    (windowless : hasWindows (stepWork s).seq.conv = false)
    (elsewhere : s.seq.conv ≠ .bypassing ∨ (stepWork s).seq.conv ≠ .bypassing) :
    (stepEvent s).seq = { (stepWork s).seq with freshTrip := false } ∧ (stepEvent s).lanes = (stepWork s).lanes := by
  have none : judgeWindows (passedNext s.phase) (stepChecked s) = stepChecked s := by
    unfold judgeWindows
    rw [effectiveBase_none (by simpa using windowless)]
  have stays : ¬ (s.seq.conv = .bypassing ∧ (stepChecked s).seq.conv = .bypassing) := by
    rw [(stepChecked_frame s).1]
    exact not_and_or.2 elsewhere
  rw [stepEvent_of_counting counting, none]
  unfold bypassPart
  rw [if_neg stays]
  simp

/-- A cycle start's notices stay to the end of its step event. -/
theorem noticeSet_of_work {n : Notice} {s : State} (counting : s.phase.counting = true) (start : 0 ∈ passedNext s.phase)
    (set : NoticeSet n (sequencerCycleWork (turned s))) : NoticeSet n (stepEvent s) := by
  have rises : NoticesRise (sequencerCycleWork (turned s)) (stepEvent s) := by
    have after := stepEvent_rises_after_work counting
    rw [stepWork_of_start counting start] at after
    exact (sweepTick_rises _).trans after
  exact set.stays rises.flagsStay

theorem converterChange_noticeSet (f : Sequencer → Sequencer) (s : State) : NoticeSet .converter (converterChange f s) :=
  setNotice_noticeSet .converter _

theorem enter_noticeSet (c : Conv) (x : Option ExitTarget) (s : State) : NoticeSet .converter (enter c x s) := by
  unfold enter
  dsimp only
  split
  · exact (setNotice_noticeSet .converter _).stays (.of_eq (cutLanes_portA _) (cutLanes_portB _))
  · exact setNotice_noticeSet .converter _

/-! ### RAMPING and RUNNING (R125) -/

theorem countFailures_eq (q : Sequencer) : countFailures q = failuresCounted q := rfl

theorem SequencerOk.freshTrip_of_noExit {s : State} (h : SequencerOk s) (noExit : hasExit s.seq.conv = false) :
    s.seq.freshTrip = false := by
  cases mark : s.seq.freshTrip
  case false => rfl
  case true =>
    obtain ⟨retarded | bypassing, -⟩ := h.trip mark
    · rw [retarded] at noExit; cases noExit
    · rw [bypassing] at noExit; cases noExit

theorem SequencerOk.exit_none {s : State} (h : SequencerOk s) (noExit : hasExit s.seq.conv = false) :
    s.seq.exitTarget = none := by
  have exit := h.exit
  rw [noExit] at exit
  simpa using exit

theorem SequencerOk.latch_clear {s : State} (h : SequencerOk s) (noExit : hasExit s.seq.conv = false)
    (notTripped : s.seq.conv ≠ .tripped) : s.seq.tripLatch = false := by
  have latch : ¬ s.seq.tripLatch = true := by
    rw [h.latch, h.exit_none noExit]
    simpa using notTripped
  simpa using latch

theorem SequencerOk.turned {s : State} (h : SequencerOk s) : SequencerOk (turned s) := h.congr (by simp) (by simp)

theorem commutationTripValve_of_limit {s : State} {v : Valve} (limit : s.settings.cfLimit ≤ (failuresCounted s.seq).cfRun)
    (last : s.seq.lastFailure = some v) : commutationTripValve s = some v := by
  simp [commutationTripValve, countFailures_eq, limit, last]

theorem commutationTripValve_of_below {s : State} (below : (failuresCounted s.seq).cfRun < s.settings.cfLimit) :
    commutationTripValve s = none := by
  simp [commutationTripValve, countFailures_eq, Nat.not_le.2 below]

theorem commutationTripValve_turned (s : State) : commutationTripValve (turned s) = commutationTripValve s := by
  simp [commutationTripValve]

/-- The trip of R125, step 3: from RAMPING or RUNNING, with the latch clear. -/
theorem raiseTrip_of_counted {s : State} (firing : s.seq.conv = .ramping ∨ s.seq.conv = .running)
    (clear : s.seq.tripLatch = false) (cause : TripCause) :
    (raiseTrip cause { s with seq := failuresCounted s.seq }).seq =
      (match s.livePage.role with
        | .rectifier => retardedWith .tripped (latched cause (failuresCounted s.seq))
        | .inverter => bypassingWith .tripped (latched cause (failuresCounted s.seq))) ∧
    NoticeSet .trip (raiseTrip cause { s with seq := failuresCounted s.seq }) ∧
    NoticeSet .converter (raiseTrip cause { s with seq := failuresCounted s.seq }) := by
  have latch : latchTrip cause { s with seq := failuresCounted s.seq } =
      setNotice .trip { s with seq := latched cause (failuresCounted s.seq) } := latchTrip_of_clear clear
  have trip := setNotice_noticeSet .trip { s with seq := latched cause (failuresCounted s.seq) }
  rw [raiseTrip_of_firing (s := { s with seq := failuresCounted s.seq }) firing, latch]
  generalize e : setNotice .trip { s with seq := latched cause (failuresCounted s.seq) } = u at trip ⊢
  have seq : u.seq = latched cause (failuresCounted s.seq) := by rw [← e]; rfl
  have page : u.livePage = s.livePage := by rw [← e]; rfl
  have stays := stopByRole_flagsStay .tripped u
  cases role : s.livePage.role with
  | rectifier =>
    rw [stopByRole_of_rectifier (page ▸ role)] at stays ⊢
    exact ⟨congrArg (retardedWith .tripped) seq, trip.stays stays, converterChange_noticeSet _ _⟩
  | inverter =>
    rw [stopByRole_of_inverter (page ▸ role)] at stays ⊢
    exact ⟨congrArg (bypassingWith .tripped) seq, trip.stays stays, converterChange_noticeSet _ _⟩

theorem sequencerCycleWork_of_trip {s : State} {v : Valve} (firing : s.seq.conv = .ramping ∨ s.seq.conv = .running)
    (due : commutationTripValve s = some v) :
    sequencerCycleWork s = raiseTrip (.commutation v) { s with seq := failuresCounted s.seq } := by
  rcases firing with c | c <;> simp [sequencerCycleWork, c, afterFailures, due, countFailures_eq]

theorem rampToward_eq (ramp alpha rate : Nat) :
    (ramp < alpha → rampToward ramp alpha rate = min (ramp + rate) alpha) ∧
    (alpha ≤ ramp → (rampToward ramp alpha rate : Int) = max ((ramp : Int) - rate) alpha) := by
  unfold rampToward
  constructor
  · intro below; rw [if_pos below]
  · intro above; rw [if_neg (by omega)]; omega

/-- RAMPING without a trip (R125): the new ramp value, and RUNNING where it meets the live alpha. -/
theorem sequencerCycleWork_of_ramping {s : State} (h : SequencerOk s) (ramping : s.seq.conv = .ramping)
    (noTrip : commutationTripValve s = none) :
    let r := rampToward s.seq.ramp s.livePage.alpha s.settings.rampRate
    (sequencerCycleWork s).seq = { failuresCounted s.seq with
      ramp := r, conv := if r = s.livePage.alpha then .running else .ramping } ∧
    (r = s.livePage.alpha → NoticeSet .converter (sequencerCycleWork s)) := by
  have noExit : hasExit s.seq.conv = false := by rw [ramping]; rfl
  have exit := h.exit_none noExit
  have fresh := h.freshTrip_of_noExit noExit
  have recovery := h.recovery (by rw [ramping]; decide)
  have worked : sequencerCycleWork s = rampStep { s with seq := failuresCounted s.seq } := by
    simp [sequencerCycleWork, ramping, afterFailures, noTrip, countFailures_eq]
  have page : State.livePage { s with seq := failuresCounted s.seq } = s.livePage := rfl
  dsimp only
  rw [worked]
  unfold rampStep
  simp only [page]
  split
  case isTrue met =>
    have met : rampToward s.seq.ramp s.livePage.alpha s.settings.rampRate = s.livePage.alpha := met
    refine ⟨?_, fun _ => enter_noticeSet _ _ _⟩
    simp [enterItems, hasWindows, isStopped, failuresCounted, exit, fresh, recovery, met]
  case isFalse apart =>
    have apart : rampToward s.seq.ramp s.livePage.alpha s.settings.rampRate ≠ s.livePage.alpha := apart
    refine ⟨?_, fun met => absurd met apart⟩
    simp [failuresCounted, ramping, apart]

theorem sequencerCycleWork_of_running {s : State} (running : s.seq.conv = .running)
    (noTrip : commutationTripValve s = none) :
    sequencerCycleWork s = recoveryStep { s with seq := failuresCounted s.seq } := by
  simp [sequencerCycleWork, running, afterFailures, noTrip, countFailures_eq]

/-- The sequencer at the end of a cycle start's step event that the converter does not leave or enter BYPASSING by. -/
theorem stepEvent_apartWindows_of_start {s : State} (counting : s.phase.counting = true)
    (start : 0 ∈ passedNext s.phase) {q : Sequencer} (worked : (sequencerCycleWork (turned s)).seq = q)
    (elsewhere : s.seq.conv ≠ .bypassing ∨ q.conv ≠ .bypassing) (settled : q.freshTrip = false) :
    apartWindows (stepEvent s).seq = apartWindows q := by
  have seq : (stepWork s).seq = q := by rw [stepWork_of_start counting start]; simp [worked]
  have same : { q with freshTrip := false } = q := by rw [← settled]
  rw [stepEvent_apartWindows counting (by rwa [seq]), seq, same]

theorem not_bypassing_of_firing {c : Conv} (firing : c = .ramping ∨ c = .running) : c ≠ .bypassing := by
  rcases firing with rfl | rfl <;> decide

theorem retarded_or_bypassing_settled (role : Role) (x : ExitTarget) (q : Sequencer) :
    (match role with
      | .rectifier => retardedWith x q
      | .inverter => bypassingWith x q).freshTrip = false := by
  cases role <;> rfl

/-- Settles O18: the trip, the ramp and the recovery, each as the sequencer's work on the page that is live then. -/
theorem rampingAndRunning : Obligations.RampingAndRunning := by
  unfold Obligations.RampingAndRunning
  intro s porHigh counting start ok firing
  have bypassing := not_bypassing_of_firing firing
  have noExit : hasExit s.seq.conv = false := by rcases firing with c | c <;> rw [c] <;> rfl
  have fresh := ok.freshTrip_of_noExit noExit
  have page := livePage_of_start counting start
  have startNext := (cycleStartNext_iff counting).2 start
  refine ⟨stepEvent s, exec_phaseStepEvent porHigh, fun limit v last => ?_, fun below ramping => ?_,
    fun below running => ⟨fun ends => ?_, fun within => ?_, fun complete => ?_⟩⟩
  · have due := commutationTripValve_of_limit limit last
    have clear := ok.latch_clear noExit (by rcases firing with c | c <;> rw [c] <;> decide)
    obtain ⟨seq, trip, converter⟩ :=
      raiseTrip_of_counted (s := turned s) (by simpa using firing) (by simpa using clear) (.commutation v)
    rw [← sequencerCycleWork_of_trip (s := turned s) (by simpa using firing)
      ((commutationTripValve_turned s).trans due)] at seq trip converter
    have dueNow : commutationTripDue s = true := by
      rcases firing with c | c <;> simp [commutationTripDue, startNext, c, due]
    refine ⟨powered_whenDue porHigh dueNow, noticeSet_of_work counting start trip,
      noticeSet_of_work counting start converter, ?_⟩
    have settled := stepEvent_apartWindows_of_start counting start seq (.inl bypassing)
      (retarded_or_bypassing_settled _ _ _)
    rw [page, (turned_frame s).2.2.2.2.2.1] at settled
    exact settled
  · obtain ⟨seq, met⟩ := sequencerCycleWork_of_ramping ok.turned (by simpa using ramping)
      ((commutationTripValve_turned s).trans (commutationTripValve_of_below below))
    have settled := stepEvent_apartWindows_of_start counting start seq (.inl bypassing) (by simpa [failuresCounted] using fresh)
    simp only [page, turned_frame] at settled met
    obtain ⟨up, down⟩ := rampToward_eq s.seq.ramp (stepEvent s).livePage.alpha s.settings.rampRate
    exact ⟨_, settled, up, down, fun h => noticeSet_of_work counting start (met h)⟩
  all_goals
    have noTrip := commutationTripValve_of_below below
    have worked := congrArg State.seq (sequencerCycleWork_of_running (s := turned s) (by simpa using running)
      ((commutationTripValve_turned s).trans noTrip))
  · have due : recoveryDue s = true := by simp [recoveryDue, startNext, running, noTrip, ends]
    refine ⟨powered_whenDue porHigh due, stepEvent_apartWindows_of_start counting start
      (worked.trans ?_) (.inl bypassing) fresh⟩
    have more : s.seq.recovery < s.settings.recoveryCycles := by omega
    simp [recoveryStep, failuresCounted, more, ends]
  · refine stepEvent_apartWindows_of_start counting start (worked.trans ?_) (.inl bypassing) fresh
    have more : s.seq.recovery < s.settings.recoveryCycles := by omega
    have notYet : s.seq.recovery + 1 ≠ s.settings.recoveryCycles := by omega
    simp [recoveryStep, failuresCounted, more, notYet]
  · refine stepEvent_apartWindows_of_start counting start (worked.trans ?_) (.inl bypassing) fresh
    simp [recoveryStep, failuresCounted, Nat.not_lt.2 complete]

end Sys2Proof.Machine

/-! The stages that end at a cycle start (R126, R128, R129, R131, R134). -/

namespace Sys2Proof.Machine

/-! ### PENDING, RETARDED, DEIONIZING and BYPASSING at a cycle start -/

/-- RAMPING entered from a state without an exit target that counts no recovery. -/
theorem enterRamping_seq {s : State} (exit : s.seq.exitTarget = none) (fresh : s.seq.freshTrip = false)
    (recovery : s.seq.recovery = 0) :
    (enterRamping s).seq = { s.seq with conv := .ramping, ramp := s.settings.retardAngle } := by
  have items : enterItems .ramping none s.seq = { s.seq with conv := .ramping } := by
    simp [enterItems, hasWindows, isStopped, exit, fresh, recovery]
  simp [enterRamping, items]

theorem enterRamping_noticeSet (s : State) : NoticeSet .converter (enterRamping s) :=
  (enter_noticeSet .ramping none s).stays (.of_eq rfl rfl)

theorem sequencerCycleWork_of_pending {s : State} (h : SequencerOk s) (pending : s.seq.conv = .pending) :
    (sequencerCycleWork s).seq =
      { s.seq with conv := .ramping, ramp := s.settings.retardAngle, attempts := 0 } ∧
    NoticeSet .converter (sequencerCycleWork s) := by
  have noExit : hasExit s.seq.conv = false := by rw [pending]; rfl
  have worked : sequencerCycleWork s = startRamp s := by simp [sequencerCycleWork, pending]
  rw [worked]
  refine ⟨?_, (enterRamping_noticeSet s).stays (.of_eq rfl rfl)⟩
  simp [startRamp, enterRamping_seq (h.exit_none noExit) (h.freshTrip_of_noExit noExit)
    (h.recovery (by rw [pending]; decide))]

theorem converterStop_lanes (f : Sequencer → Sequencer) (s : State) :
    (converterStop f s).lanes = mapEntries cutLane s.lanes := by simp [converterStop, converterChange]

theorem converterStop_seq (f : Sequencer → Sequencer) (s : State) : (converterStop f s).seq = f s.seq := rfl

theorem converterStop_noticeSet (f : Sequencer → Sequencer) (s : State) : NoticeSet .converter (converterStop f s) :=
  converterChange_noticeSet f _

/-- The state that an exit target names, as its entry leaves the sequencer (R126, R128, R131). -/
def exitItems (x : ExitTarget) (q : Sequencer) : Sequencer :=
  match x with
  | .deionizing => deionizingFrom q
  | .blocked => stoppedAs .blocked q
  | .tripped => stoppedAs .tripped q

theorem takeExit_of_firing {s : State} {x : ExitTarget} (firing : isFiring s.seq.conv = true)
    (exit : s.seq.exitTarget = some x) : takeExit s = converterStop (exitItems x) s := by
  unfold takeExit
  rw [exit]
  cases x with
  | deionizing => exact enterDeionizing_of_firing firing
  | blocked => exact enter_stopped_of_firing rfl firing
  | tripped => exact enter_stopped_of_firing rfl firing

theorem exitItems_quiet (x : ExitTarget) (q : Sequencer) : hasWindows (exitItems x q).conv = false ∧
    (exitItems x q).conv ≠ .bypassing ∧ (exitItems x q).freshTrip = false := by
  cases x <;> exact ⟨rfl, by simp [exitItems, deionizingFrom, stoppedAs], rfl⟩

/-- A cycle start whose work takes the exit target: the lanes are cut, and the windows stay closed. -/
theorem stepEvent_of_exit {s : State} (counting : s.phase.counting = true) (start : 0 ∈ passedNext s.phase)
    {x : ExitTarget} {q : Sequencer}
    (worked : sequencerCycleWork (turned s) = converterStop (exitItems x) { turned s with seq := q }) :
    (stepEvent s).seq = exitItems x q ∧ NoticeSet .converter (stepEvent s) ∧
    (stepEvent s).lanes = mapEntries cutLane s.lanes := by
  obtain ⟨windowless, elsewhere, settled⟩ := exitItems_quiet x q
  have work : (stepWork s).seq = exitItems x q ∧ (stepWork s).lanes = mapEntries cutLane s.lanes := by
    rw [stepWork_of_start counting start, worked]
    simp [converterStop_lanes, converterStop_seq]
  obtain ⟨seq, lanes⟩ := stepEvent_windowless counting (by rwa [work.1]) (.inr (by rwa [work.1]))
  refine ⟨?_, noticeSet_of_work counting start (worked ▸ converterStop_noticeSet _ _), lanes.trans work.2⟩
  rw [seq, work.1, ← settled]

theorem sequencerCycleWork_of_retarded {s : State} (retarded : s.seq.conv = .retarded) :
    sequencerCycleWork s = retardStep s := by simp [sequencerCycleWork, retarded]

theorem sequencerCycleWork_of_bypassing {s : State} (bypassing : s.seq.conv = .bypassing) :
    sequencerCycleWork s = bypassStep s := by simp [sequencerCycleWork, bypassing]

theorem sequencerCycleWork_of_deionizing {s : State} (deionizing : s.seq.conv = .deionizing) :
    sequencerCycleWork s = deionizationStep s := by simp [sequencerCycleWork, deionizing]

theorem sequencerCycleWork_of_stopped {s : State} (stopped : isStopped s.seq.conv = true) :
    sequencerCycleWork s = s := by
  cases c : s.seq.conv
  case blocked | tripped => simp [sequencerCycleWork, c]
  all_goals rw [c] at stopped; cases stopped

theorem SequencerOk.exit_some {s : State} (h : SequencerOk s) (exit : hasExit s.seq.conv = true) :
    ∃ x, s.seq.exitTarget = some x := Option.isSome_iff_exists.1 (h.exit.trans exit)

theorem retardStep_of_end {s : State} {x : ExitTarget} (retarded : s.seq.conv = .retarded)
    (fresh : s.seq.freshTrip = false) (exit : s.seq.exitTarget = some x)
    (ends : s.settings.retardCycles ≤ s.seq.retardCount + 1) : retardStep s =
      converterStop (exitItems x) { s with seq := { s.seq with retardCount := s.seq.retardCount + 1 } } := by
  have taken := takeExit_of_firing (x := x) (s := { s with seq := { s.seq with retardCount := s.seq.retardCount + 1 } })
    (by simp [retarded, isFiring]) exit
  rw [← taken]
  simp [retardStep, fresh, ends]

theorem bypassStep_of_end {s : State} {x : ExitTarget} (bypassing : s.seq.conv = .bypassing)
    (fresh : s.seq.freshTrip = false) (exit : s.seq.exitTarget = some x)
    (ends : s.settings.bypassCycles ≤ s.seq.bypassCount + 1) : bypassStep s =
      converterStop (exitItems x) { s with seq := { s.seq with bypassCount := s.seq.bypassCount + 1 } } := by
  have taken := takeExit_of_firing (x := x) (s := { s with seq := { s.seq with bypassCount := s.seq.bypassCount + 1 } })
    (by simp [bypassing, isFiring]) exit
  rw [← taken]
  simp [bypassStep, fresh, ends]

/-- A cycle start in BYPASSING that does not end it (R131, R134). -/
theorem bypassStep_of_stay {s : State} (stays : s.seq.freshTrip = true ∨ s.seq.bypassCount + 1 < s.settings.bypassCycles) :
    ∃ n, bypassStep s = { s with seq := { s.seq with bypassCount := n } } ∧
      n = if s.seq.freshTrip then s.seq.bypassCount else s.seq.bypassCount + 1 := by
  by_cases fresh : s.seq.freshTrip = true
  · exact ⟨s.seq.bypassCount, if_pos fresh, (if_pos fresh).symm⟩
  · have more : ¬ s.settings.bypassCycles ≤ s.seq.bypassCount + 1 := Nat.not_le.2 (stays.resolve_left fresh)
    exact ⟨s.seq.bypassCount + 1, (if_neg fresh).trans (if_neg more), (if_neg fresh).symm⟩

/-- What a step event leaves of a sequencer that is BYPASSING before and after its work, the bypass items apart. -/
theorem stepEvent_of_bypassing {s : State} (counting : s.phase.counting = true)
    (bypassing : (stepWork s).seq.conv = .bypassing) :
    (stepEvent s).seq.conv = .bypassing ∧ (stepEvent s).seq.exitTarget = (stepWork s).seq.exitTarget ∧
    (stepEvent s).seq.bypassCount = (stepWork s).seq.bypassCount ∧ (stepEvent s).seq.freshTrip = false := by
  have none : judgeWindows (passedNext s.phase) (stepChecked s) = stepChecked s := by
    unfold judgeWindows
    rw [effectiveBase_none (by simp [bypassing, hasWindows])]
  rw [stepEvent_of_counting counting, none]
  obtain seq | ⟨_, seq⟩ := bypassPart_seq s.seq.conv (passedNext s.phase).length (stepChecked s) <;>
    simp [seq, bypassing]

/-- The end of deionization, by the attempts and the valves (R129). -/
theorem settleRestart_of_limit {s : State} (deionizing : s.seq.conv = .deionizing)
    (limit : s.settings.restartLimit < s.seq.attempts + 1) :
    settleRestart s = setNotice .restarts (converterChange (stoppedAs .blocked) s) := by
  have entered : enter .blocked none s = converterChange (stoppedAs .blocked) s :=
    enter_stopped_of_idle rfl (by rw [deionizing]; rfl)
  simp [settleRestart, limit, entered]

theorem settleRestart_of_unfit {s : State} (within : s.seq.attempts + 1 ≤ s.settings.restartLimit) (unfit : 0 < unfitCount s) :
    (settleRestart s).seq = stoppedAs .blocked s.seq := by
  have same (q : Sequencer) : unfitCount { s with seq := q } = unfitCount s := unfitCount_congr rfl
  simp [settleRestart, Nat.not_lt.2 within, same, unfit]
  rfl

theorem settleRestart_of_fit {s : State} (within : s.seq.attempts + 1 ≤ s.settings.restartLimit)
    (fit : unfitCount s = 0) : settleRestart s =
      enterRamping { s with seq := { s.seq with attempts := s.seq.attempts + 1 } } := by
  have same (q : Sequencer) : unfitCount { s with seq := q } = unfitCount s := unfitCount_congr rfl
  simp [settleRestart, Nat.not_lt.2 within, same, fit]

theorem settleRestart_noticeSet (s : State) : NoticeSet .converter (settleRestart s) := by
  unfold settleRestart
  split
  · exact (enter_noticeSet .blocked none s).stays (setNotice_flagsStay .restarts _)
  · dsimp only
    split
    · exact enter_noticeSet .blocked none _
    · exact enterRamping_noticeSet _

theorem deionizationStep_of_end {s : State} (ends : s.settings.deionizationCycles ≤ s.seq.deionCount + 1) :
    deionizationStep s = settleRestart { s with seq := { s.seq with deionCount := s.seq.deionCount + 1 } } := by
  simp [deionizationStep, ends]

/-- The sequencer at the end of a cycle start's step event that leaves the converter without windows. -/
theorem stepEvent_seq_of_start {s : State} (counting : s.phase.counting = true) (start : 0 ∈ passedNext s.phase)
    {q : Sequencer} (worked : (sequencerCycleWork (turned s)).seq = q) (windowless : hasWindows q.conv = false)
    (elsewhere : s.seq.conv ≠ .bypassing ∨ q.conv ≠ .bypassing) (settled : q.freshTrip = false) :
    (stepEvent s).seq = q := by
  have seq : (stepWork s).seq = q := by rw [stepWork_of_start counting start]; simp [worked]
  obtain ⟨kept, -⟩ := stepEvent_windowless counting (by rwa [seq]) (by rwa [seq])
  rw [kept, seq, ← settled]

/-- Settles O19: in each state the sequencer's work at the cycle start, which the rest of the step event leaves. -/
theorem stagesEndAtACycleStart : Obligations.StagesEndAtACycleStart := by
  unfold Obligations.StagesEndAtACycleStart
  intro s porHigh counting start ok
  have startNext := (cycleStartNext_iff counting).2 start
  have settings : (turned s).settings = s.settings := (turned_frame s).2.2.1
  have seq : (turned s).seq = s.seq := (turned_frame s).2.2.2.2.2.1
  refine ⟨stepEvent s, exec_phaseStepEvent porHigh, fun pending => ?_, fun retarded fresh => ?_,
    fun retarded fresh within => ?_, fun retarded fresh ends => ?_, fun bypassing fresh => ?_,
    fun bypassing fresh within => ?_, fun bypassing fresh ends => ?_, fun deionizing within => ?_,
    fun deionizing ends => ?_, fun stopped => ?_⟩
  · obtain ⟨worked, notice⟩ := sequencerCycleWork_of_pending ok.turned (seq ▸ pending)
    rw [seq, settings] at worked
    exact ⟨noticeSet_of_work counting start notice, stepEvent_apartWindows_of_start counting start worked
      (.inr nofun) (ok.freshTrip_of_noExit (by rw [pending]; rfl))⟩
  · have work : (stepWork s).seq = s.seq := by
      rw [stepWork_of_start counting start, sequencerCycleWork_of_retarded (seq ▸ retarded)]
      simp [retardStep, fresh]
    rw [stepEvent_apartWindows counting (.inl (by rw [retarded]; decide)), work]
  · have worked : (sequencerCycleWork (turned s)).seq = { s.seq with retardCount := s.seq.retardCount + 1 } := by
      rw [sequencerCycleWork_of_retarded (seq ▸ retarded)]
      simp [retardStep, fresh, Nat.not_le.2 within]
    exact stepEvent_apartWindows_of_start counting start worked (.inl (by rw [retarded]; decide)) fresh
  · obtain ⟨x, exit⟩ := ok.exit_some (by rw [retarded]; rfl)
    have due : retardExpiryDue s = true := by simp [retardExpiryDue, startNext, retarded, fresh, ends]
    have worked := (sequencerCycleWork_of_retarded (seq ▸ retarded)).trans
      (retardStep_of_end (seq ▸ retarded) (seq ▸ fresh) (seq ▸ exit) (by rw [seq, settings]; exact ends))
    obtain ⟨made, notice, lanes⟩ := stepEvent_of_exit counting start worked
    rw [seq] at made
    rw [exit]
    refine ⟨powered_whenDue porHigh due, notice, lanes, fun e => ?_, fun e => ?_, fun e => ?_⟩ <;> cases e <;> exact made
  · have work : (stepWork s).seq = s.seq := by
      rw [stepWork_of_start counting start, sequencerCycleWork_of_bypassing (seq ▸ bypassing)]
      simp [bypassStep, fresh]
    obtain ⟨conv, exit, count, settled⟩ := stepEvent_of_bypassing counting (by rwa [work])
    exact ⟨conv, by rw [exit, work], by rw [count, work], settled⟩
  · obtain ⟨n, worked, hn⟩ := bypassStep_of_stay (s := turned s) (.inr (by rw [seq, settings]; exact within))
    have work : (stepWork s).seq = { s.seq with bypassCount := n } := by
      rw [stepWork_of_start counting start, sequencerCycleWork_of_bypassing (seq ▸ bypassing), worked]
      simp
    obtain ⟨conv, exit, count, -⟩ := stepEvent_of_bypassing counting (by rwa [work])
    refine ⟨conv, by rw [exit, work], by rw [count, work]; simpa [fresh] using hn⟩
  · obtain ⟨x, exit⟩ := ok.exit_some (by rw [bypassing]; rfl)
    have due : bypassExpiryDue s = true := by simp [bypassExpiryDue, startNext, bypassing, fresh, ends]
    have worked := (sequencerCycleWork_of_bypassing (seq ▸ bypassing)).trans
      (bypassStep_of_end (seq ▸ bypassing) (seq ▸ fresh) (seq ▸ exit) (by rw [seq, settings]; exact ends))
    obtain ⟨made, notice, lanes⟩ := stepEvent_of_exit counting start worked
    rw [seq] at made
    rw [exit]
    refine ⟨powered_whenDue porHigh due, notice, lanes, fun e => ?_, fun e => ?_⟩ <;> cases e <;> exact made
  · have worked : (sequencerCycleWork (turned s)).seq = { s.seq with deionCount := s.seq.deionCount + 1 } := by
      rw [sequencerCycleWork_of_deionizing (seq ▸ deionizing)]
      simp [deionizationStep, Nat.not_le.2 within]
    exact stepEvent_seq_of_start counting start worked (by simp [deionizing, hasWindows])
      (.inl (by rw [deionizing]; decide)) (ok.freshTrip_of_noExit (by rw [deionizing]; rfl))
  · have due : deionizationEndDue s = true := by simp [deionizationEndDue, startNext, deionizing, ends]
    have apart : s.seq.conv ≠ .bypassing := by rw [deionizing]; decide
    have noExit : hasExit s.seq.conv = false := by rw [deionizing]; rfl
    have worked := (sequencerCycleWork_of_deionizing (seq ▸ deionizing)).trans
      (deionizationStep_of_end (s := turned s) (by rw [seq, settings]; exact ends))
    rw [seq] at worked
    generalize e : ({ turned s with seq := { s.seq with deionCount := s.seq.deionCount + 1 } } : State) = u at worked
    have useq : u.seq = { s.seq with deionCount := s.seq.deionCount + 1 } := by rw [← e]
    have uset : u.settings = s.settings := by rw [← e]; exact settings
    have ufit : unfitCount u = unfitCount s := unfitCount_congr (by rw [← e]; exact (turned_frame s).2.1)
    refine ⟨powered_whenDue porHigh due, noticeSet_of_work counting start (worked ▸ settleRestart_noticeSet _),
      fun limit => ?_, fun within => ⟨fun unfit => ?_, fun fit => ?_⟩⟩
    · have made := settleRestart_of_limit (s := u) (by rw [useq]; exact deionizing) (by rw [useq, uset]; exact limit)
      rw [made] at worked
      refine ⟨noticeSet_of_work counting start (worked ▸ setNotice_noticeSet .restarts _), ?_⟩
      exact stepEvent_seq_of_start counting start (by rw [worked, ← useq]; rfl) rfl (.inl apart) rfl
    · have made := settleRestart_of_unfit (s := u) (by rw [useq, uset]; exact within)
        (by rw [ufit]; exact unfit)
      exact stepEvent_seq_of_start counting start (by rw [worked, made, useq]) rfl (.inl apart) rfl
    · have made := settleRestart_of_fit (s := u) (by rw [useq, uset]; exact within) (by rw [ufit]; exact fit)
      have ramping := enterRamping_seq (s := { u with seq := { u.seq with attempts := u.seq.attempts + 1 } })
        (by simp [useq, ok.exit_none noExit]) (by simp [useq, ok.freshTrip_of_noExit noExit])
        (by simp [useq, ok.recovery (by rw [deionizing]; decide)])
      rw [← made, ← worked] at ramping
      refine stepEvent_apartWindows_of_start counting start (ramping.trans ?_) (.inl apart)
        (ok.freshTrip_of_noExit noExit)
      simp [useq, uset]
  · have noExit : hasExit s.seq.conv = false := by
      cases c : s.seq.conv <;> first | rfl | (rw [c] at stopped; cases stopped)
    have apart : s.seq.conv ≠ .bypassing := fun c => by rw [c] at stopped; cases stopped
    have windowless : hasWindows s.seq.conv = false := by
      cases c : s.seq.conv <;> first | rfl | (rw [c] at stopped; cases stopped)
    exact stepEvent_seq_of_start counting start ((congrArg State.seq (sequencerCycleWork_of_stopped (seq ▸ stopped))).trans seq)
      windowless (.inl apart) (ok.freshTrip_of_noExit noExit)

end Sys2Proof.Machine

/-! The firing windows at a step event (R121 to R123, R131, R147). -/

namespace Sys2Proof.Machine

/-! ### One window -/

theorem put_getElem_fin {α : Type} {n : Nat} (xs : Vector α n) (i j : Fin n) (x : α) :
    (put xs i x)[j] = if i = j then x else xs[j] := by
  simp only [Fin.getElem_fin, put_getElem, Fin.ext_iff]

theorem put_self {α : Type} {n : Nat} (xs : Vector α n) (i : Fin n) : put xs i xs[i] = xs := by
  ext j hj
  rw [put_getElem]
  split
  case isTrue same => subst same; rfl
  case isFalse => rfl

/-- The target of an open window is reached (R122). -/
def windowFires (base : Nat) (s : State) (v : Valve) : Bool :=
  decide (target base s.livePage.trims[v] ≤ elapsed v s.phase.phase)

/-- A window after a step event (R122). -/
def judged (passed : List Nat) (base : Nat) (s : State) (v : Valve) : WindowState :=
  match s.seq.windows[v] with
  | .closed =>
    if naturalPosition v ∈ passed then (if windowFires base s v then .fired else .opened) else .closed
  | .opened => if windowFires base s v then .fired else .opened
  | .fired => if 1800 ≤ elapsed v s.phase.phase then .closed else .fired

/-- The valve fires from its window at a step event (R123). -/
def firesAt (passed : List Nat) (base : Nat) (s : State) (v : Valve) : Bool :=
  decide (s.seq.windows[v] ≠ .fired) && decide (judged passed base s v = .fired)

theorem firesAt_iff (passed : List Nat) (base : Nat) (s : State) (v : Valve) : firesAt passed base s v = true ↔
    s.seq.windows[v] ≠ .fired ∧ judged passed base s v = .fired := by
  simp [firesAt]

theorem setWindow_self {s : State} {v : Valve} {w : WindowState} (h : s.seq.windows[v] = w) : setWindow v w s = s := by
  subst h
  have same : put s.seq.windows v s.seq.windows[v] = s.seq.windows := put_self _ _
  simp only [setWindow, same]

theorem judgeOpen_eq (v : Valve) (base : Nat) (s : State) : judgeOpen v base s =
    if windowFires base s v then setWindow v .fired (fireValve v s) else setWindow v .opened s := by
  simp [judgeOpen, windowFires]

theorem judgeWindow_of_fires {passed : List Nat} {base : Nat} {s : State} {v : Valve} (h : firesAt passed base s v) :
    judgeWindow passed base s v = setWindow v (judged passed base s v) (fireValve v s) := by
  obtain ⟨unfired, fires⟩ := (firesAt_iff passed base s v).1 h
  rw [fires]
  unfold judged at fires
  unfold judgeWindow
  cases found : s.seq.windows[v] with
  | closed =>
    simp only [found] at fires
    by_cases opens : naturalPosition v ∈ passed <;> by_cases target : windowFires base s v = true <;>
      simp [opens, target] at fires ⊢
    simp [judgeOpen_eq, target]
  | opened =>
    simp only [found] at fires
    by_cases target : windowFires base s v = true <;> simp [target] at fires
    simp [judgeOpen_eq, target]
  | fired => exact absurd found unfired

theorem judgeWindow_of_quiet {passed : List Nat} {base : Nat} {s : State} {v : Valve}
    (h : ¬ firesAt passed base s v) : judgeWindow passed base s v = setWindow v (judged passed base s v) s := by
  rw [firesAt_iff] at h
  unfold judged at h ⊢
  unfold judgeWindow
  cases found : s.seq.windows[v] with
  | closed =>
    by_cases opens : naturalPosition v ∈ passed <;> by_cases target : windowFires base s v = true <;>
      simp_all [judgeOpen_eq, setWindow_self]
  | opened => by_cases target : windowFires base s v = true <;> simp_all [judgeOpen_eq]
  | fired => by_cases late : 1800 ≤ elapsed v s.phase.phase <;> simp [late, setWindow_self found]

theorem pairValve_ne (v : Valve) : pairValve v ≠ v := by revert v; decide

theorem pairValve_eq_iff (v w : Valve) : w = pairValve v ↔ w + 2 = v := by
  revert v w; decide

theorem laneTakes_congr {s t : State} (table : t.table = s.table) (settings : t.settings = s.settings) (v : Valve)
    (l : Lane) : laneTakes v t l = laneTakes v s l := by
  have same : compose v t = compose v s := by simp [compose, bankLight, bankRecords, table, settings]
  unfold laneTakes
  rw [same]

/-- A valve that fires in a firing state gives one burst request to its lane and, where the page pairs it, one to its pair
valve's, and arms its point (R123). -/
theorem fireValve_of_firing {s : State} (firing : isFiring s.seq.conv = true) (v : Valve) :
    (fireValve v s).sources = { s.sources with armed := put s.sources.armed v (some (armedPoint s.phase.phase)) } ∧
    ∀ w, (fireValve v s).lane w =
      if w = v ∨ w = pairValve v ∧ s.livePage.pairs[v] = true then laneTakes w s (s.lane w) else s.lane w := by
  have own := burstRequest_of_firing v firing
  have page : (s.setLane v (laneTakes v s (s.lane v))).livePage = s.livePage := rfl
  have pair := burstRequest_of_firing (pairValve v) (s := s.setLane v (laneTakes v s (s.lane v))) firing
  refine ⟨by simp [fireValve]; split <;> simp, fun w => ?_⟩
  have lanes : (fireValve v s).lane w = (if (burstRequest v s).livePage.pairs[v] then
      burstRequest (pairValve v) (burstRequest v s) else burstRequest v s).lane w := rfl
  rw [lanes, own, page]
  by_cases paired : s.livePage.pairs[v] = true
  · simp only [paired, if_true, and_true]
    rw [pair]
    simp only [State.setLane_lane, laneTakes_congr (State.setLane_table s v _) (State.setLane_settings s v _)]
    by_cases second : pairValve v = w
    · subst second
      simp [pairValve_ne, (pairValve_ne v).symm]
    · by_cases first : v = w
      · subst first; simp [second]
      · simp [first, second, Ne.symm first, Ne.symm second]
  · rw [if_neg paired, State.setLane_lane]
    simp only [paired, Bool.false_eq_true, and_false, or_false, eq_comm]
    split
    case isTrue same => subst same; rfl
    case isFalse => rfl

/-! ### The twelve windows -/

/-- How many burst requests the windows of some valves hand to a lane (R123). -/
def shots (passed : List Nat) (base : Nat) (s : State) (l : List Valve) (w : Valve) : Nat :=
  (if w ∈ l ∧ firesAt passed base s w then 1 else 0) +
    if w + 2 ∈ l ∧ firesAt passed base s (w + 2) ∧ s.livePage.pairs[w + 2] = true then 1 else 0

/-- A further valve that fires gives one shot to its lane and, where the page pairs it, one to its pair valve's. -/
theorem shots_cons_of_fires {passed : List Nat} {base : Nat} {s : State} {l : List Valve} {v : Valve} (fresh : v ∉ l)
    (fires : firesAt passed base s v) (w : Valve) : shots passed base s (v :: l) w =
      shots passed base s l w + if w = v ∨ w = pairValve v ∧ s.livePage.pairs[v] = true then 1 else 0 := by
  simp only [shots, pairValve_eq_iff]
  by_cases here : w = v
  · subst here
    simp [fires, fresh, Nat.add_comm]
  · by_cases pair : w + 2 = v
    · subst pair
      by_cases paired : s.livePage.pairs[w + 2] = true
      · simp [here, fires, fresh, paired]
      · simp [here, paired]
    · simp [here, pair]

theorem shots_cons_of_quiet {passed : List Nat} {base : Nat} {s : State} {l : List Valve} {v : Valve}
    (quiet : ¬ firesAt passed base s v) (w : Valve) :
    shots passed base s (v :: l) w = shots passed base s l w := by
  have own : w ∈ v :: l ∧ firesAt passed base s w ↔ w ∈ l ∧ firesAt passed base s w := by
    rw [List.mem_cons]
    exact ⟨fun k => ⟨k.1.resolve_left fun same => quiet (same ▸ k.2), k.2⟩, fun k => ⟨.inr k.1, k.2⟩⟩
  have pair : w + 2 ∈ v :: l ∧ firesAt passed base s (w + 2) ∧ s.livePage.pairs[w + 2] = true ↔
      w + 2 ∈ l ∧ firesAt passed base s (w + 2) ∧ s.livePage.pairs[w + 2] = true := by
    rw [List.mem_cons]
    exact ⟨fun k => ⟨k.1.resolve_left fun same => quiet (same ▸ k.2.1), k.2⟩, fun k => ⟨.inr k.1, k.2⟩⟩
  simp only [shots, own, pair]

/-- The windows of the valves `l`, each judged once, take `s` to `t`. -/
structure JudgedOn (passed : List Nat) (base : Nat) (l : List Valve) (s t : State) : Prop where
  table    : t.table = s.table
  settings : t.settings = s.settings
  phase    : t.phase = s.phase
  schedule : t.schedule = s.schedule
  seq      : ∃ w, t.seq = withWindows w s.seq
  windows  : ∀ v : Valve, t.seq.windows[v] = if v ∈ l then judged passed base s v else s.seq.windows[v]
  sources  : ∃ a, t.sources = { s.sources with armed := a }
  armed    : ∀ v : Valve, t.sources.armed[v] =
    if v ∈ l ∧ firesAt passed base s v then some (armedPoint s.phase.phase) else s.sources.armed[v]
  lane     : ∀ v, t.lane v = (laneTakes v s)^[shots passed base s l v] (s.lane v)

theorem judged_congr {passed : List Nat} {base : Nat} {s t : State} {v : Valve} (phase : t.phase = s.phase)
    (schedule : t.schedule = s.schedule) (window : t.seq.windows[v] = s.seq.windows[v]) :
    judged passed base t v = judged passed base s v := by
  unfold judged windowFires
  rw [window, phase, livePage_congr schedule]

theorem JudgedOn.none (passed : List Nat) (base : Nat) (s : State) : JudgedOn passed base [] s s where
  table := rfl
  settings := rfl
  phase := rfl
  schedule := rfl
  seq := ⟨s.seq.windows, rfl⟩
  windows := fun v => by simp
  sources := ⟨s.sources.armed, rfl⟩
  armed := fun v => by simp
  lane := fun v => by simp [shots]

/-- One more valve's window is judged. -/
theorem JudgedOn.next {passed : List Nat} {base : Nat} {l : List Valve} {s t : State} (h : JudgedOn passed base l s t)
    (firing : isFiring s.seq.conv = true) {v : Valve} (fresh : v ∉ l) :
    JudgedOn passed base (v :: l) s (judgeWindow passed base t v) := by
  have window : t.seq.windows[v] = s.seq.windows[v] := by rw [h.windows, if_neg fresh]
  have same := judged_congr (passed := passed) (base := base) h.phase h.schedule window
  have fires : firesAt passed base t v = firesAt passed base s v := by rw [firesAt, firesAt, window, same]
  obtain ⟨w, seq⟩ := h.seq
  obtain ⟨a, sources⟩ := h.sources
  have conv : isFiring t.seq.conv = true := by rw [seq]; exact firing
  have takes := laneTakes_congr h.table h.settings
  have frame := judgeWindow_frame passed base t v
  obtain ⟨table, -, settings, -, phase, schedule, -⟩ := frame
  have mem (x : Valve) : x ∈ v :: l ↔ x = v ∨ x ∈ l := List.mem_cons
  by_cases fire : firesAt passed base s v
  · have e := judgeWindow_of_fires (fires.trans fire)
    rw [same] at e
    obtain ⟨armed, lanes⟩ := fireValve_of_firing conv v
    refine ⟨table.trans h.table, settings.trans h.settings, phase.trans h.phase, schedule.trans h.schedule, ?_, fun x => ?_,
      ?_, fun x => ?_, fun x => ?_⟩
    · exact ⟨put t.seq.windows v (judged passed base s v), by rw [e]; simp [setWindow, withWindows, seq]⟩
    · rw [e]
      simp only [setWindow, put_getElem_fin, mem, (fireValve_frame v t).2.2.2.2.2.2.1, h.windows]
      by_cases here : v = x
      · subst here; simp
      · simp [here, Ne.symm here]
    · exact ⟨_, by rw [e]; simp only [setWindow, armed, sources]; rfl⟩
    · rw [e]
      simp only [setWindow, armed, put_getElem_fin, mem, h.armed, h.phase]
      by_cases here : v = x
      · subst here; simp [fire]
      · simp [here, Ne.symm here]
    · rw [e]
      have moved : (setWindow v (judged passed base s v) (fireValve v t)).lane x = (fireValve v t).lane x := rfl
      rw [moved, lanes, h.lane, takes, livePage_congr h.schedule]
      rw [shots_cons_of_fires fresh fire]
      split
      · exact (Function.iterate_succ_apply' (laneTakes x s) _ _).symm
      · rfl
  · have e := judgeWindow_of_quiet (by rwa [fires])
    rw [same] at e
    refine ⟨table.trans h.table, settings.trans h.settings, phase.trans h.phase, schedule.trans h.schedule, ?_, fun x => ?_,
      ?_, fun x => ?_, fun x => ?_⟩
    · exact ⟨put t.seq.windows v (judged passed base s v), by rw [e]; simp [setWindow, withWindows, seq]⟩
    · rw [e]
      simp only [setWindow, put_getElem_fin, mem, h.windows]
      by_cases here : v = x
      · subst here; simp
      · simp [here, Ne.symm here]
    · exact ⟨a, by rw [e]; exact sources⟩
    · rw [e]
      simp only [setWindow, mem, h.armed]
      by_cases here : x = v
      · subst here; simp [fire, fresh]
      · simp [here]
    · rw [e]
      have moved : (setWindow v (judged passed base s v) t).lane x = t.lane x := rfl
      rw [moved, shots_cons_of_quiet fire, h.lane]

theorem foldl_judgedOn {passed : List Nat} {base : Nat} {s : State} (firing : isFiring s.seq.conv = true) :
    ∀ (l done : List Valve) (t : State), (l ++ done).Nodup → JudgedOn passed base done s t →
      ∃ all, (∀ v, v ∈ all ↔ v ∈ l ∨ v ∈ done) ∧ JudgedOn passed base all s (l.foldl (judgeWindow passed base) t) := by
  intro l
  induction l with
  | nil => exact fun done t _ h => ⟨done, by simp, h⟩
  | cons v l ih =>
    intro done t once h
    have fresh : v ∉ done := fun k => by simp_all
    have rest : (l ++ v :: done).Nodup := by
      rw [List.nodup_middle]
      exact once
    obtain ⟨all, mem, k⟩ := ih (v :: done) _ rest (h.next firing fresh)
    exact ⟨all, fun x => by rw [mem, List.mem_cons, List.mem_cons]; tauto, k⟩

/-- The twelve windows at a step event with an effective base angle (R121 to R123). -/
theorem judgeWindows_judgedOn {passed : List Nat} {base : Nat} {s : State} (firing : isFiring s.seq.conv = true)
    (angle : effectiveBase s = some base) :
    ∃ all, (∀ v, v ∈ all) ∧ JudgedOn passed base all s (judgeWindows passed s) := by
  obtain ⟨all, mem, h⟩ := foldl_judgedOn firing allValves [] s (by decide) (.none passed base s)
  refine ⟨all, fun v => (mem v).2 (.inl (mem_allValves v)), ?_⟩
  unfold judgeWindows
  rw [angle]
  exact h

theorem isFiring_of_hasWindows {c : Conv} (h : hasWindows c = true) : isFiring c = true := by
  cases c <;> first | rfl | cases h

/-- The windows touch of the sources the armed points alone. -/
theorem judgeWindows_sources (passed : List Nat) (s : State) :
    ∃ a, (judgeWindows passed s).sources = { s.sources with armed := a } := by
  cases windows : hasWindows s.seq.conv with
  | false =>
    unfold judgeWindows
    rw [effectiveBase_none windows]
    exact ⟨s.sources.armed, rfl⟩
  | true =>
    cases angle : effectiveBase s with
    | none =>
      unfold judgeWindows
      rw [angle]
      exact ⟨s.sources.armed, rfl⟩
    | some base =>
      obtain ⟨_, -, h⟩ := judgeWindows_judgedOn (passed := passed) (isFiring_of_hasWindows windows) angle
      exact h.sources

end Sys2Proof.Machine

/-! The check points at a step event: the cycle queue, the skip counts, the superseded mark and the cut of a sweep poll
(R68, R70, R75, R76, R85, R86). -/

namespace Sys2Proof.Machine

/-- A fold over valves none of which comes twice, with what holds of the valves done so far. -/
theorem foldl_once {P : List Valve → State → Prop} {f : State → Valve → State}
    (next : ∀ done t v, v ∉ done → P done t → P (done ++ [v]) (f t v)) :
    ∀ (l done : List Valve) (t : State), (done ++ l).Nodup → P done t → P (done ++ l) (l.foldl f t) := by
  intro l
  induction l with
  | nil => intro done t _ h; simpa using h
  | cons v l ih =>
    intro done t once h
    have fresh : v ∉ done := fun k => (List.nodup_append.1 once).2.2 v k v (by simp) rfl
    have more := ih (done ++ [v]) (f t v) (by simpa using once) (next done t v fresh h)
    simpa using more

/-! ### The valves whose check points fall -/

/-- The valves whose check points a step event passes, in the order in which they are taken (R75). -/
def fallen (s : State) : List Valve :=
  (passedNext s.phase).flatMap fun x => allValves.filter fun v => decide (checkValue s.sources.armed v = x)

theorem stepChecked_eq (s : State) : stepChecked s = (fallen s).foldl takeCheckPoint (settleTrip (stepWork s)) := rfl

theorem mem_fallen_iff (v : Valve) (s : State) : v ∈ fallen s ↔ checkPassed v s = true := by
  simp [fallen, checkPassed, mem_allValves]

theorem mem_fallen_iff_decide (v : Valve) (s : State) : decide (v ∈ fallen s) = checkPassed v s := by
  simp [mem_fallen_iff]

theorem passedNext_nodup (f : Phase) : (passedNext f).Nodup := by
  have few : advance f = 0 ∨ advance f = 1 ∨ advance f = 2 := by
    unfold advance
    repeat' split
    all_goals simp
  unfold passedNext
  rcases few with n | n | n
  · simp [n, passedValues]
  · simp [n, passedValues]
  · rw [n]
    have apart : (f.phase + 1) % 3600 ≠ (f.phase + 2) % 3600 := by omega
    simpa [passedValues, List.range_succ] using apart

theorem fallen_nodup (s : State) : (fallen s).Nodup := by
  unfold fallen
  rw [List.nodup_flatMap]
  refine ⟨fun x _ => List.Nodup.filter _ (by decide), (passedNext_nodup s.phase).imp fun {x y} apart => ?_⟩
  intro v first second
  simp only [List.mem_filter, decide_eq_true_eq] at first second
  exact apart (first.2.symm.trans second.2)

/-- A check point of the valve raises a cycle request (R76). -/
def raises (s : State) (v : Valve) : Bool := chainRuns s.phase.lock && decide (0 < (s.tally v).top)

/-- A check point of the valve makes it join the cycle queue (R76). -/
def joins (s : State) (v : Valve) : Bool := raises s v && !decide (v ∈ s.sources.cycleQueue)

theorem requestRaised_eq (v : Valve) (s : State) : requestRaised v s = (checkPassed v s && raises s v) :=
  Bool.and_assoc _ _ _

theorem joining_eq (s : State) : joining s = (fallen s).filter (joins s) := by
  unfold joining fallen
  rw [List.filter_flatMap]
  refine List.flatMap_congr fun x passed => ?_
  rw [List.filter_filter]
  refine List.filter_congr fun v _ => ?_
  by_cases here : checkValue s.sources.armed v = x
  · have falls : checkPassed v s = true := by simpa [checkPassed, here] using passed
    simp [here, requestRaised_eq, falls, joins]
  · simp [here]

/-! ### One check point -/

/-- The check point's valve without its armed point. -/
def disarmed (s : State) (v : Valve) : State :=
  { s with sources := { s.sources with armed := put s.sources.armed v none } }

theorem takeCheckPoint_of_unraised {s : State} {v : Valve} (h : raises s v = false) :
    takeCheckPoint s v = disarmed s v := by
  change checkPoint v (disarmed s v) = _
  have unraised : (chainRuns (disarmed s v).phase.lock && decide (0 < ((disarmed s v).tally v).top)) = false := h
  simp [checkPoint, unraised]

theorem takeCheckPoint_of_raised {s : State} {v : Valve} (h : raises s v = true) :
    takeCheckPoint s v = joinCycle v (supersede v (disarmed s v)) := by
  change checkPoint v (disarmed s v) = _
  have raised : (chainRuns (disarmed s v).phase.lock && decide (0 < ((disarmed s v).tally v).top)) = true := h
  simp [checkPoint, raised]

theorem raises_congr {s t : State} (lock : t.phase.lock = s.phase.lock) (tallies : t.tallies = s.tallies) (v : Valve) :
    raises t v = raises s v := by
  simp only [raises, lock, tally_congr tallies]

/-- The sources that a request for a cut leaves: those of the sweep source's cut aside, all (R86). -/
theorem requestCut_sources (s : State) : ∃ progress kept, (requestCut s).sources =
    { s.sources with sweepInProgress := progress, remainder := kept } := by
  have cut (p : Poll) : (cutPoll p s).sources = (tellCut p s).sources := by
    unfold cutPoll holdOr
    split <;> simp [becomeHeld, becomeIdle]
  unfold requestCut
  repeat' split
  case h_3 => exact ⟨_, _, cut _⟩
  case h_4 => exact ⟨_, _, rfl⟩
  all_goals exact ⟨s.sources.sweepInProgress, s.sources.remainder, rfl⟩

theorem joinCycle_of_waiting {s : State} {v : Valve} (h : v ∈ s.sources.cycleQueue) : joinCycle v s =
    { s with sources := { s.sources with skip := put s.sources.skip v (saturate 255 s.sources.skip[v]) } } := if_pos h

theorem joinCycle_of_new {s : State} {v : Valve} (h : v ∉ s.sources.cycleQueue) : joinCycle v s =
    requestCut { s with sources := { s.sources with cycleQueue := s.sources.cycleQueue ++ [v] } } := if_neg h

theorem requestCut_of_noSweep {s : State} (h : ∀ p, s.link.poll = some p → p.source ≠ .sweep) : requestCut s = s := by
  unfold requestCut
  split
  case h_1 p found => simp [h p found]
  case h_2 => rfl

/-- A valve that joins the queue leaves a link whose poll is not the sweep source's. -/
theorem joinCycle_link {s : State} {v : Valve} (h : ∀ p, s.link.poll = some p → p.source ≠ .sweep) :
    (joinCycle v s).link = s.link := by
  unfold joinCycle
  split
  · rfl
  · rw [requestCut_of_noSweep (s := { s with sources := { s.sources with cycleQueue := s.sources.cycleQueue ++ [v] } }) h]

theorem supersede_of_other {s : State} {v : Valve}
    (h : ∀ p, s.link.state = .held → s.link.poll = some p → ¬ (p.source = .cycle ∧ p.valve = v)) :
    supersede v s = s := by
  unfold supersede
  split
  case h_1 p held found => rw [if_neg (h p held found)]
  case h_2 => rfl

/-- What a check point leaves of the sources, by whether it raises a request and whether the valve waits already (R75,
R76). -/
theorem takeCheckPoint_sources_of_unraised {s : State} {v : Valve} (h : raises s v = false) :
    (takeCheckPoint s v).sources = { s.sources with armed := put s.sources.armed v none } := by
  rw [takeCheckPoint_of_unraised h]
  rfl

theorem takeCheckPoint_sources_of_waiting {s : State} {v : Valve} (h : raises s v = true)
    (waiting : v ∈ s.sources.cycleQueue) : (takeCheckPoint s v).sources = { s.sources with
      armed := put s.sources.armed v none, skip := put s.sources.skip v (min (s.sources.skip[v] + 1) 255) } := by
  rw [takeCheckPoint_of_raised h]
  have sources : (supersede v (disarmed s v)).sources = (disarmed s v).sources := by simp
  generalize supersede v (disarmed s v) = u at sources ⊢
  rw [joinCycle_of_waiting (by rw [sources]; exact waiting)]
  dsimp only
  rw [sources]
  rfl

theorem takeCheckPoint_sources_of_new {s : State} {v : Valve} (h : raises s v = true)
    (fresh : v ∉ s.sources.cycleQueue) : ∃ progress kept, (takeCheckPoint s v).sources = { s.sources with
      armed := put s.sources.armed v none, cycleQueue := s.sources.cycleQueue ++ [v],
      sweepInProgress := progress, remainder := kept } := by
  rw [takeCheckPoint_of_raised h]
  have sources : (supersede v (disarmed s v)).sources = (disarmed s v).sources := by simp
  generalize supersede v (disarmed s v) = u at sources ⊢
  rw [joinCycle_of_new (by rw [sources]; exact fresh)]
  obtain ⟨progress, kept, cut⟩ :=
    requestCut_sources { u with sources := { u.sources with cycleQueue := u.sources.cycleQueue ++ [v] } }
  refine ⟨progress, kept, cut.trans ?_⟩
  dsimp only
  rw [sources]
  rfl

/-! ### Queue, skip counts and armed points -/

/-- The check points of the valves `l`, each taken once, take the sources of `s` to those of `t` (R75, R76). -/
structure CheckedOn (l : List Valve) (s t : State) : Prop where
  lock    : t.phase.lock = s.phase.lock
  tallies : t.tallies = s.tallies
  armed   : ∀ v : Valve, t.sources.armed[v] = if v ∈ l then none else s.sources.armed[v]
  queue   : t.sources.cycleQueue = s.sources.cycleQueue ++ l.filter (joins s)
  skip    : ∀ v : Valve, t.sources.skip[v] =
    if (v ∈ l ∧ raises s v = true) ∧ v ∈ s.sources.cycleQueue then min (s.sources.skip[v] + 1) 255 else s.sources.skip[v]
  sweep   : t.sources.sweepTimer = s.sources.sweepTimer ∧ t.sources.sweepRequest = s.sources.sweepRequest ∧
    t.sources.cursor = s.sources.cursor

theorem CheckedOn.none (s : State) : CheckedOn [] s s where
  lock := rfl
  tallies := rfl
  armed := fun v => by simp
  queue := by simp
  skip := fun v => by simp
  sweep := ⟨rfl, rfl, rfl⟩

theorem CheckedOn.waits_iff {l : List Valve} {s t : State} (h : CheckedOn l s t) {v : Valve} (fresh : v ∉ l) :
    v ∈ t.sources.cycleQueue ↔ v ∈ s.sources.cycleQueue := by
  simp [h.queue, fresh]

theorem CheckedOn.next {l : List Valve} {s t : State} (h : CheckedOn l s t) {v : Valve} (fresh : v ∉ l) :
    CheckedOn (l ++ [v]) s (takeCheckPoint t v) := by
  have raised : raises t v = raises s v := raises_congr h.lock h.tallies v
  have waits := h.waits_iff fresh
  have mem (x : Valve) : x ∈ l ++ [v] ↔ x ∈ l ∨ x = v := by simp
  have armed (x : Valve) : (put t.sources.armed v Option.none)[x] =
      if x ∈ l ++ [v] then Option.none else s.sources.armed[x] := by
    rw [put_getElem_fin, h.armed]
    by_cases here : v = x
    · simp [here]
    · simp [here, Ne.symm here]
  have frame := takeCheckPoint_frame t v
  have lock : (takeCheckPoint t v).phase.lock = s.phase.lock := by simp [h.lock]
  have tallies : (takeCheckPoint t v).tallies = s.tallies := frame.2.1.trans h.tallies
  have skipped (unraised : ¬ (raises s v = true ∧ v ∈ s.sources.cycleQueue)) (x : Valve) : t.sources.skip[x] =
      if (x ∈ l ++ [v] ∧ raises s x = true) ∧ x ∈ s.sources.cycleQueue then min (s.sources.skip[x] + 1) 255
      else s.sources.skip[x] := by
    simp only [h.skip, mem]
    by_cases here : x = v
    · subst here
      simp only [fresh, false_and, if_false, or_true, true_and, unraised]
    · simp [here]
  cases raise : raises s v with
  | false =>
    have sources := takeCheckPoint_sources_of_unraised (raised.trans raise)
    have joinsNot : joins s v = false := by simp [joins, raise]
    exact ⟨lock, tallies, by simpa [sources] using armed, by simpa [sources, joinsNot] using h.queue,
      by simpa [sources] using skipped (by simp [raise]), by simpa [sources] using h.sweep⟩
  | true =>
    by_cases waiting : v ∈ s.sources.cycleQueue
    · have sources := takeCheckPoint_sources_of_waiting (raised.trans raise) (waits.2 waiting)
      have joinsNot : joins s v = false := by simp [joins, waiting]
      refine ⟨lock, tallies, by simpa [sources] using armed, by simpa [sources, joinsNot] using h.queue, fun x => ?_,
        by simpa [sources] using h.sweep⟩
      have own : t.sources.skip[v] = s.sources.skip[v] := by rw [h.skip]; simp [fresh]
      rw [sources]
      simp only [put_getElem_fin, own, h.skip, mem]
      by_cases here : v = x
      · subst here; simp [raise, waiting]
      · simp [here, Ne.symm here]
    · obtain ⟨progress, kept, sources⟩ :=
        takeCheckPoint_sources_of_new (raised.trans raise) fun k => waiting (waits.1 k)
      have joinsNow : joins s v = true := by simp [joins, raise, waiting]
      exact ⟨lock, tallies, by simpa [sources] using armed, by simp [sources, h.queue, joinsNow],
        by simpa [sources] using skipped (by simp [waiting]), by simpa [sources] using h.sweep⟩

theorem CheckedOn.all {l : List Valve} {s : State} (once : l.Nodup) : CheckedOn l s (l.foldl takeCheckPoint s) :=
  foldl_once (P := fun l t => CheckedOn l s t) (fun _ _ _ fresh h => h.next fresh) l [] s once (.none s)

/-! ### The link -/

/-- A held cycle poll is marked where a check point of its valve raises a request (R70, R76). -/
theorem takeCheckPoint_supersedes {s : State} {p : Poll} (held : s.link.state = .held) (found : s.link.poll = some p)
    (cycle : p.source = .cycle) (v : Valve) : (takeCheckPoint s v).link =
      { s.link with poll := some { p with superseded := p.superseded || (decide (p.valve = v) && raises s v) } } := by
  cases raise : raises s v with
  | false => simp [takeCheckPoint_of_unraised raise, disarmed, ← found]
  | true =>
    rw [takeCheckPoint_of_raised raise]
    by_cases here : p.valve = v
    · have marked : (supersede v (disarmed s v)).link =
          { s.link with poll := some { p with superseded := true } } := by
        simp [supersede, disarmed, held, found, cycle, here]
      rw [joinCycle_link fun q e => by rw [marked] at e; cases e; simp [cycle], marked]
      simp [here]
    · have same : supersede v (disarmed s v) = disarmed s v := supersede_of_other fun q _ e k => by
        cases found.symm.trans e
        exact here k.2
      rw [same, joinCycle_link fun q e => by cases found.symm.trans e; simp [cycle]]
      simp [disarmed, here, ← found]

theorem foldl_takeCheckPoint_supersedes {s : State} {p : Poll} (held : s.link.state = .held)
    (found : s.link.poll = some p) (cycle : p.source = .cycle) {l : List Valve} (once : l.Nodup) :
    (l.foldl takeCheckPoint s).link = { s.link with
      poll := some { p with superseded := p.superseded || (decide (p.valve ∈ l) && raises s p.valve) } } := by
  have all := foldl_once (f := takeCheckPoint) (P := fun l t => t.phase.lock = s.phase.lock ∧ t.tallies = s.tallies ∧
      t.link = { s.link with
        poll := some { p with superseded := p.superseded || (decide (p.valve ∈ l) && raises s p.valve) } })
    (fun done t v fresh h => ?_) l [] s once ⟨rfl, rfl, by simp [← found]⟩
  · exact all.2.2
  · obtain ⟨lock, tallies, link⟩ := h
    refine ⟨by simp [lock], by simp [tallies], ?_⟩
    have mark : (p.superseded || (decide (p.valve ∈ done) && raises s p.valve) || (decide (p.valve = v) && raises s v)) =
        (p.superseded || (decide (p.valve ∈ done ++ [v]) && raises s p.valve)) := by
      by_cases here : p.valve = v
      · subst here; simp [fresh]
      · simp [here]
    have marked := takeCheckPoint_supersedes (s := t) (p := { p with
      superseded := p.superseded || (decide (p.valve ∈ done) && raises s p.valve) })
      (by rw [link]; exact held) (by rw [link]) cycle v
    rw [marked, raises_congr lock tallies, link, ← mark]

/-- Without a poll, and with a poll that is neither held nor of the sweep source, a check point leaves the link. -/
theorem takeCheckPoint_link {s : State} (h : ∀ p, s.link.poll = some p → s.link.state ≠ .held ∧ p.source ≠ .sweep)
    (v : Valve) : (takeCheckPoint s v).link = s.link := by
  cases raise : raises s v with
  | false => rw [takeCheckPoint_of_unraised raise]; rfl
  | true =>
    have same : supersede v (disarmed s v) = disarmed s v :=
      supersede_of_other fun q held found _ => (h q found).1 held
    rw [takeCheckPoint_of_raised raise, same]
    exact joinCycle_link fun q found => (h q found).2

theorem foldl_takeCheckPoint_link {s : State} (h : ∀ p, s.link.poll = some p → s.link.state ≠ .held ∧ p.source ≠ .sweep)
    (l : List Valve) : (l.foldl takeCheckPoint s).link = s.link :=
  foldl_preserves (P := fun t => t.link = s.link) (f := takeCheckPoint)
    (fun t v e => (takeCheckPoint_link (by rw [e]; exact h) v).trans e) l rfl

/-! ### The cut of a sweep poll -/

/-- What the cut of the sweep poll does to the link and the sweep source, by the link's state (R68, R85, R86). -/
def CutMade (p : Poll) (s t : State) : Prop :=
  (s.link.state = .header ∨ s.link.state = .exchange →
    t.link = { s.link with cutPending := true } ∧ t.sources.sweepInProgress = s.sources.sweepInProgress ∧
    t.sources.remainder = s.sources.remainder) ∧
  (s.link.state = .interval ∨ s.link.state = .held →
    t.link = { s.link with
      state := if s.link.state = .held then .held else .idle, poll := none, timer := none } ∧
    t.sources.sweepInProgress = false ∧
    t.sources.remainder = if s.settings.sweepEnable then some (p.valve, p.next) else none)

/-- The link and the sweep source's part in it as they were. -/
def CutApart (s t : State) : Prop :=
  t.link = s.link ∧ t.sources.sweepInProgress = s.sources.sweepInProgress ∧ t.sources.remainder = s.sources.remainder

theorem requestCut_of_unwanted {s : State} (h : wantsCut s = false) : requestCut s = s := by
  unfold requestCut
  split <;> simp [h]

theorem requestCut_cuts {s : State} {p : Poll} (noHold : s.link.state ≠ .exchange → s.link.holdPending = none) (found : s.link.poll = some p) (sweep : p.source = .sweep)
    (wants : wantsCut s = true) : CutMade p s (requestCut s) := by
  have noCut : s.link.cutPending = false := by
    unfold wantsCut at wants
    simp only [Bool.and_eq_true, Bool.not_eq_true'] at wants
    exact wants.2
  unfold requestCut
  rw [found]
  simp only [wants, sweep, decide_true, Bool.and_self, if_true]
  refine ⟨fun awaiting => ?_, fun quiet => ?_⟩
  · rcases awaiting with state | state <;> simp [state]
  · have hold : s.link.holdPending = none := noHold (by rcases quiet with state | state <;> simp [state])
    rcases quiet with state | state
    · have cut : cutPoll p s = becomeIdle (tellCut p s) :=
        holdOr_of_none (s := tellCut p s) hold _ _
      simp [state, cut, becomeIdle, tellCut, hold, noCut]
    · simp [state, becomeHeld, tellCut, hold, noCut]

/-- What the check points of the valves `l` do to the link with a sweep poll and to the sweep source. -/
def CutBy (p : Poll) (l : List Valve) (s t : State) : Prop :=
  (l.filter (joins s) = [] ∨ wantsCut s = false → CutApart s t) ∧
  (l.filter (joins s) ≠ [] → wantsCut s = true → CutMade p s t)

/-- A check point on a link without a sweep poll, or with a cut that is not wanted, leaves the link and the sweep
source. -/
theorem takeCheckPoint_cutApart {s : State} {v : Valve} (noHeld : ∀ p, s.link.poll = some p → p.source = .sweep)
    (h : joins s v = false ∨ s.link.poll = none ∨ wantsCut s = false) : CutApart s (takeCheckPoint s v) := by
  have same (u : State) (e : u.link = s.link) : supersede v u = u := supersede_of_other fun q _ found k => by
    rw [e] at found
    rw [noHeld q found] at k
    exact absurd k.1 (by decide)
  cases raise : raises s v with
  | false => rw [takeCheckPoint_of_unraised raise]; exact ⟨rfl, rfl, rfl⟩
  | true =>
    rw [takeCheckPoint_of_raised raise, same (disarmed s v) rfl]
    by_cases waiting : v ∈ s.sources.cycleQueue
    · rw [joinCycle_of_waiting (s := disarmed s v) waiting]
      exact ⟨rfl, rfl, rfl⟩
    · rw [joinCycle_of_new (s := disarmed s v) waiting]
      have uncut : s.link.poll = none ∨ wantsCut s = false := h.resolve_left (by simp [joins, raise, waiting])
      rcases uncut with none | unwanted
      · rw [requestCut_of_noSweep fun q found => by cases none.symm.trans found]
        exact ⟨rfl, rfl, rfl⟩
      · rw [requestCut_of_unwanted (s := { disarmed s v with
          sources := { (disarmed s v).sources with cycleQueue := (disarmed s v).sources.cycleQueue ++ [v] } }) unwanted]
        exact ⟨rfl, rfl, rfl⟩

/-- The first valve that joins makes the cut where it is wanted. -/
theorem takeCheckPoint_cutMade {s : State} {p : Poll} {v : Valve}
    (noHold : s.link.state ≠ .exchange → s.link.holdPending = none) (found : s.link.poll = some p) (sweep : p.source = .sweep) (joining : joins s v = true) (wants : wantsCut s = true) :
    CutMade p s (takeCheckPoint s v) := by
  obtain ⟨raise, fresh⟩ : raises s v = true ∧ v ∉ s.sources.cycleQueue := by simpa [joins] using joining
  have same : supersede v (disarmed s v) = disarmed s v := supersede_of_other fun q _ e k => by
    cases found.symm.trans e
    rw [sweep] at k
    exact absurd k.1 (by decide)
  rw [takeCheckPoint_of_raised raise, same, joinCycle_of_new (s := disarmed s v) fresh]
  exact requestCut_cuts (s := { disarmed s v with
    sources := { (disarmed s v).sources with cycleQueue := (disarmed s v).sources.cycleQueue ++ [v] } }) noHold found sweep wants

theorem CutMade.apart {p : Poll} {s t u : State} (h : CutMade p s t) (k : CutApart t u) : CutMade p s u := by
  obtain ⟨awaiting, quiet⟩ := h
  obtain ⟨link, progress, kept⟩ := k
  rw [CutMade, link, progress, kept]
  exact ⟨awaiting, quiet⟩

theorem CutMade.after {p : Poll} {s t u : State} (h : CutMade p t u) (k : CutApart s t)
    (settings : t.settings = s.settings) : CutMade p s u := by
  obtain ⟨awaiting, quiet⟩ := h
  obtain ⟨link, progress, kept⟩ := k
  rw [link, progress, kept] at awaiting
  rw [link, settings] at quiet
  exact ⟨awaiting, quiet⟩

theorem CutApart.trans {s t u : State} (h : CutApart s t) (k : CutApart t u) : CutApart s u :=
  ⟨k.1.trans h.1, k.2.1.trans h.2.1, k.2.2.trans h.2.2⟩

/-- After the cut no further cut is wanted, or no poll is left. -/
theorem CutMade.spent {p : Poll} {s t : State} (h : CutMade p s t) (busy : s.link.state ≠ .idle) :
    t.link.poll = none ∨ wantsCut t = false := by
  obtain ⟨awaiting, quiet⟩ := h
  cases state : s.link.state with
  | idle => exact absurd state busy
  | header => rw [wantsCut, (awaiting (.inl state)).1]; simp
  | exchange => rw [wantsCut, (awaiting (.inr state)).1]; simp
  | interval => rw [(quiet (.inl state)).1]; simp
  | held => rw [(quiet (.inr state)).1]; simp

theorem wantsCut_congr {s t : State} (settings : t.settings = s.settings) (link : t.link = s.link) :
    wantsCut t = wantsCut s := by
  simp only [wantsCut, settings, link]

/-- The check points of one step event with a sweep poll: one cut at most, made by the first valve that joins (R68,
R85). -/
theorem foldl_takeCheckPoint_cutBy {s : State} {p : Poll} (busy : s.link.state ≠ .idle)
    (noHold : s.link.state ≠ .exchange → s.link.holdPending = none) (found : s.link.poll = some p)
    (sweep : p.source = .sweep) {l : List Valve} (once : l.Nodup) : CutBy p l s (l.foldl takeCheckPoint s) := by
  have start : CutBy p [] s s := ⟨fun _ => ⟨rfl, rfl, rfl⟩, fun some => absurd rfl some⟩
  have all := foldl_once (f := takeCheckPoint) (P := fun l t => CheckedOn l s t ∧ t.settings = s.settings ∧
      CutBy p l s t) (fun done t v fresh h => ?_) l [] s once ⟨.none s, rfl, start⟩
  · exact all.2.2
  obtain ⟨checked, settings, apart, made⟩ := h
  refine ⟨checked.next fresh, by simp [settings], ?_⟩
  have joins_eq : joins t v = joins s v := by
    rw [joins, joins, raises_congr checked.lock checked.tallies, decide_eq_decide.2 (checked.waits_iff fresh)]
  have polls : ∀ q, t.link.poll = some q → q.source = .sweep := by
    intro q e
    by_cases cut : done.filter (joins s) = [] ∨ wantsCut s = false
    · rw [(apart cut).1, found] at e
      cases e
      exact sweep
    · obtain ⟨some, wants⟩ := not_or.1 cut
      obtain ⟨awaiting, quiet⟩ := made some (by simpa using wants)
      cases state : s.link.state with
      | idle => exact absurd state busy
      | header => rw [(awaiting (.inl state)).1] at e; cases found.symm.trans e; exact sweep
      | exchange => rw [(awaiting (.inr state)).1] at e; cases found.symm.trans e; exact sweep
      | interval => rw [(quiet (.inl state)).1] at e; cases e
      | held => rw [(quiet (.inr state)).1] at e; cases e
  cases joining : joins s v with
  | false =>
    have same : (done ++ [v]).filter (joins s) = done.filter (joins s) := by simp [joining]
    have quiet := takeCheckPoint_cutApart polls (.inl (joins_eq.trans joining))
    rw [CutBy, same]
    exact ⟨fun h => (apart h).trans quiet, fun some wants => (made some wants).apart quiet⟩
  | true =>
    have some : (done ++ [v]).filter (joins s) ≠ [] := by simp [joining]
    refine ⟨fun h => ?_, fun _ wants => ?_⟩
    · have unwanted := h.resolve_left some
      have before := apart (.inr unwanted)
      exact before.trans (takeCheckPoint_cutApart polls
        (.inr (.inr ((wantsCut_congr settings before.1).trans unwanted))))
    · by_cases first : done.filter (joins s) = []
      · have before := apart (.inl first)
        have cut := takeCheckPoint_cutMade (s := t) (p := p) (by rw [before.1]; exact noHold)
          (by rw [before.1]; exact found) sweep (joins_eq.trans joining) ((wantsCut_congr settings before.1).trans wants)
        exact cut.after before settings
      · have cut := made first wants
        exact cut.apart (takeCheckPoint_cutApart polls (.inr (cut.spent busy)))

/-! ### The state that the check points find -/

/-- Before its check points a step event leaves of the sources all but what a sweep occasion moves (R81). -/
theorem sweepTick_sources (s : State) : ∃ timer request cursor, (sweepTick s).sources =
    { s.sources with sweepTimer := timer, sweepRequest := request, cursor := cursor } := by
  unfold sweepTick sweepOccasion
  repeat' split
  all_goals exact ⟨_, _, _, rfl⟩

theorem stepWork_sources (s : State) : ∃ timer request cursor, (stepWork s).sources =
    { s.sources with sweepTimer := timer, sweepRequest := request, cursor := cursor } := by
  unfold stepWork
  split
  · obtain ⟨timer, request, cursor, sources⟩ :=
      sweepTick_sources (sequencerCycleWork (swapAtCycleStart { s with phase := advancePhase s.phase }))
    refine ⟨timer, request, cursor, sources.trans ?_⟩
    have swapped : (swapAtCycleStart { s with phase := advancePhase s.phase }).sources = s.sources := by
      unfold swapAtCycleStart
      split <;> simp
    simp [swapped]
  · exact ⟨_, _, _, rfl⟩

theorem stepWork_lock (s : State) : (stepWork s).phase.lock = s.phase.lock := by
  unfold stepWork
  split <;> simp

theorem stepEvent_sources {s : State} (counting : s.phase.counting = true) :
    ∃ a, (stepEvent s).sources = { (stepChecked s).sources with armed := a } := by
  obtain ⟨a, sources⟩ := judgeWindows_sources (passedNext s.phase) (stepChecked s)
  rw [stepEvent_of_counting counting]
  exact ⟨a, by simp [sources]⟩

theorem stepEvent_link {s : State} (counting : s.phase.counting = true) : (stepEvent s).link = (stepChecked s).link := by
  rw [stepEvent_of_counting counting]
  simp

/-- The work before the check points leaves what they read. -/
theorem joins_stepWork (s : State) : joins (settleTrip (stepWork s)) = joins s := by
  obtain ⟨_, _, _, sources⟩ := stepWork_sources s
  funext v
  have raised := raises_congr (s := s) (t := settleTrip (stepWork s)) (by simp [stepWork_lock]) (by simp) v
  simp [joins, raised, sources]

theorem raises_stepWork (s : State) (v : Valve) : raises (settleTrip (stepWork s)) v = raises s v :=
  raises_congr (by simp [stepWork_lock]) (by simp) v

/-- Settles O16: the check points that fall, each taken once, on the sources and on the link. -/
theorem checkPointsJoinTheQueue : Obligations.CheckPointsJoinTheQueue := by
  unfold Obligations.CheckPointsJoinTheQueue
  refine ⟨fun v armed => rfl, fun s porHigh counting => ⟨stepEvent s, exec_phaseStepEvent porHigh, ?_⟩⟩
  obtain ⟨_, sources⟩ := stepEvent_sources counting
  obtain ⟨_, _, _, worked⟩ := stepWork_sources s
  have checked := CheckedOn.all (s := settleTrip (stepWork s)) (fallen_nodup s)
  rw [← stepChecked_eq] at checked
  have link : (settleTrip (stepWork s)).link = s.link := by simp
  rw [stepEvent_link counting, sources]
  refine ⟨?_, fun v => ?_, fun p held found cycle => ?_, fun p free found other => ?_, fun none => ?_⟩
  · rw [joining_eq]
    simpa [joins_stepWork, worked] using checked.queue
  · have skip := checked.skip v
    simpa [raises_stepWork, worked, mem_fallen_iff, requestRaised_eq] using skip
  · have marked := foldl_takeCheckPoint_supersedes (s := settleTrip (stepWork s)) (by rw [link]; exact held)
      (by rw [link]; exact found) cycle (fallen_nodup s)
    rw [stepChecked_eq, marked, link, raises_stepWork, requestRaised_eq, ← mem_fallen_iff_decide]
  · rw [stepChecked_eq, foldl_takeCheckPoint_link, link]
    intro q e
    rw [link] at e ⊢
    cases found.symm.trans e
    exact ⟨free, other⟩
  · rw [stepChecked_eq, foldl_takeCheckPoint_link, link]
    intro q e
    rw [link] at e
    cases none.symm.trans e

/-- Settles O17: the first valve that joins makes the one cut, where the settings ask for it and none is pending. -/
theorem cutRequestedByACycleRequest : Obligations.CutRequestedByACycleRequest := by
  unfold Obligations.CutRequestedByACycleRequest
  intro s p porHigh counting ok found sweep
  obtain ⟨_, sources⟩ := stepEvent_sources counting
  obtain ⟨_, _, _, worked⟩ := stepWork_sources s
  have link : (settleTrip (stepWork s)).link = s.link := by simp
  have settings : (settleTrip (stepWork s)).settings = s.settings := by simp
  have before : CutApart s (settleTrip (stepWork s)) := ⟨link, by simp [worked], by simp [worked]⟩
  have wants : wantsCut (settleTrip (stepWork s)) = wantsCut s := wantsCut_congr settings link
  have busy : s.link.state ≠ .idle := fun idle => by cases (ok.idle idle).symm.trans found
  obtain ⟨apart, made⟩ := foldl_takeCheckPoint_cutBy (s := settleTrip (stepWork s)) (by rw [link]; exact busy)
    (by rw [link]; exact ok.noHold) (by rw [link]; exact found) sweep (fallen_nodup s)
  rw [← stepChecked_eq, wants, joins_stepWork, ← joining_eq] at apart made
  have finish : CutApart (stepChecked s) (stepEvent s) := ⟨stepEvent_link counting, by rw [sources], by rw [sources]⟩
  refine ⟨stepEvent s, exec_phaseStepEvent porHigh, fun uncut => ?_, fun some preempt stronger free => ?_⟩
  · refine (before.trans (apart ?_)).trans finish
    rcases uncut with none | off | weaker | pending
    · exact .inl none
    · exact .inr (by simp [wantsCut, off])
    · exact .inr (by simp [wantsCut, Nat.not_lt.2 weaker])
    · exact .inr (by simp [wantsCut, pending])
  · have cut : CutMade p s (stepEvent s) :=
      ((made some (by simp [wantsCut, preempt, stronger, free])).after before settings).apart finish
    exact cut

end Sys2Proof.Machine

/-! The firing windows, the bypass occasions and the sweep occasions of a step event (R81, R82, R121 to R123, R131,
R147). -/

namespace Sys2Proof.Machine

/-! ### Windows and lanes at a cycle start (R122, R145) -/

/-- In a state with windows the windows and the lanes are as before; in any other the windows are closed, or as before
with the state. -/
structure WindowsFollow (s t : State) : Prop where
  opened : hasWindows t.seq.conv = true → t.seq.windows = s.seq.windows ∧ t.lanes = s.lanes
  shut   : hasWindows t.seq.conv = false →
    t.seq.windows = Vector.replicate 12 .closed ∨ t.seq.windows = s.seq.windows ∧ t.seq.conv = s.seq.conv

theorem WindowsFollow.of_same {s t : State} (windows : t.seq.windows = s.seq.windows) (lanes : t.lanes = s.lanes)
    (conv : t.seq.conv = s.seq.conv) : WindowsFollow s t :=
  ⟨fun _ => ⟨windows, lanes⟩, fun _ => .inr ⟨windows, conv⟩⟩

theorem WindowsFollow.after {s u t : State} (h : WindowsFollow u t) (windows : u.seq.windows = s.seq.windows)
    (lanes : u.lanes = s.lanes) (conv : u.seq.conv = s.seq.conv) : WindowsFollow s t := by
  obtain ⟨opened, shut⟩ := h
  rw [windows, lanes] at opened
  rw [windows, conv] at shut
  exact ⟨opened, shut⟩

theorem WindowsFollow.then {s u t : State} (h : WindowsFollow s u) (windows : t.seq.windows = u.seq.windows)
    (lanes : t.lanes = u.lanes) (conv : t.seq.conv = u.seq.conv) : WindowsFollow s t := by
  obtain ⟨opened, shut⟩ := h
  rw [← windows, ← lanes, ← conv] at opened
  rw [← windows, ← conv] at shut
  exact ⟨opened, shut⟩

theorem enter_follows (c : Conv) (x : Option ExitTarget) (s : State) : WindowsFollow s (enter c x s) where
  opened := fun h => by
    have conv : (enter c x s).seq.conv = c := by simp
    rw [conv] at h
    have uncut : (isFiring s.seq.conv && !isFiring c) = false := by simp [isFiring_of_hasWindows h]
    simp [enter, uncut, enterItems, h]
  shut := fun h => by
    have conv : (enter c x s).seq.conv = c := by simp
    rw [conv] at h
    exact .inl (by simp [enterItems, h])

theorem enterRamping_follows (s : State) : WindowsFollow s (enterRamping s) :=
  (enter_follows .ramping none s).then rfl rfl rfl

theorem stopByRole_follows (x : ExitTarget) (s : State) : WindowsFollow s (stopByRole x s) := by
  unfold stopByRole
  split
  · exact (enter_follows .retarded (some x) s).then rfl rfl rfl
  · exact (enter_follows .bypassing (some x) s).then rfl rfl rfl

theorem takeExit_follows (s : State) : WindowsFollow s (takeExit s) := by
  unfold takeExit
  split
  · exact (enter_follows .deionizing none s).then rfl rfl rfl
  · exact enter_follows .blocked none s
  · exact enter_follows .tripped none s
  · exact .of_same rfl rfl rfl

/-- The trips of a cycle start are those of RAMPING and RUNNING. -/
theorem raiseTrip_follows {s : State} (firing : s.seq.conv = .ramping ∨ s.seq.conv = .running) (cause : TripCause) :
    WindowsFollow s (raiseTrip cause s) := by
  rw [raiseTrip_of_firing firing]
  refine (stopByRole_follows .tripped _).after ?_ (by simp) (latchTrip_conv cause s)
  rw [latchTrip_seq]
  split <;> rfl

theorem settleRestart_follows (s : State) : WindowsFollow s (settleRestart s) := by
  unfold settleRestart
  split
  · exact (enter_follows .blocked none s).then rfl rfl rfl
  · dsimp only
    split
    · exact (enter_follows .blocked none _).after rfl rfl rfl
    · exact (enterRamping_follows _).after rfl rfl rfl

theorem rampStep_follows (s : State) : WindowsFollow s (rampStep s) := by
  unfold rampStep
  dsimp only
  split
  · exact (enter_follows .running none _).after rfl rfl rfl
  · exact .of_same rfl rfl rfl

theorem recoveryStep_follows (s : State) : WindowsFollow s (recoveryStep s) := by
  unfold recoveryStep
  split <;> exact .of_same rfl rfl rfl

theorem afterFailures_follows {work : State → State} (works : ∀ u, WindowsFollow u (work u)) {s : State}
    (firing : s.seq.conv = .ramping ∨ s.seq.conv = .running) : WindowsFollow s (afterFailures work s) := by
  unfold afterFailures
  dsimp only
  split
  · exact (raiseTrip_follows (s := { s with seq := countFailures s.seq }) firing _).after rfl rfl rfl
  · exact (works _).after rfl rfl rfl

theorem sequencerCycleWork_follows (s : State) : WindowsFollow s (sequencerCycleWork s) := by
  unfold sequencerCycleWork
  split
  case h_1 => exact (enterRamping_follows s).then rfl rfl rfl
  case h_2 ramping => exact afterFailures_follows rampStep_follows (.inl ramping)
  case h_3 running => exact afterFailures_follows recoveryStep_follows (.inr running)
  case h_4 =>
    unfold retardStep
    dsimp only
    split
    · exact .of_same rfl rfl rfl
    · split
      · exact (takeExit_follows _).after rfl rfl rfl
      · exact .of_same rfl rfl rfl
  case h_5 =>
    unfold deionizationStep
    dsimp only
    split
    · exact (settleRestart_follows _).after rfl rfl rfl
    · exact .of_same rfl rfl rfl
  case h_6 =>
    unfold bypassStep
    dsimp only
    split
    · exact .of_same rfl rfl rfl
    · split
      · exact (takeExit_follows _).after rfl rfl rfl
      · exact .of_same rfl rfl rfl
  case h_7 | h_8 => exact .of_same rfl rfl rfl

theorem stepWork_follows {s : State} (counting : s.phase.counting = true) : WindowsFollow s (stepWork s) := by
  by_cases start : 0 ∈ passedNext s.phase
  · rw [stepWork_of_start counting start]
    exact ((sequencerCycleWork_follows (turned s)).after (by simp) (by simp) (by simp)).then (by simp) (by simp) (by simp)
  · rw [stepWork_of_noStart counting start]
    exact .of_same rfl rfl rfl

theorem stepEvent_conv {s : State} (counting : s.phase.counting = true) :
    (stepEvent s).seq.conv = (stepWork s).seq.conv := by
  rw [stepEvent_of_counting counting]
  simp

/-- In a state with windows no bypass event comes after the windows. -/
theorem stepEvent_of_windows {s : State} (counting : s.phase.counting = true)
    (elsewhere : (stepEvent s).seq.conv ≠ .bypassing) :
    stepEvent s = judgeWindows (passedNext s.phase) (stepChecked s) := by
  have conv := stepEvent_conv counting
  have stays : ¬ (s.seq.conv = .bypassing ∧ (judgeWindows (passedNext s.phase) (stepChecked s)).seq.conv = .bypassing) := by
    rw [judgeWindows_conv, (stepChecked_frame s).1]
    exact fun k => elsewhere (conv.trans k.2)
  rw [stepEvent_of_counting counting]
  unfold bypassPart
  rw [if_neg stays]

/-- The armed points after the check points of a step event (R75). -/
theorem stepChecked_armed (s : State) (v : Valve) :
    (stepChecked s).sources.armed[v] = if checkPassed v s = true then none else s.sources.armed[v] := by
  obtain ⟨_, _, _, worked⟩ := stepWork_sources s
  have checked := (CheckedOn.all (s := settleTrip (stepWork s)) (fallen_nodup s)).armed v
  rw [← stepChecked_eq] at checked
  simpa [worked, mem_fallen_iff] using checked

/-- The base angle of R121 in the four cases of the statement. -/
def BaseOf (base : Nat) (s : State) : Prop :=
  s.seq.conv = .ramping ∧ base = s.seq.ramp ∨
  s.seq.conv = .running ∧ s.seq.cfHold = 0 ∧ base = s.livePage.alpha ∨
  s.seq.conv = .running ∧ 0 < s.seq.cfHold ∧ base = max (s.livePage.alpha - s.settings.cfAdvance) s.settings.alphaMin ∨
  s.seq.conv = .retarded ∧ base = s.settings.retardAngle

theorem effectiveBase_of_baseOf {base : Nat} {s : State} (h : BaseOf base s) : effectiveBase s = some base := by
  rcases h with ⟨c, rfl⟩ | ⟨c, hold, rfl⟩ | ⟨c, hold, rfl⟩ | ⟨c, rfl⟩
  · simp [effectiveBase, c]
  · simp [effectiveBase, c, hold]
  · simp [effectiveBase, c, Nat.ne_of_gt hold]
  · simp [effectiveBase, c]

theorem BaseOf.hasWindows {base : Nat} {s : State} (h : BaseOf base s) : hasWindows s.seq.conv = true := by
  rcases h with ⟨c, -⟩ | ⟨c, -⟩ | ⟨c, -⟩ | ⟨c, -⟩ <;> rw [c] <;> rfl

theorem target_le_iff (base e : Nat) (trim : Int) :
    target base trim ≤ e ↔ max 0 (min 1790 ((base : Int) + trim)) ≤ (e : Int) := by
  unfold target
  omega

/-- The windows of a step event in a state with windows, as judged from the state before it. -/
theorem stepEvent_judgedOn {s : State} {base : Nat} (counting : s.phase.counting = true) (angle : BaseOf base (stepEvent s)) :
    ∃ all, (∀ v, v ∈ all) ∧ JudgedOn (passedNext s.phase) base all (stepChecked s) (stepEvent s) ∧
      (stepChecked s).seq.windows = s.seq.windows ∧ (stepChecked s).lanes = s.lanes := by
  have windows := angle.hasWindows
  have elsewhere : (stepEvent s).seq.conv ≠ .bypassing := fun c => by rw [c] at windows; cases windows
  have e := stepEvent_of_windows counting elsewhere
  obtain ⟨w, seq, -⟩ := judgeWindows_seq (passedNext s.phase) (stepChecked s)
  rw [← e] at seq
  have checkedAngle : BaseOf base (stepChecked s) := by
    have page : (stepEvent s).livePage = (stepChecked s).livePage := livePage_congr (by rw [e]; simp)
    have settings : (stepEvent s).settings = (stepChecked s).settings := by simp
    rw [BaseOf, seq, page, settings] at angle
    exact angle
  obtain ⟨all, full, judged⟩ := judgeWindows_judgedOn (passed := passedNext s.phase)
    (isFiring_of_hasWindows checkedAngle.hasWindows) (effectiveBase_of_baseOf checkedAngle)
  rw [← e] at judged
  obtain ⟨same, lanes⟩ := (stepWork_follows counting).opened (by rw [← stepEvent_conv counting]; exact windows)
  exact ⟨all, full, judged, by simp [same], by simp [lanes]⟩

/-- Settles O15: each window judged once on the state that the check points leave, in a state with windows; no window and
no armed point elsewhere. -/
theorem firingWindowsOpenFireClose : Obligations.FiringWindowsOpenFireClose := by
  unfold Obligations.FiringWindowsOpenFireClose
  refine fun s porHigh counting => ⟨stepEvent s, exec_phaseStepEvent porHigh, fun noStart apart => ?_,
    fun base angle => ?_, fun ramping running retarded ok v => ?_⟩
  · rw [stepEvent_apartWindows counting (.inl apart), stepWork_of_noStart counting noStart]
  · have angle : BaseOf base (stepEvent s) := by simpa only [BaseOf, stepEvent_frame] using angle
    obtain ⟨all, full, judgedOn, windows, lanes⟩ := stepEvent_judgedOn counting angle
    have page : (stepChecked s).livePage = (stepEvent s).livePage := (livePage_congr judgedOn.schedule).symm
    have phase : (stepChecked s).phase = (stepEvent s).phase := judgedOn.phase.symm
    have window (v : Valve) : (stepEvent s).seq.windows[v] = judged (passedNext s.phase) base (stepChecked s) v := by
      rw [judgedOn.windows, if_pos (full v)]
    have fired_iff (v : Valve) : firesAt (passedNext s.phase) base (stepChecked s) v = true ↔
        s.seq.windows[v] ≠ .fired ∧ (stepEvent s).seq.windows[v] = .fired := by
      rw [firesAt_iff, window, windows]
    have takes (v : Valve) : laneTakes v (stepChecked s) = laneTakes v s :=
      funext fun l => laneTakes_congr (by simp) (by simp) v l
    have lane (v : Valve) : (stepChecked s).lane v = s.lane v := lane_congr lanes v
    refine ⟨fun v => ?_, fun v => ⟨fun fires => ?_, fun quiet => ?_⟩, fun v => ⟨fun quiet unpaired => ?_,
      fun one => ?_, fun fires paired => ?_⟩⟩
    · rw [window, judged, windows]
      simp only [windowFires, target_le_iff, page, phase, elapsed, naturalPosition] <;> rfl
    · rw [judgedOn.armed, if_pos ⟨full v, (fired_iff v).2 fires⟩, phase]
      rfl
    · rw [judgedOn.armed, if_neg fun k => quiet ((fired_iff v).1 k.2), stepChecked_armed]
    all_goals
      have shot := judgedOn.lane v
      rw [takes, lane] at shot
      simp only [shots, full, true_and, fired_iff, page] at shot
    · rw [if_neg quiet, if_neg unpaired] at shot
      exact shot
    · rcases one with ⟨fires, unpaired⟩ | ⟨quiet, paired⟩
      · rw [if_pos fires, if_neg unpaired] at shot
        exact shot
      · rw [if_neg quiet, if_pos paired] at shot
        exact shot
    · rw [if_pos fires, if_pos paired] at shot
      exact shot
  · have windowless : hasWindows (stepEvent s).seq.conv = false := by
      cases c : (stepEvent s).seq.conv <;> first | rfl | contradiction
    have closed (w : Valve) : (stepWork s).seq.windows[w] = .closed := by
      have shut := (stepWork_follows counting).shut (by rw [← stepEvent_conv counting]; exact windowless)
      rcases shut with all | ⟨same, conv⟩
      · rw [all]; simp
      · rw [same]
        exact ok.windows (by rw [← conv, ← stepEvent_conv counting]; exact windowless) w
    have none : judgeWindows (passedNext s.phase) (stepChecked s) = stepChecked s := by
      unfold judgeWindows
      rw [effectiveBase_none (by rw [(stepChecked_frame s).1, ← windowless, stepEvent_conv counting])]
    have e := stepEvent_of_counting counting
    rw [none] at e
    have sources : (stepEvent s).sources = (stepChecked s).sources := by rw [e]; simp
    have windows : (stepEvent s).seq.windows = (stepWork s).seq.windows := by
      obtain seq | ⟨_, seq⟩ := bypassPart_seq s.seq.conv (passedNext s.phase).length (stepChecked s) <;>
        rw [e, seq, (stepChecked_frame s).1]
    rw [windows, sources]
    exact ⟨closed v, stepChecked_armed s v⟩

/-! ### Bypass occasions (R131, R147) -/

/-- One burst request to each of some valves in a firing state: each lane takes one. -/
theorem foldl_burstRequest {s : State} (firing : isFiring s.seq.conv = true) : ∀ (l : List Valve) (t : State),
    l.Nodup → t.table = s.table → t.settings = s.settings → t.seq.conv = s.seq.conv → ∀ v,
      (l.foldl (fun t v => burstRequest v t) t).lane v = if v ∈ l then laneTakes v s (t.lane v) else t.lane v := by
  intro l
  induction l with
  | nil => intro t _ _ _ _ v; simp
  | cons w l ih =>
    intro t once table settings conv v
    obtain ⟨fresh, rest⟩ := List.nodup_cons.1 once
    have taken := burstRequest_of_firing w (s := t) (by rw [conv]; exact firing)
    rw [List.foldl_cons, ih (burstRequest w t) rest (by simp [table]) (by simp [settings]) (by simp [conv]), taken,
      State.setLane_lane, laneTakes_congr table settings]
    by_cases here : w = v
    · subst here; simp [fresh]
    · simp [here, Ne.symm here]

theorem bypassValves_nodup (k : Fin 3) : (bypassValves k).Nodup := by revert k; decide

theorem bypassAdvance_of_occasion {q : Sequencer} {n : Nat} (h : q.bypassEntry = true ∨ 300 ≤ q.bypassSpacing + n) :
    bypassAdvance q n = (if q.bypassEntry then 0 else q.bypassSpacing + n - 300, true) := by
  cases entry : q.bypassEntry with
  | true => simp [bypassAdvance, entry]
  | false =>
    have far : 300 ≤ q.bypassSpacing + n := by simpa [entry] using h
    simp [bypassAdvance, entry, far]

theorem bypassAdvance_of_none {q : Sequencer} {n : Nat} (entry : q.bypassEntry = false) (near : q.bypassSpacing + n < 300) :
    bypassAdvance q n = (q.bypassSpacing + n, false) := by
  simp [bypassAdvance, entry, Nat.not_le.2 near]

theorem bypassEvent_lane_of_occasion {n : Nat} {s : State} (occasion : (bypassAdvance s.seq n).2 = true)
    (firing : isFiring s.seq.conv = true) (v : Valve) : (bypassEvent n s).lane v =
      if v ∈ bypassValves s.livePage.leg then laneTakes v s (s.lane v) else s.lane v := by
  unfold bypassEvent
  dsimp only
  rw [if_pos occasion]
  exact foldl_burstRequest (s := s) firing (bypassValves s.livePage.leg)
    { s with seq := { s.seq with bypassSpacing := (bypassAdvance s.seq n).1, bypassEntry := false } }
    (bypassValves_nodup _) rfl rfl rfl v

theorem bypassEvent_lanes_of_none {n : Nat} {s : State} (none : (bypassAdvance s.seq n).2 = false) :
    (bypassEvent n s).lanes = s.lanes := by
  simp [bypassEvent, none]

/-- The sequencer's work of a step event that leaves BYPASSING on (R126, R131, R134): at most the count rises. -/
theorem stepWork_of_bypassing {s : State} (counting : s.phase.counting = true) (bypassing : s.seq.conv = .bypassing)
    (stays : 0 ∉ passedNext s.phase ∨ s.seq.bypassCount + 1 < s.settings.bypassCycles ∨ s.seq.freshTrip = true) :
    ∃ n, (stepWork s).seq = { s.seq with bypassCount := n } ∧ (stepWork s).lanes = s.lanes := by
  by_cases start : 0 ∈ passedNext s.phase
  · obtain ⟨n, worked, -⟩ := bypassStep_of_stay (s := turned s) (by simpa [start, or_comm] using stays)
    refine ⟨n, ?_⟩
    rw [stepWork_of_start counting start, sequencerCycleWork_of_bypassing (by simpa using bypassing), worked]
    simp
  · rw [stepWork_of_noStart counting start]
    exact ⟨s.seq.bypassCount, rfl, rfl⟩

/-- Settles O20: the bypass event on the state that the check points leave, as no cycle start ends BYPASSING. -/
theorem bypassOccasionsRequestBursts : Obligations.BypassOccasionsRequestBursts := by
  unfold Obligations.BypassOccasionsRequestBursts
  refine ⟨by decide, fun s porHigh counting bypassing stays => ⟨stepEvent s, exec_phaseStepEvent porHigh, ?_⟩⟩
  obtain ⟨n, seq, lanes⟩ := stepWork_of_bypassing counting bypassing stays
  have none : judgeWindows (passedNext s.phase) (stepChecked s) = stepChecked s := by
    unfold judgeWindows
    rw [effectiveBase_none (by simp [seq, bypassing, hasWindows])]
  have checkedSeq : (stepChecked s).seq = { s.seq with bypassCount := n, freshTrip := false } := by simp [seq]
  have e : stepEvent s = bypassEvent (passedNext s.phase).length (stepChecked s) := by
    rw [stepEvent_of_counting counting, none]
    unfold bypassPart
    rw [if_pos ⟨bypassing, by rw [checkedSeq]; exact bypassing⟩]
  have page : (stepChecked s).livePage = (stepEvent s).livePage := livePage_congr (by rw [e]; simp)
  have advance : bypassAdvance (stepChecked s).seq (passedNext s.phase).length =
      bypassAdvance s.seq (passedNext s.phase).length := by rw [checkedSeq]; rfl
  have seqAfter : (stepEvent s).seq = { (stepChecked s).seq with
      bypassSpacing := (bypassAdvance s.seq (passedNext s.phase).length).1, bypassEntry := false } := by
    rw [e, ← advance]
    unfold bypassEvent
    dsimp only
    split
    · rw [foldl_keeps _ State.seq fun t v => (burstRequest_frame v t).2.2.2.2.2.2.2.1]
    · rfl
  have notExpiry : bypassExpiryDue s = false := by
    rcases stays with noStart | below | fresh
    · simp [bypassExpiryDue, cycleStartNext, noStart]
    · simp [bypassExpiryDue, Nat.not_le.2 below]
    · simp [bypassExpiryDue, fresh]
  refine ⟨by rw [seqAfter, checkedSeq]; exact bypassing, by rw [seqAfter, checkedSeq], fun occasion => ?_,
    fun entry near => ?_⟩
  · have advanced := bypassAdvance_of_occasion occasion
    have due : bypassOccasionDue s = true := by
      simp [bypassOccasionDue, counting, bypassing, advanced, notExpiry]
    refine ⟨powered_whenDue porHigh due, by rw [seqAfter], by rw [seqAfter, advanced], fun v => ?_⟩
    have same : laneTakes v (stepChecked s) = laneTakes v s :=
      funext fun l => laneTakes_congr (by simp) (by simp) v l
    have lane : (stepChecked s).lane v = s.lane v := lane_congr (by simp [lanes]) v
    rw [← page, e, bypassEvent_lane_of_occasion (by rw [advance, advanced])
      (by rw [checkedSeq]; simp [bypassing, isFiring]), same, lane]
  · have advanced := bypassAdvance_of_none entry near
    refine ⟨by rw [seqAfter], by rw [seqAfter, advanced], ?_⟩
    rw [e, bypassEvent_lanes_of_none (by rw [advance, advanced])]
    simp [lanes]

/-! ### Sweep occasions (R81, R82) -/

theorem allValves_getElem (i : Nat) (h : i < allValves.length) : allValves[i] = ⟨i, h⟩ := by
  have each : ∀ k : Fin 12, allValves[k.val]? = some k := by decide
  exact Option.some.inj ((List.getElem?_eq_getElem h).symm.trans (each ⟨i, h⟩))

theorem nextCursor_eq_some_iff (v w : Valve) (s : State) : nextCursor v s = some w ↔
    ∃ k : Valve, w = v - 1 - k ∧ 0 < (s.tally w).top ∧ ∀ j : Valve, j < k → (s.tally (v - 1 - j)).top = 0 := by
  unfold nextCursor
  rw [List.find?_eq_some_iff_getElem]
  simp only [List.getElem_map, allValves_getElem, List.length_map, decide_eq_true_eq, Bool.not_eq_true',
    decide_eq_false_iff_not, Nat.not_lt, Nat.le_zero]
  constructor
  · rintro ⟨top, i, h, rfl, before⟩
    exact ⟨⟨i, h⟩, rfl, top, fun j less => before j.val less⟩
  · rintro ⟨k, rfl, top, before⟩
    exact ⟨top, k.val, k.isLt, rfl, fun j less => before ⟨j, less.trans k.isLt⟩ less⟩

/-- One valve further down than `k` valves below the next one. -/
theorem sub_one_sub (v k : Valve) : v - 1 - k = v - (k + 1) := by rw [sub_sub, add_comm]

theorem sweepValve_eq_some_iff (s : State) (w : Valve) : sweepValve s = some w ↔
    ∃ k : Valve, w = s.sources.cursor - k ∧ 0 < (s.tally w).top ∧
      ∀ j : Valve, j < k → (s.tally (s.sources.cursor - j)).top = 0 := by
  have zero : s.sources.cursor - 0 = s.sources.cursor := sub_zero _
  unfold sweepValve
  split
  case isTrue here =>
    constructor
    · intro same
      cases same
      exact ⟨0, zero.symm, here, fun j less => absurd less (Fin.not_lt_zero j)⟩
    · rintro ⟨k, rfl, -, before⟩
      by_cases first : k = 0
      · rw [first, zero]
      · have none := before 0 (Fin.pos_iff_ne_zero.2 first)
        rw [zero] at none
        omega
  case isFalse none =>
    rw [nextCursor_eq_some_iff]
    constructor
    · rintro ⟨k, rfl, top, before⟩
      rw [sub_one_sub] at top ⊢
      have notLast : k.val + 1 < 12 := by
        by_contra last
        have k11 : k + 1 = 0 := by
          apply Fin.ext
          rw [Fin.val_add]
          change (k.val + 1) % 12 = 0
          have := k.isLt
          omega
        rw [k11, zero] at top
        exact none top
      have val : (k + 1).val = k.val + 1 := by rw [Fin.val_add]; exact Nat.mod_eq_of_lt notLast
      refine ⟨k + 1, rfl, top, fun j less => ?_⟩
      by_cases first : j = 0
      · rw [first, zero]; omega
      · have positive : 0 < j.val := Fin.pos_iff_ne_zero.2 first
        have below : j.val < k.val + 1 := val ▸ less
        have previous := before ⟨j.val - 1, by omega⟩ (by rw [Fin.lt_def]; dsimp only; omega)
        rw [sub_one_sub] at previous
        have same : (⟨j.val - 1, by omega⟩ + 1 : Valve) = j := by
          apply Fin.ext
          rw [Fin.val_add]
          change (j.val - 1 + 1) % 12 = j.val
          omega
        rwa [same] at previous
    · rintro ⟨k, rfl, top, before⟩
      have positive : k ≠ 0 := fun first => by rw [first, zero] at top; exact none top
      have one : 0 < k.val := Fin.pos_iff_ne_zero.2 positive
      have same (j : Valve) (h : 0 < j.val) : (⟨j.val - 1, by omega⟩ + 1 : Valve) = j := by
        apply Fin.ext
        rw [Fin.val_add]
        change (j.val - 1 + 1) % 12 = j.val
        omega
      refine ⟨⟨k.val - 1, by omega⟩, by rw [sub_one_sub, same k one], top, fun j less => ?_⟩
      have below : j.val < k.val - 1 := less
      rw [sub_one_sub]
      refine before (j + 1) ?_
      rw [Fin.lt_def, Fin.val_add]
      change (j.val + 1) % 12 < k.val
      omega

/-- The sweep items at the end of a step event that is a cycle start are those of the sweep source's work (R81). -/
theorem stepEvent_sweep {s : State} (counting : s.phase.counting = true) (start : 0 ∈ passedNext s.phase) :
    (stepEvent s).sources.sweepTimer = (sweepTick (sequencerCycleWork (turned s))).sources.sweepTimer ∧
    (stepEvent s).sources.sweepRequest = (sweepTick (sequencerCycleWork (turned s))).sources.sweepRequest ∧
    (stepEvent s).sources.cursor = (sweepTick (sequencerCycleWork (turned s))).sources.cursor := by
  obtain ⟨_, sources⟩ := stepEvent_sources counting
  have checked := (CheckedOn.all (s := settleTrip (stepWork s)) (fallen_nodup s)).sweep
  rw [← stepChecked_eq] at checked
  rw [sources, ← stepWork_of_start counting start]
  simpa using checked

theorem sweepTick_of_due {s : State} (due : sweepDue s = true) :
    (sweepTick s).sources.sweepTimer = 0 ∧
    (s.sources.sweepRequest.isSome = true ∨ s.sources.sweepInProgress = true ∨ s.sources.remainder.isSome = true ∨
        sweepValve s = none →
      (sweepTick s).sources.sweepRequest = s.sources.sweepRequest ∧
      (sweepTick s).sources.cursor = s.sources.cursor) ∧
    (∀ w, s.sources.sweepRequest = none → s.sources.sweepInProgress = false → s.sources.remainder = none →
        sweepValve s = some w →
      (sweepTick s).sources.sweepRequest = some w ∧ (sweepTick s).sources.cursor = w) := by
  have valve : sweepValve { s with sources := { s.sources with sweepTimer := 0 } } = sweepValve s := rfl
  unfold sweepTick
  rw [if_pos due]
  unfold sweepOccasion
  rw [valve]
  refine ⟨?_, fun busy => ?_, fun w request progress kept found => ?_⟩
  · repeat' split
    all_goals rfl
  · split
    · exact ⟨rfl, rfl⟩
    case isFalse idle =>
      simp only [Bool.or_eq_true, not_or] at idle
      obtain ⟨⟨noRequest, noProgress⟩, noRemainder⟩ := idle
      have none := ((busy.resolve_left noRequest).resolve_left noProgress).resolve_left noRemainder
      rw [none]
      exact ⟨rfl, rfl⟩
  · simp [request, progress, kept, found]

/-- Settles O21: the sweep source's work on the sources as the cycle start finds them. -/
theorem sweepOccasionsMoveTheCursor : Obligations.SweepOccasionsMoveTheCursor := by
  unfold Obligations.SweepOccasionsMoveTheCursor
  refine ⟨sweepValve_eq_some_iff, fun s porHigh counting start => ⟨stepEvent s, exec_phaseStepEvent porHigh, ?_⟩⟩
  obtain ⟨timer, request, cursor⟩ := stepEvent_sweep counting start
  have sources : (sequencerCycleWork (turned s)).sources = s.sources := by simp
  have settings : (sequencerCycleWork (turned s)).settings = s.settings := by simp
  have tallies : (sequencerCycleWork (turned s)).tallies = s.tallies := by simp
  generalize sequencerCycleWork (turned s) = u at timer request cursor sources settings tallies
  have valve : sweepValve u = sweepValve s := by
    simp only [sweepValve, nextCursor, tally_congr tallies, sources]
  rw [timer, request, cursor]
  refine ⟨fun off => ?_, fun on early => ?_, fun on reached => ?_⟩
  · simp [sweepTick, sweepDue, settings, sources, off]
  · simp [sweepTick, sweepDue, settings, sources, on, Nat.not_le.2 early, saturate]
  · have due : sweepDue u = true := by simp [sweepDue, settings, sources, on, reached]
    have dueNow : sweepOccasionDue s = true := by
      simp [sweepOccasionDue, sweepDue, (cycleStartNext_iff counting).2 start, on, reached]
    have occasion := sweepTick_of_due due
    rw [sources, valve] at occasion
    exact ⟨powered_whenDue porHigh dueNow, occasion⟩

end Sys2Proof.Machine

/-! Crossings and missed crossings by lock state (R90, R91, R94, R96, R99 to R103, R115, R137). -/

namespace Sys2Proof.Machine

/-! ### Changes of lock state (R95, R104) -/

/-- A change of lock state that stops neither a PENDING converter nor the chain: PHASE alone (R104). -/
theorem changeLock_quiet {new : Lock} {s : State} (becomes : new = .acquiring ∨ new = .locked)
    (kept : chainRuns s.phase.lock = false ∨ chainRuns new = true) :
    changeLock new s = setNotice .phase { s with phase := { s.phase with lock := new } } := by
  have noSwap : (chainRuns s.phase.lock && !chainRuns new) = false := by
    rcases kept with h | h <;> simp [h]
  rcases becomes with rfl | rfl <;> simp [changeLock, sequencerLockChange, scheduleLockChange, sourcesLockChange, noSwap]

/-- A change out of LOCKED on a running chain also stops a PENDING converter (R127, R137). -/
theorem changeLock_stops {new : Lock} {s : State} (becomes : new = .disturbed ∨ new = .holding) :
    changeLock new s = stopPending (setNotice .phase { s with phase := { s.phase with lock := new } }) := by
  have runs : (chainRuns s.phase.lock && !chainRuns new) = false := by
    rcases becomes with rfl | rfl <;> simp [chainRuns]
  have stops (t : State) : (if t.seq.conv = .pending then enter .blocked none t else t) = stopPending t := by
    unfold stopPending
    split
    case isTrue pending => rw [enter_blocked_of_pending pending]
    case isFalse => rfl
  rcases becomes with rfl | rfl <;>
    simp only [changeLock, sequencerLockChange, scheduleLockChange, sourcesLockChange, runs, stops] <;> rfl

/-! ### The events -/

theorem exec_missedCrossing {s : State} (porHigh : s.lines.porLow = false) :
    exec .missedCrossing s = .next (missedCrossing s) := powered_of_powered porHigh missedCrossing

theorem exec_referenceCrossing {s : State} (porHigh : s.lines.porLow = false) (since : Nat) :
    exec (.referenceCrossing since) s = .next (referenceCrossing since s) :=
  powered_of_powered porHigh (referenceCrossing since)

/-- A crossing within the interval's limit is taken at once (R90). -/
theorem referenceCrossing_of_within {since : Nat} {s : State} (within : s.phase.interval + since ≤ 940000) :
    referenceCrossing since s = takeCrossing (s.phase.interval + since) s := by
  have none : expiriesBefore since s.phase = 0 := by
    unfold expiriesBefore intervalLimit
    omega
  simp [referenceCrossing, none, expireTimes]

/-- A crossing beyond the limit follows the missed crossing that falls there (R90). -/
theorem referenceCrossing_of_beyond {since : Nat} {s : State} (beyond : 940000 < s.phase.interval + since)
    (restarted : (missedCrossing s).phase.interval = 0) :
    referenceCrossing since s = referenceCrossing (s.phase.interval + since - 940000) (missedCrossing s) := by
  have count : expiriesBefore since s.phase =
      expiriesBefore (s.phase.interval + since - 940000) (missedCrossing s).phase + 1 := by
    unfold expiriesBefore intervalLimit
    rw [restarted]
    omega
  unfold referenceCrossing
  dsimp only
  rw [count, expireTimes, restarted]
  generalize expiriesBefore (s.phase.interval + since - 940000) (missedCrossing s).phase = n
  have left : s.phase.interval + since - (n + 1) * intervalLimit =
      0 + (s.phase.interval + since - 940000) - n * intervalLimit := by
    unfold intervalLimit
    omega
  rw [left]

theorem missedCrossing_interval (s : State) :
    (missedCrossing s).phase.interval = 0 ∧ (missedCrossing s).phase.mark = .missed := by
  unfold missedCrossing becomeLost
  dsimp only
  repeat' split
  all_goals simp [lostItems, setCorrection]

theorem missedCrossing_lines (s : State) : (missedCrossing s).lines = s.lines := by simp

theorem takeCrossing_of_stopped {s : State} {count : Nat} (stopped : s.phase.lock = .unlocked ∨ s.phase.lock = .lost) :
    takeCrossing count s = crossStopped { s with phase := { s.phase with interval := 0, mark := .crossing } } := by
  rcases stopped with lock | lock <;> simp [takeCrossing, lock]

theorem classOf_of_inRange {mark : IntervalMark} {count : Nat} (crossed : mark = .crossing)
    (range : inAcceptedRange count) : classOf mark count = .inRange count := by
  obtain ⟨least, greatest⟩ := range
  simp [classOf, crossed, intervalLimit, least, greatest]

theorem classOf_of_other {mark : IntervalMark} {count : Nat} (other : mark = .missed ∨ ¬ inAcceptedRange count) :
    classOf mark count = .withoutPeriod ∨ classOf mark count = .outOfRange := by
  cases mark with
  | missed => exact .inl rfl
  | crossing =>
    have out : ¬ (560000 ≤ count ∧ count ≤ intervalLimit) := other.resolve_left nofun
    exact .inr (by simp only [classOf, if_neg out])

/-! ### UNLOCKED, LOST and ACQUIRING (R99) -/

theorem agrees_eq (previous : Option Nat) (p : Nat) :
    agrees previous p = previous.any (fun q => decide (p ≤ q + q / 256 ∧ q ≤ p + q / 256)) := by
  cases previous with
  | none => rfl
  | some q => exact decide_eq_decide.2 (by omega)

/-- A crossing on a stopped chain (R99). -/
theorem crossStopped_eq {s : State} (stopped : chainRuns s.phase.lock = false) : crossStopped s =
    setNotice .phase { s with phase := { s.phase with
      lock := .acquiring, good := 0, prevAccepted := none, correction := 0, spacing := 0, counting := false } } := by
  unfold crossStopped
  exact changeLock_quiet (.inl rfl) (.inl stopped)

/-- Settles O22: one clause per lock state and class of the crossing, over `takeCrossing` and `missedCrossing`. -/
theorem acquisitionToTheLock : Obligations.AcquisitionToTheLock := by
  unfold Obligations.AcquisitionToTheLock
  refine ⟨fun since s porHigh beyond => ?_, fun since s porHigh within stopped => ?_, fun s porHigh stopped => ?_,
    fun since s porHigh within acquiring => ⟨fun crossed range => ?_, fun other => ?_⟩, fun s porHigh acquiring => ?_⟩
  · obtain ⟨interval, mark⟩ := missedCrossing_interval s
    refine ⟨missedCrossing s, exec_missedCrossing porHigh, interval, mark, ?_⟩
    rw [exec_referenceCrossing porHigh, exec_referenceCrossing (by rw [missedCrossing_lines]; exact porHigh),
      referenceCrossing_of_beyond beyond interval]
  · have lock : chainRuns s.phase.lock = false := by rcases stopped with h | h <;> rw [h] <;> rfl
    rw [exec_referenceCrossing porHigh, referenceCrossing_of_within within, takeCrossing_of_stopped stopped,
      crossStopped_eq (s := { s with phase := { s.phase with interval := 0, mark := .crossing } }) lock]
  · rw [exec_missedCrossing porHigh]
    rcases stopped with lock | lock <;> simp [missedCrossing, lock]
  · have taken : takeCrossing (s.phase.interval + since) s =
        crossAcquiring (.inRange (s.phase.interval + since))
          { s with phase := { s.phase with interval := 0, mark := .crossing } } := by
      simp [takeCrossing, acquiring, classOf_of_inRange crossed range]
    have short : ¬ 3600 ≤ (s.phase.interval + since) % 3600 := by omega
    rw [exec_referenceCrossing porHigh, referenceCrossing_of_within within, taken]
    unfold crossAcquiring
    dsimp only
    have items := acquirePeriod_eq (s.phase.interval + since) s.settings.referenceOffset
      { s.phase with interval := 0, mark := .crossing }
    rw [items, agrees_eq]
    refine ⟨fun few => ?_, fun enough => ?_⟩
    · rw [if_neg (Nat.not_le.2 few)]
    · rw [if_pos enough, changeLock_quiet (.inr rfl) (.inr rfl)]
  · have taken : takeCrossing (s.phase.interval + since) s =
        crossAcquiring (classOf s.phase.mark (s.phase.interval + since))
          { s with phase := { s.phase with interval := 0, mark := .crossing } } := by
      simp [takeCrossing, acquiring]
    rw [exec_referenceCrossing porHigh, referenceCrossing_of_within within, taken]
    rcases classOf_of_other other with k | k <;> rw [k] <;> rfl
  · rw [exec_missedCrossing porHigh]
    simp [missedCrossing, acquiring]

/-! ### LOCKED and DISTURBED (R96, R100, R101) -/

theorem phaseError_folds (f : Phase) (offset : Nat) : (phaseError f offset - ((f.phase : Int) - offset)) % 3600 = 0 := by
  unfold phaseError foldPhase
  omega

theorem steered_eq (e c : Int) : steered e c = if 2 < e.natAbs then max (-50) (min 50 (c - e)) else c := rfl

/-- A crossing that stops the good crossings of LOCKED makes DISTURBED (R100). -/
theorem crossLocked_disturbed {k : CrossingClass} {s : State}
    (apart : (k = .withoutPeriod ∨ k = .outOfRange) ∨
      threshold s.settings.disturbanceGear < (phaseError s.phase s.settings.referenceOffset).natAbs) :
    crossLocked k s = stopPending (setNotice .phase { s with phase := { s.phase with
      lastError := some (phaseError s.phase s.settings.referenceOffset), good := 0, lock := .disturbed } }) := by
  unfold crossLocked
  dsimp only
  split
  case h_1 p =>
    rw [if_neg (Nat.not_le.2 (apart.resolve_left (by simp)))]
    exact changeLock_stops (.inl rfl)
  case h_2 => exact changeLock_stops (.inl rfl)
  case h_3 => exact changeLock_stops (.inl rfl)

theorem crossDisturbed_apart {k : CrossingClass} {s : State}
    (apart : (k = .withoutPeriod ∨ k = .outOfRange) ∨
      relockLimit s.settings.disturbanceGear < (phaseError s.phase s.settings.referenceOffset).natAbs) :
    crossDisturbed k s = { s with phase := { s.phase with
      lastError := some (phaseError s.phase s.settings.referenceOffset), good := 0 } } := by
  unfold crossDisturbed
  dsimp only
  split
  case h_1 p => rw [if_neg (Nat.not_le.2 (apart.resolve_left (by simp)))]
  case h_2 => rfl
  case h_3 => rfl

/-- The class of a crossing that a lock state does not follow, or a phase error beyond the limit. -/
theorem crossing_apart {mark : IntervalMark} {count limit error : Nat}
    (h : mark = .missed ∨ ¬ inAcceptedRange count ∨ limit < error) :
    (classOf mark count = .withoutPeriod ∨ classOf mark count = .outOfRange) ∨ limit < error := by
  rcases h with missed | out | far
  · exact .inl (classOf_of_other (.inl missed))
  · exact .inl (classOf_of_other (.inr out))
  · exact .inr far

theorem takeCrossing_of_locked {s : State} (locked : s.phase.lock = .locked) (count : Nat) : takeCrossing count s =
    crossLocked (classOf s.phase.mark count) { s with phase := { s.phase with interval := 0, mark := .crossing } } := by
  simp [takeCrossing, locked]

theorem takeCrossing_of_disturbed {s : State} (disturbed : s.phase.lock = .disturbed) (count : Nat) :
    takeCrossing count s =
      crossDisturbed (classOf s.phase.mark count)
        { s with phase := { s.phase with interval := 0, mark := .crossing } } := by
  simp [takeCrossing, disturbed]

theorem phaseError_of_phase (f : Phase) (interval : Nat) (mark : IntervalMark) (offset : Nat) :
    phaseError { f with interval := interval, mark := mark } offset = phaseError f offset := rfl

/-- Settles O23: the crossing that is followed, the one that is not, and the missed one, in each of the two states. -/
theorem lockedAndDisturbed : Obligations.LockedAndDisturbed := by
  unfold Obligations.LockedAndDisturbed
  refine ⟨fun f offset => ⟨(phaseError_limits f offset).1, (phaseError_limits f offset).2, phaseError_folds f offset⟩, rfl,
    fun since s porHigh within locked => ⟨fun crossed range small => ?_, fun apart => ?_⟩, fun s porHigh locked => ?_, rfl,
    fun since s porHigh within disturbed => ⟨fun crossed range small => ⟨fun first => ?_, fun second => ?_⟩,
      fun apart => ?_⟩, fun s porHigh disturbed => ?_⟩
  · rw [exec_referenceCrossing porHigh, referenceCrossing_of_within within, takeCrossing_of_locked locked,
      classOf_of_inRange crossed range]
    unfold crossLocked
    dsimp only
    rw [phaseError_of_phase, if_pos small, followReference_eq]
    rfl
  · rw [exec_referenceCrossing porHigh, referenceCrossing_of_within within, takeCrossing_of_locked locked,
      crossLocked_disturbed (s := { s with phase := { s.phase with interval := 0, mark := .crossing } })
        (crossing_apart apart)]
    rfl
  · have missed : missedCrossing s = changeLock .holding { s with phase := { s.phase with
        interval := 0, mark := .missed, hold := 1 } } := by simp [missedCrossing, locked]
    rw [exec_missedCrossing porHigh, missed, changeLock_stops (.inr rfl)]
  · rw [exec_referenceCrossing porHigh, referenceCrossing_of_within within, takeCrossing_of_disturbed disturbed,
      classOf_of_inRange crossed range]
    unfold crossDisturbed
    dsimp only
    rw [phaseError_of_phase, if_pos small, if_neg (by omega), first]
  · rw [exec_referenceCrossing porHigh, referenceCrossing_of_within within, takeCrossing_of_disturbed disturbed,
      classOf_of_inRange crossed range]
    unfold crossDisturbed
    dsimp only
    rw [phaseError_of_phase, if_pos small, if_pos (by omega), followReference_eq, changeLock_quiet (.inr rfl) (.inr rfl)]
    rfl
  · rw [exec_referenceCrossing porHigh, referenceCrossing_of_within within, takeCrossing_of_disturbed disturbed,
      crossDisturbed_apart (s := { s with phase := { s.phase with interval := 0, mark := .crossing } })
        (crossing_apart apart)]
    rfl
  · have missed : missedCrossing s = changeLock .holding { s with phase := { s.phase with
        interval := 0, mark := .missed, hold := 1, good := 0 } } := by simp [missedCrossing, disturbed]
    rw [exec_missedCrossing porHigh, missed, changeLock_stops (.inr rfl)]

/-! ### HOLDING and the loss of the phase (R102, R103, R115, R137) -/

/-- The Phase Unit and PHASE at the loss of the phase, before the other units take it (R103). -/
def lostPhase (s : State) : State :=
  setNotice .phase { s with phase := { lostItems s.phase with lock := .lost } }

theorem becomeLost_eq {s : State} (runs : chainRuns s.phase.lock = true) :
    becomeLost s = clearArmed (makePendingSwap (stopAtOnce (lostPhase s))) := by
  have old : chainRuns (lostItems s.phase).lock = true := runs
  unfold becomeLost changeLock
  have new : chainRuns .lost = false := rfl
  simp [sequencerLockChange, scheduleLockChange, sourcesLockChange, old, new, lostPhase]

theorem stopAtOnce_flagsStay (s : State) : FlagsStay s (stopAtOnce s) := by
  unfold stopAtOnce
  split
  · exact .refl s
  · exact (enter_flagsStay _ none s).trans (.of_eq rfl rfl)

theorem makePendingSwap_of_none {s : State} (none : s.schedule.swapPending = none) : makePendingSwap s = s := by
  simp [makePendingSwap, none]

theorem becomeLost_flagsStay {s : State} (runs : chainRuns s.phase.lock = true) :
    FlagsStay (stopAtOnce (lostPhase s)) (becomeLost s) := by
  rw [becomeLost_eq runs]
  exact (makePendingSwap_rises _).flagsStay.trans (.of_eq rfl rfl)

theorem missedCrossing_of_holding {s : State} (holding : s.phase.lock = .holding) : missedCrossing s =
    if s.settings.holdLimit < s.phase.hold + 1 then
      becomeLost { s with phase := { s.phase with
        interval := 0, mark := .missed, hold := min (s.phase.hold + 1) 16 } }
    else { s with phase := { s.phase with interval := 0, mark := .missed, hold := min (s.phase.hold + 1) 16 } } := by
  simp [missedCrossing, holding, saturate]

/-- Settles O24: the crossing, the missed crossing within the hold limit, and the loss, unit by unit. -/
theorem holdingAndLoss : Obligations.HoldingAndLoss := by
  unfold Obligations.HoldingAndLoss
  refine ⟨fun since s porHigh within holding => ?_, fun s porHigh holding below few => ⟨?_, ?_⟩,
    fun s porHigh holding beyond => ?_⟩
  · have taken : takeCrossing (s.phase.interval + since) s =
        crossHolding { s with phase := { s.phase with interval := 0, mark := .crossing } } := by
      simp [takeCrossing, holding]
    rw [exec_referenceCrossing porHigh, referenceCrossing_of_within within, taken]
    unfold crossHolding
    rw [changeLock_stops (.inl rfl)]
  · rw [exec_missedCrossing porHigh, missedCrossing_of_holding holding, if_neg (Nat.not_lt.2 below),
      Nat.min_eq_left few]
  · have notDue : lossDue s = false := by simp [lossDue, Nat.not_lt.2 below]
    have row : exec .phaseLost s = powered (whenDue lossDue missedCrossing) s := rfl
    rw [row, powered_of_powered porHigh, whenDue, notDue]
    rfl
  · have due : lossDue s = true := by simp [lossDue, holding, beyond]
    have missed := missedCrossing_of_holding holding
    rw [if_pos beyond] at missed
    have runs : chainRuns s.phase.lock = true := by rw [holding]; rfl
    refine ⟨missedCrossing s, exec_missedCrossing porHigh, powered_whenDue porHigh due, ?_⟩
    rw [missed]
    generalize e : ({ s with phase := { s.phase with
      interval := 0, mark := .missed, hold := min (s.phase.hold + 1) 16 } } : State) = u
    have uruns : chainRuns u.phase.lock = true := by rw [← e]; exact runs
    have useq : (lostPhase u).seq = s.seq := by rw [← e]; rfl
    have ulanes : (lostPhase u).lanes = s.lanes := by rw [← e]; rfl
    have flags := becomeLost_flagsStay uruns
    have made := becomeLost_eq uruns
    have seq : (becomeLost u).seq = (stopAtOnce (lostPhase u)).seq := by rw [made]; simp [clearArmed]
    have lanes : (becomeLost u).lanes = (stopAtOnce (lostPhase u)).lanes := by rw [made]; simp [clearArmed]
    have phaseSet : NoticeSet .phase (lostPhase u) := setNotice_noticeSet .phase _
    refine ⟨(phaseSet.stays (stopAtOnce_flagsStay _)).stays flags, ?_, fun stopped => ?_, fun active => ?_, ?_,
      fun none => ?_, ?_⟩
    · rw [made, ← e]
      simp [clearArmed, lostPhase, lostItems, setCorrection]
    · rw [seq, lanes, stopAtOnce_of_stopped (by rw [useq]; exact stopped)]
      exact ⟨useq, ulanes⟩
    · have stop := stopAtOnce_of_active (s := lostPhase u) (by rw [useq]; exact active)
      rw [seq, lanes]
      rw [stop] at flags ⊢
      refine ⟨(converterStop_noticeSet _ _).stays flags, by rw [converterStop_lanes, ulanes], ?_⟩
      rw [converterStop_seq, useq]
    · rw [made, ← e]
      simp [clearArmed, lostPhase]
    · rw [made, makePendingSwap_of_none (by rw [← e]; simpa [lostPhase] using none), ← e]
      simp [clearArmed, lostPhase]
    · rw [made, ← e]
      simp [clearArmed, lostPhase]

end Sys2Proof.Machine

/-! The polls of the link: the arbiter's start, the words that arrive, the ends of the timers, hold and release (R58 to
R72, R78, R84 to R87). -/

namespace Sys2Proof.Machine

/-! ### What the steps of a poll are -/

theorem startPoll_eq (source : PollSource) (kind : PollKind) (v : Valve) (first last : Nat) (s : State) :
    startPoll source kind v first last s = { s with link := telegram source kind v first last s.link } := rfl

theorem openTelegram_resumed (p : Poll) (s : State) :
    openTelegram (resumed p) s = { s with link := telegram p.source p.kind p.valve p.next p.last s.link } := rfl

theorem becomeHeld_eq (kept : Option Poll) (s : State) :
    becomeHeld kept s = { s with link := atRest .held kept s.link } := rfl

theorem becomeIdle_eq (s : State) : becomeIdle s = { s with link := atRest .idle none s.link } := rfl

/-- What a record's skip flag reads is the table (R60). -/
theorem skipsPosition_congr {s t : State} (table : t.table = s.table) (v : Valve) (n : Nat) :
    skipsPosition v n t = skipsPosition v n s := by
  unfold skipsPosition
  split
  · rw [record_congr table]
  · rfl

/-- The way toward the next expectation word (R60, R63). -/
theorem enterInterval_eq {p : Poll} {s : State} (found : s.link.poll = some p) :
    enterInterval s = { s with link := towardWord p s s.link } := by
  have immediate : intervalTicks s.settings.wordIntervalCode = 0 ↔ s.settings.wordIntervalCode = 0 := by
    unfold intervalTicks
    split <;> simp_all
  unfold enterInterval towardWord
  by_cases h : s.settings.wordIntervalCode = 0
  · rw [if_pos (immediate.2 h), if_pos h]
    simp [sendExpectation, found, exchangeTicks, linkFrameTicks, ticksPerMicrosecond]
  · rw [if_neg fun e => h (immediate.1 e), if_neg h, ← found]

/-! ### The arbiter (R84) -/

theorem foldl_prefer_keeps {settings : Settings} {x : PollSource} {l : List PollSource}
    (weaker : ∀ y ∈ l, sourcePriority settings y ≤ sourcePriority settings x) :
    l.foldl (prefer settings) (some x) = some x := by
  induction l with
  | nil => rfl
  | cons y l ih =>
    have kept : prefer settings (some x) y = some x := if_neg (Nat.not_lt.2 (weaker y List.mem_cons_self))
    rw [List.foldl_cons, kept]
    exact ih fun z hz => weaker z (List.mem_cons_of_mem _ hz)

theorem foldl_prefer_below {settings : Settings} {n : Nat} {l : List PollSource}
    (weaker : ∀ y ∈ l, sourcePriority settings y < n) : ∀ best : Option PollSource,
    (∀ b, best = some b → sourcePriority settings b < n) →
    ∀ b, l.foldl (prefer settings) best = some b → sourcePriority settings b < n := by
  induction l with
  | nil => exact fun _ h => h
  | cons y l ih =>
    intro best below
    refine ih (fun z hz => weaker z (List.mem_cons_of_mem _ hz)) _ fun b found => ?_
    have here := weaker y List.mem_cons_self
    unfold prefer at found
    split at found
    case h_1 c =>
      split at found
      · exact Option.some.inj found ▸ here
      · exact Option.some.inj found ▸ below c rfl
    case h_2 => exact Option.some.inj found ▸ here

/-- The three sources in their order, cut at one of them (R84). -/
theorem sources_cut (x : PollSource) : ∃ before after, [PollSource.cycle, .directed, .sweep] = before ++ x :: after ∧
    (∀ y ∈ before, y ≠ x ∧ sourceRank y < sourceRank x) ∧ ∀ y ∈ after, y ≠ x := by
  cases x
  case cycle => exact ⟨[], [.directed, .sweep], rfl, by simp, by simp⟩
  case directed => exact ⟨[.cycle], [.sweep], rfl, by simp [sourceRank], by simp⟩
  case sweep => exact ⟨[.cycle, .directed], [], rfl, by simp [sourceRank], by simp⟩

/-- A pending source above every other pending one is the arbiter's choice. -/
theorem chosenSource_of_best {s : State} {x : PollSource} (pending : sourcePending s x = true)
    (best : ∀ y, y ≠ x → sourcePending s y = true → sourcePriority s.settings y < sourcePriority s.settings x ∨
      sourcePriority s.settings y = sourcePriority s.settings x ∧ sourceRank x < sourceRank y) :
    chosenSource s = some x := by
  obtain ⟨before, after, cut, first, last⟩ := sources_cut x
  have reached : ∀ b, (before.filter (sourcePending s)).foldl (prefer s.settings) none = some b →
      sourcePriority s.settings b < sourcePriority s.settings x := by
    refine foldl_prefer_below (fun y hy => ?_) none (by simp)
    obtain ⟨member, waiting⟩ := List.mem_filter.1 hy
    obtain ⟨other, earlier⟩ := first y member
    obtain less | ⟨-, later⟩ := best y other waiting
    · exact less
    · omega
  have taken : prefer s.settings ((before.filter (sourcePending s)).foldl (prefer s.settings) none) x = some x := by
    generalize (before.filter (sourcePending s)).foldl (prefer s.settings) none = c at reached
    cases c with
    | none => rfl
    | some b => exact if_pos (reached b rfl)
  unfold chosenSource
  rw [cut, List.filter_append, List.filter_cons_of_pos pending, List.foldl_append, List.foldl_cons, taken]
  refine foldl_prefer_keeps fun y hy => ?_
  obtain ⟨member, waiting⟩ := List.mem_filter.1 hy
  obtain less | ⟨same, -⟩ := best y (last y member) waiting
  · exact Nat.le_of_lt less
  · exact Nat.le_of_eq same

theorem exec_arbiterPollStart {s : State} (porHigh : s.lines.porLow = false) :
    exec .arbiterPollStart s = .next (arbiterStart s) := powered_of_powered porHigh arbiterStart

theorem arbiterStart_of_busy {s : State} (busy : s.link.state ≠ .idle) : arbiterStart s = s := if_neg busy

theorem arbiterStart_of_none {s : State} (none : chosenSource s = none) : arbiterStart s = s := by
  unfold arbiterStart
  rw [none]
  split <;> rfl

theorem arbiterStart_of_chosen {s : State} {x : PollSource} (idle : s.link.state = .idle)
    (chosen : chosenSource s = some x) :
    arbiterStart s = match (motive := PollSource → State) x with
      | .cycle => startCycle s
      | .directed => startDirected s
      | .sweep => startSweep s := by
  unfold arbiterStart
  rw [if_pos idle, chosen]
  cases x <;> rfl

/-- Settles O25: the arbiter's choice is the best pending source, and each source's start is one telegram. -/
theorem arbiterPollStart : Obligations.ArbiterPollStart := by
  unfold Obligations.ArbiterPollStart
  refine ⟨fun s porHigh busy => ?_, fun s porHigh none => ?_, fun s x porHigh idle pending best => ?_, fun s => ?_⟩
  · rw [exec_arbiterPollStart porHigh, arbiterStart_of_busy busy]
  · have chosen : chosenSource s = .none := by
      cases found : chosenSource s with
      | none => rfl
      | some x =>
        obtain ⟨y, hy⟩ := (chosenSource_isSome_iff s).1 (by rw [found]; rfl)
        rw [none y] at hy
        cases hy
    rw [exec_arbiterPollStart porHigh, arbiterStart_of_none chosen]
  · rw [exec_arbiterPollStart porHigh, arbiterStart_of_chosen idle (chosenSource_of_best pending best)]
    refine ⟨?_, ?_, ?_, ?_⟩
    · rintro v rest rfl found
      simp only [startCycle, found, startPoll_eq]
    · rintro e rest rfl found
      simp only [startDirected, found, startPoll_eq]
    · rintro v n rfl found
      simp only [startSweep, found, startPoll_eq]
    · rintro v rfl none found
      simp only [startSweep, none, found, startPoll_eq]
  · refine ⟨by simp [sourcePending], ?_, by simp [sourcePending]⟩
    simp only [sourcePending]
    cases s.sources.directed with
    | nil => simp
    | cons e rest => simp

end Sys2Proof.Machine

/-! The words that arrive on the link and the timers that end (R59 to R66, R68, R69, R78). -/

namespace Sys2Proof.Machine

/-! ### The pending hold at the end of a word (R69) -/

theorem placeAnswer_ownerAnswered {q : Port} {s u : State} (slot : (u.port q).request = (s.port q).request) :
    OwnerAnswered q s (placeAnswer q (plain .done) u) := by
  intro f g held tagged
  rw [placeAnswer_eq (slot.trans held) tagged]
  simp [Answered, State.setPort_port_same, held]

theorem holdOr_holdAnswered {kept : Option Poll} {go : State → State} {s u : State}
    (hold : u.link.holdPending = s.link.holdPending) (slots : ∀ p, (u.port p).request = (s.port p).request) :
    HoldAnswered s (holdOr kept go u) := fun q pending => by
  rw [holdOr_of_hold (hold.trans pending)]
  exact placeAnswer_ownerAnswered (slots q)

theorem OwnersStay.slots {s u : State} (h : OwnersStay s u) (p : Port) : (u.port p).request = (s.port p).request := by
  rw [h.ports p]

theorem OwnersStay.holdAnswered {kept : Option Poll} {go : State → State} {s u : State} (h : OwnersStay s u) :
    HoldAnswered s (holdOr kept go u) := holdOr_holdAnswered h.hold h.slots

theorem OffLink.of_eq {s t : State} (table : t.table = s.table) (tallies : t.tallies = s.tallies)
    (settings : t.settings = s.settings) (phase : t.phase = s.phase) (schedule : t.schedule = s.schedule)
    (seq : t.seq = s.seq) (lanes : t.lanes = s.lanes) (building : t.building = s.building) (lines : t.lines = s.lines)
    (pending : t.pending = s.pending) : OffLink s t :=
  ⟨table, tallies, settings, phase, schedule, seq, lanes, building, lines, pending⟩

/-- The flags of both ports as they were. -/
theorem flags_of_rest {s t : State} (h : ∀ p, (t.port p).rest = (s.port p).rest) :
    t.portA.flags = s.portA.flags ∧ t.portB.flags = s.portB.flags :=
  ⟨congrArg PortRest.flags (h .a), congrArg PortRest.flags (h .b)⟩

theorem holdOr_becomeIdle_rest (s : State) (p : Port) : ((holdOr none becomeIdle s).port p).rest = (s.port p).rest := by
  unfold holdOr
  split
  · exact placeAnswer_rest _ p _ _
  · rfl

/-! ### Reply headers (R59, R68, R78) -/

/-- A reply header of the poll's valve in HEADER is accepted (R59). -/
theorem exec_replyHeader_of_accepted {f : BitVec 20} {s : State} {p : Poll} (porHigh : s.lines.porLow = false)
    (isReply : isReplyHeader f = true) (state : s.link.state = .header) (found : s.link.poll = some p)
    (same : replyValve (frameWord f) = valveNumber p.valve) :
    exec (.replyHeader f) s = .next (acceptHeader p (frameWord f) s) := by
  rw [exec_replyHeader_of_powered porHigh, receive_of_isReplyHeader isReply]
  simp [replyHeader, state, found, same]

/-- One of another valve is a mismatch (R59). -/
theorem exec_replyHeader_of_mismatch {f : BitVec 20} {s : State} {p : Poll} (porHigh : s.lines.porLow = false)
    (isReply : isReplyHeader f = true) (state : s.link.state = .header) (found : s.link.poll = some p)
    (other : replyValve (frameWord f) ≠ valveNumber p.valve) :
    exec (.replyHeader f) s = .next (countMismatch s) := by
  rw [exec_replyHeader_of_powered porHigh, receive_of_isReplyHeader isReply]
  simp [replyHeader, state, found, other]

/-- The commutation-failure items that an inverter's non-blocking cycle poll leaves (R78, R132). -/
theorem handBlocking_seq_of_failure {p : Poll} {b : Bool} {s : State} (cycle : p.source = .cycle) (clear : b = false)
    (conv : s.seq.conv = .ramping ∨ s.seq.conv = .running) (role : s.livePage.role = .inverter) :
    (handBlocking p b s).seq =
      { s.seq with cfHold := s.settings.cfHold, cfMark := true, lastFailure := some p.valve } := by
  rcases conv with conv | conv <;> simp [handBlocking, takeBlocking, commutationFailure, cycle, clear, conv, role]

theorem handBlocking_of_quiet {p : Poll} {b : Bool} {s : State} (quiet : p.source ≠ .cycle ∨ b = true ∨
      s.seq.conv ≠ .ramping ∧ s.seq.conv ≠ .running ∨ s.livePage.role = .rectifier) : handBlocking p b s = s := by
  unfold handBlocking
  split
  case h_1 cycle =>
    refine if_neg fun counts => ?_
    simp only [Bool.and_eq_true, Bool.or_eq_true, Bool.not_eq_true', decide_eq_true_eq] at counts
    obtain ⟨⟨clear, conv⟩, role⟩ := counts
    obtain other | set | ⟨ramping, running⟩ | other := quiet
    · exact other cycle
    · simp [clear] at set
    · exact conv.elim running ramping
    · simp [role] at other
  case h_2 => rfl
  case h_3 => rfl

theorem setVmuFault_link (v : Valve) (fault : Bool) (s : State) : (setVmuFault v fault s).link =
    { s.link with vmuFault := put s.link.vmuFault v fault } := by
  unfold setVmuFault
  dsimp only
  split <;> simp

theorem setVmuFault_noticeSet {v : Valve} {s : State} (clear : s.link.vmuFault[v] = false) :
    NoticeSet .link (setVmuFault v true s) := by
  unfold setVmuFault
  rw [if_pos (by simp [clear])]
  exact setNotice_noticeSet .link _

theorem setVmuFault_quiet {v : Valve} {fault : Bool} {s : State} (quiet : fault = false ∨ s.link.vmuFault[v] = true) :
    setVmuFault v fault s = { s with link := { s.link with vmuFault := put s.link.vmuFault v fault } } := by
  unfold setVmuFault
  exact if_neg (by rcases quiet with h | h <;> simp [h])

/-- The state in which an accepted reply header is carried on or cut. -/
def headerTaken (p : Poll) (w : Word16) (s : State) : State :=
  setVmuFault p.valve (replyFault w) (handBlocking p (replyBlocking w) s)

theorem acceptHeader_of_cut {p : Poll} {w : Word16} {s : State} (cut : s.link.cutPending = true) :
    acceptHeader p w s = cutPoll p (headerTaken p w s) := by
  have cut : (headerTaken p w s).link.cutPending = true := by simp [headerTaken, setVmuFault_link, cut]
  exact if_pos cut

theorem acceptHeader_of_noCut {p : Poll} {w : Word16} {s : State} (cut : s.link.cutPending = false) :
    acceptHeader p w s = enterInterval (headerTaken p w s) := by
  have cut : ¬ (headerTaken p w s).link.cutPending = true := by simp [headerTaken, setVmuFault_link, cut]
  exact if_neg cut

theorem headerTaken_link (p : Poll) (w : Word16) (s : State) : (headerTaken p w s).link =
    { s.link with vmuFault := put s.link.vmuFault p.valve (replyFault w) } := by
  simp [headerTaken, setVmuFault_link]

theorem headerTaken_ports (p : Poll) (w : Word16) (s : State) :
    (replyFault w = true → s.link.vmuFault[p.valve] = false → NoticeSet .link (headerTaken p w s)) ∧
    (replyFault w = false ∨ s.link.vmuFault[p.valve] = true → ∀ x, (headerTaken p w s).port x = s.port x) := by
  unfold headerTaken
  refine ⟨fun fault clear => ?_, fun quiet x => ?_⟩
  · rw [fault]
    exact setVmuFault_noticeSet (by simpa using clear)
  · rw [setVmuFault_quiet (by simpa using quiet)]
    exact State.port_congr (by simp) (by simp) x

/-- What an accepted reply header leaves, with no hold pending (R59, R68). -/
theorem acceptHeader_link_sources {p : Poll} {s : State} (found : s.link.poll = some p) (noHold : s.link.holdPending = none)
    (w : Word16) :
    (acceptHeader p w s).link = (if s.link.cutPending then
        atRest .idle none { s.link with vmuFault := put s.link.vmuFault p.valve (replyFault w) }
      else towardWord p s { s.link with vmuFault := put s.link.vmuFault p.valve (replyFault w) }) ∧
    (acceptHeader p w s).sources = (if s.link.cutPending then
        { s.sources with sweepInProgress := false,
                         remainder := if s.settings.sweepEnable then some (p.valve, p.next) else none }
      else s.sources) ∧
    ∀ x, ((acceptHeader p w s).port x).rest = ((headerTaken p w s).port x).rest := by
  have link := headerTaken_link p w s
  have sources : (headerTaken p w s).sources = s.sources := by simp [headerTaken]
  have settings : (headerTaken p w s).settings = s.settings := by simp [headerTaken]
  have table : (headerTaken p w s).table = s.table := by simp [headerTaken]
  cases cut : s.link.cutPending
  case true =>
    rw [acceptHeader_of_cut cut]
    refine ⟨?_, ?_, fun x => holdOr_becomeIdle_rest (tellCut p (headerTaken p w s)) x⟩
    · rw [cutPoll, holdOr_becomeIdle_link]
      simp [link, restState, noHold]
    · rw [cutPoll, holdOr_becomeIdle_sources]
      simp [tellCut, sources, settings]
  case false =>
    rw [acceptHeader_of_noCut cut, enterInterval_eq (p := p) (by rw [link]; exact found)]
    refine ⟨?_, sources, fun x => rfl⟩
    simp [towardWord, settings, link, skipsPosition_congr table]

/-- Settles O26: a mismatch, or the header taken and the poll cut or carried on. -/
theorem replyHeaderInHeader : Obligations.ReplyHeaderInHeader := by
  unfold Obligations.ReplyHeaderInHeader
  refine ⟨rfl, fun f s p porHigh isReply state found => ⟨fun other => ?_, fun same noHold => ?_⟩⟩
  · exact exec_replyHeader_of_mismatch porHigh isReply state found other
  · refine ⟨acceptHeader p (frameWord f) s, exec_replyHeader_of_accepted porHigh isReply state found same, ?_⟩
    obtain ⟨link, sources, rest⟩ := acceptHeader_link_sources found noHold (frameWord f)
    obtain ⟨raised, quiet⟩ := headerTaken_ports p (frameWord f) s
    have taken : (acceptHeader p (frameWord f) s).seq = (handBlocking p (replyBlocking (frameWord f)) s).seq := by
      unfold acceptHeader
      dsimp only
      split <;> simp
    refine ⟨link, sources, fun fault clear => (raised fault clear).stays (NoticesRise.of_rest rest).flagsStay,
      fun h => flags_of_rest fun x => by rw [rest, quiet h], fun cycle clear conv role => ?_, fun h => ?_, ?_⟩
    · exact taken.trans (handBlocking_seq_of_failure cycle clear conv role)
    · exact taken.trans (congrArg State.seq (handBlocking_of_quiet h))
    · unfold acceptHeader
      dsimp only
      split <;> simp [OffLink]

end Sys2Proof.Machine

/-! Result words and the ends of polls (R61 to R66, R68, R69, R86, R87). -/

namespace Sys2Proof.Machine

/-! ### What a poll's end does, by the way it ends -/

theorem completePoll_link (p : Poll) (s : State) : (completePoll p s).link =
    atRest (restState s.link) none { s.link with failures := 0, down := false } := by
  unfold completePoll
  dsimp only
  rw [holdOr_becomeIdle_link]
  split <;> simp [restState]

theorem completePoll_sources (p : Poll) (s : State) : (completePoll p s).sources = (tellEnded p s).sources := by
  unfold completePoll
  dsimp only
  rw [holdOr_becomeIdle_sources]
  split <;> simp

theorem tellEnded_owners_link (p : Poll) (s : State) (l : Link) (hold : l.holdPending = s.link.holdPending) :
    OwnersStay s { tellEnded p s with link := l } :=
  ⟨.of_eq (by simp) (by simp), by simp, by simp, hold, by simp⟩

/-- A hold that an earlier state holds pending, over the same slots. -/
theorem HoldAnswered.before {s u t : State} (h : HoldAnswered u t) (k : OwnersStay s u) : HoldAnswered s t := by
  intro q pending f g held tagged
  obtain ⟨state, request, answer, kind⟩ := h q (k.hold.trans pending) f g ((k.slots q).trans held) tagged
  exact ⟨state, request, answer, kind.trans (congrArg (Option.map Frame.kind) (k.slots q))⟩

theorem completePoll_holdAnswered (p : Poll) (s : State) : HoldAnswered s (completePoll p s) := by
  have told := tellEnded_owners_link p s { (tellEnded p s).link with failures := 0, down := false } (by simp)
  unfold completePoll
  dsimp only
  split
  · exact (told.trans (setNotice_owners .link _)).holdAnswered
  · exact told.holdAnswered

theorem completePoll_noticeSet {p : Poll} {s : State} (down : s.link.down = true) : NoticeSet .link (completePoll p s) := by
  unfold completePoll
  dsimp only
  rw [if_pos down]
  exact (setNotice_noticeSet .link _).stays (holdOr_rises (becomeIdle_rises _)).flagsStay

theorem abortPoll_link (p : Poll) (s : State) : (abortPoll p s).link = atRest (restState s.link) none { s.link with
    timeouts := min (s.link.timeouts + 1) 255, failures := min (s.link.failures + 1) 255,
    down := if s.link.failures = 7 then true else s.link.down } := by
  have eighth : min (s.link.failures + 1) 255 = 8 ↔ s.link.failures = 7 := by omega
  unfold abortPoll
  dsimp only
  rw [holdOr_becomeIdle_link]
  by_cases h : s.link.failures = 7 <;> simp [saturate, eighth, h, restState]

/-- The eighth abort in a row reports the link down, another one nothing (R66). -/
theorem abortPoll_eq (p : Poll) (s : State) : ∃ u, abortPoll p s = holdOr none becomeIdle (tellEnded p u) ∧
    OwnersStay s u ∧ u.sources = s.sources ∧ u.tallies = s.tallies ∧
    (s.link.failures = 7 → NoticeSet .link u) ∧ (s.link.failures ≠ 7 → ∀ x, u.port x = s.port x) := by
  have eighth : saturate 255 s.link.failures = 8 ↔ s.link.failures = 7 := by
    unfold saturate
    omega
  refine ⟨_, rfl, ?_⟩
  split
  case isTrue last =>
    exact ⟨.trans (t := { s with link := { s.link with
        timeouts := saturate 255 s.link.timeouts, failures := saturate 255 s.link.failures,
        down := s.link.down || decide (saturate 255 s.link.failures = 8) } }) ⟨.of_eq rfl rfl, rfl, rfl, rfl, rfl⟩
      (setNotice_owners .link _), rfl, rfl, fun _ => setNotice_noticeSet .link _, fun h => absurd (eighth.1 last) h⟩
  case isFalse more =>
    exact ⟨⟨.of_eq rfl rfl, rfl, rfl, rfl, rfl⟩, rfl, rfl, fun h => absurd (eighth.2 h) more, fun _ _ => rfl⟩

theorem nextCursor_congr {s t : State} (tallies : t.tallies = s.tallies) (v : Valve) : nextCursor v t = nextCursor v s := by
  unfold nextCursor
  simp only [tally_congr tallies]

theorem moveCursor_sources (v : Valve) (s : State) : (moveCursor v s).sources =
    { s.sources with cursor := (nextCursor v s).getD s.sources.cursor } := by
  unfold moveCursor
  cases nextCursor v s <;> rfl

/-- What a source does at its poll's end hangs on the poll's source and valve, the sources and the tallies alone (R87). -/
theorem tellEnded_sources_congr {p q : Poll} {s t : State} (source : q.source = p.source) (valve : q.valve = p.valve)
    (sources : t.sources = s.sources) (tallies : t.tallies = s.tallies) :
    (tellEnded q t).sources = (tellEnded p s).sources := by
  unfold tellEnded
  rw [source, valve, sources]
  cases p.source
  case cycle => exact sources
  case directed => rfl
  case sweep =>
    dsimp only
    split
    case isFalse => rfl
    case isTrue =>
      refine (moveCursor_sources _ _).trans (Eq.trans ?_ (moveCursor_sources _ _).symm)
      exact congrArg (fun c : Option Valve =>
          { s.sources with sweepInProgress := false, cursor := c.getD s.sources.cursor })
        (nextCursor_congr tallies p.valve)

theorem abortPoll_sources (p : Poll) (s : State) : (abortPoll p s).sources = (tellEnded p s).sources := by
  obtain ⟨u, same, -, sources, tallies, -⟩ := abortPoll_eq p s
  rw [same, holdOr_becomeIdle_sources]
  exact tellEnded_sources_congr rfl rfl sources tallies

theorem abortPoll_holdAnswered (p : Poll) (s : State) : HoldAnswered s (abortPoll p s) := by
  obtain ⟨u, same, owners, -⟩ := abortPoll_eq p s
  rw [same]
  exact (owners.trans (tellEnded_owners p u)).holdAnswered

theorem abortPoll_noticeSet {p : Poll} {s : State} (eighth : s.link.failures = 7) : NoticeSet .link (abortPoll p s) := by
  obtain ⟨u, same, -, -, -, raised, -⟩ := abortPoll_eq p s
  have told : NoticeSet .link (tellEnded p u) := (raised eighth).stays (.of_eq (by simp) (by simp))
  rw [same]
  exact told.stays (holdOr_rises (becomeIdle_rises _)).flagsStay

theorem abortPoll_quiet {p : Poll} {s : State} (fewer : s.link.failures ≠ 7) :
    (abortPoll p s).portA.flags = s.portA.flags ∧ (abortPoll p s).portB.flags = s.portB.flags := by
  obtain ⟨u, same, -, -, -, -, quiet⟩ := abortPoll_eq p s
  have told (x : Port) : (tellEnded p u).port x = u.port x := State.port_congr (by simp) (by simp) x
  rw [same]
  exact flags_of_rest fun x => by rw [holdOr_becomeIdle_rest, told, quiet fewer]

theorem cutPoll_link (p : Poll) (s : State) : (cutPoll p s).link = atRest (restState s.link) none s.link :=
  holdOr_becomeIdle_link (tellCut p s)

theorem cutPoll_sources (p : Poll) (s : State) : (cutPoll p s).sources = { s.sources with
    sweepInProgress := false, remainder := if s.settings.sweepEnable then some (p.valve, p.next) else none } :=
  holdOr_becomeIdle_sources (tellCut p s)

theorem cutPoll_holdAnswered (p : Poll) (s : State) : HoldAnswered s (cutPoll p s) :=
  holdOr_holdAnswered (u := tellCut p s) rfl fun _ => rfl

/-! ### The engine goes on after a word (R61) -/

theorem goOn_of_ended {p : Poll} {s : State} (ended : p.last < p.next) : goOn p s = completePoll p s := if_pos ended

theorem goOn_of_cut {p : Poll} {s : State} (more : ¬ p.last < p.next) (cut : s.link.cutPending = true) :
    goOn p s = cutPoll p s := by
  unfold goOn
  rw [if_neg more, if_pos cut]

theorem goOn_of_noCut {p : Poll} {s : State} (more : ¬ p.last < p.next) (cut : s.link.cutPending = false) :
    goOn p s = holdOr (some p) enterInterval s := by
  unfold goOn
  rw [if_neg more, if_neg (by simp [cut])]

/-! ### Result words (R61, R62) -/

/-- A result word in EXCHANGE is taken, and the engine goes on (R61). -/
theorem exec_resultWord_of_awaited {f : BitVec 20} {s : State} {p : Poll} (porHigh : s.lines.porLow = false)
    (isResult : isResultWord f = true) (state : s.link.state = .exchange) (found : s.link.poll = some p) :
    exec (.resultWord f) s = .next (goOn (processed p) (withPoll (processed p) (takenWord p (frameWord f) s))) := by
  rw [exec_resultWord_of_powered porHigh, receive_of_isResultWord isResult]
  obtain missed | ⟨q, -, foundq, same⟩ := resultWord_cases (frameWord f) s
  · simp only [resultWord, state, found, takenWord, withPoll] <;> rfl
  · rw [same, Option.some.inj (foundq.symm.trans found)]
    rfl

theorem positionOf?_positionNumber (x : Position) : positionOf? (positionNumber x) = some x := by
  have := positionNumber_bounds x
  unfold positionOf?
  rw [dif_pos this]
  rfl

theorem resultOf_of_mismatch {p : Poll} {w : Word16}
    (bad : resultCheck w ≠ p.next % 16 ∨ resultDeep w = 3) : resultOf p w = none := by
  unfold resultOf
  split
  case h_1 deepFound =>
    refine if_neg fun same => ?_
    obtain other | three := bad
    · exact other same
    · simp [three, deepOutcome?] at deepFound
  case h_2 => rfl

theorem resultOf_of_match {p : Poll} {w : Word16} {x : Position} {deep : DeepOutcome} (position : positionNumber x = p.next)
    (same : resultCheck w = p.next % 16) (outcome : deepOutcome? (resultDeep w) = some deep) :
    resultOf p w = some { valve := p.valve, position := x, kind := p.kind, present := resultPresent w,
                          protective := resultProtective w, deep := deep, delay := resultDelay w } := by
  have found : positionOf? p.next = some x := position ▸ positionOf?_positionNumber x
  simp [resultOf, found, outcome, same]

theorem takenWord_of_none {p : Poll} {w : Word16} (s : State) (none : resultOf p w = none) :
    takenWord p w s = countMismatch s := by
  simp [takenWord, none]

theorem takenWord_of_some {p : Poll} {w : Word16} {res : Result} (s : State) (some : resultOf p w = some res) :
    takenWord p w s = applyResult res s := by
  simp [takenWord, some]

/-- Of the link a taken word changes the mismatch count alone. -/
theorem takenWord_link (p : Poll) (w : Word16) (s : State) :
    (takenWord p w s).link.holdPending = s.link.holdPending ∧ (takenWord p w s).link.cutPending = s.link.cutPending ∧
    (takenWord p w s).link.down = s.link.down ∧ (takenWord p w s).settings = s.settings := by
  unfold takenWord
  split <;> simp [countMismatch]

theorem restState_congr {l m : Link} (hold : m.holdPending = l.holdPending) : restState m = restState l := by
  simp only [restState, hold]

theorem goOn_offLink (p : Poll) (s : State) : OffLink s (goOn p s) := by
  unfold goOn
  split
  · simp [OffLink]
  · split
    · simp [OffLink]
    · unfold holdOr
      split <;> simp [OffLink]

/-- Settles O27: the taken word, then each of the four ways on of R61. -/
theorem resultWordInExchange : Obligations.ResultWordInExchange := by
  unfold Obligations.ResultWordInExchange
  intro f s p x porHigh isResult state found position
  generalize taken : takenWord p (frameWord f) s = s1
  have owners : OwnersStay s s1 := taken ▸ takenWord_owners p (frameWord f) s
  obtain ⟨hold, cut, down, settings⟩ := taken ▸ takenWord_link p (frameWord f) s
  have rest : restState (withPoll (processed p) s1).link = restState s.link := restState_congr hold
  have owned : OwnersStay s (withPoll (processed p) s1) :=
    owners.trans (t := s1) ⟨.of_eq rfl rfl, rfl, rfl, rfl, rfl⟩
  have uHold : (withPoll (processed p) s1).link.holdPending = s.link.holdPending := hold
  have uCut : (withPoll (processed p) s1).link.cutPending = s.link.cutPending := cut
  have unfinished (more : p.next < p.last) : ¬ (processed p).last < (processed p).next := by
    simp only [processed]
    omega
  refine ⟨s1, goOn (processed p) (withPoll (processed p) s1), ?_, fun bad => ?_, fun deep same outcome => ?_,
    goOn_offLink (processed p) (withPoll (processed p) s1), fun last => ?_, fun more cutting => ?_,
    fun more noCut holding => ?_, fun more noCut noHold => ?_⟩
  · rw [exec_resultWord_of_awaited porHigh isResult state found, taken]
  · rw [← taken, takenWord_of_none s (resultOf_of_mismatch bad)]
    rfl
  · have outcome : deepOutcome? (resultDeep (frameWord f)) = some deep := by
      unfold resultDeep
      rcases outcome with ⟨field, rfl⟩ | ⟨field, rfl⟩ | ⟨field, rfl⟩ <;> rw [field] <;> rfl
    rw [← taken, takenWord_of_some s (resultOf_of_match position same outcome)]
    rfl
  · have ended : (processed p).last < (processed p).next := by simp [processed, last]
    rw [goOn_of_ended ended]
    refine ⟨(completePoll_holdAnswered _ _).before owned, fun wasDown => completePoll_noticeSet (down.trans wasDown),
      ?_, ?_⟩
    · rw [completePoll_link, rest]
      rfl
    · rw [completePoll_sources]
      exact tellEnded_sources_congr rfl rfl rfl rfl
  · rw [goOn_of_cut (unfinished more) (uCut.trans cutting)]
    refine ⟨(cutPoll_holdAnswered _ _).before owned, ?_, ?_⟩
    · rw [cutPoll_link, rest]
      rfl
    · rw [cutPoll_sources, ← settings]
      rfl
  · obtain ⟨q, pending⟩ := Option.isSome_iff_exists.1 holding
    rw [goOn_of_noCut (unfinished more) (uCut.trans noCut)]
    refine ⟨owned.holdAnswered, ?_, ?_⟩ <;>
      rw [holdOr_of_hold (uHold.trans pending)] <;> simp <;> rfl
  · rw [goOn_of_noCut (unfinished more) (uCut.trans noCut),
      holdOr_of_none (uHold.trans noHold), enterInterval_eq (p := processed p) rfl]
    exact ⟨rfl, rfl⟩

end Sys2Proof.Machine

/-! The ends of polls at their sources, the timers, the cut and the hold at the awaited word, HOLD LINK and RELEASE LINK
(R63 to R72, R82, R86, R87). -/

namespace Sys2Proof.Machine

/-! ### Sources at a poll's end (R87) -/

theorem moveCursor_of_some {v w : Valve} {s : State} (found : nextCursor v s = some w) :
    moveCursor v s = { s with sources := { s.sources with cursor := w } } := by
  simp [moveCursor, found]

/-- Settles O28: the three sources, the cut, and the search of the next cursor. -/
theorem pollEndAtItsSource : Obligations.PollEndAtItsSource := by
  unfold Obligations.PollEndAtItsSource
  refine ⟨fun p s => ⟨fun cycle => ?_, fun directed => ?_, fun sweep other => ?_, fun w sweep same found => ?_, rfl⟩,
    nextCursor_eq_some_iff⟩
  · simp [tellEnded, cycle]
  · simp [tellEnded, directed]
  · simp [tellEnded, sweep, other]
  · have moved := moveCursor_of_some (s := { s with sources := { s.sources with sweepInProgress := false } })
      ((nextCursor_congr (s := s) rfl p.valve).trans found)
    simp only [tellEnded, sweep, if_pos same]
    exact moved

/-! ### Timers that end (R63, R65, R66) -/

theorem exec_wordIntervalEnd {s : State} (porHigh : s.lines.porLow = false) :
    exec .wordIntervalEnd s = .next (wordIntervalEnd s) := powered_of_powered porHigh wordIntervalEnd

theorem exec_replyTimeout {s : State} (porHigh : s.lines.porLow = false) :
    exec .replyTimeout s = .next (awaitedTimeout .header s) := powered_of_powered porHigh (awaitedTimeout .header)

theorem exec_wordTimeout {s : State} (porHigh : s.lines.porLow = false) :
    exec .wordTimeout s = .next (awaitedTimeout .exchange s) := powered_of_powered porHigh (awaitedTimeout .exchange)

/-- A row that names a case of an event, with the case or without it. -/
theorem powered_whenDue_eq (due : State → Bool) (event : State → State) {s : State} (porHigh : s.lines.porLow = false) :
    powered (whenDue due event) s = .next (if due s then event s else s) := powered_of_powered porHigh _

theorem exec_linkDown {s : State} (porHigh : s.lines.porLow = false) :
    exec .linkDown s = .next (if linkDownDue s then awaitedTimeout s.link.state s else s) :=
  powered_whenDue_eq linkDownDue (fun t => awaitedTimeout t.link.state t) porHigh

theorem wordIntervalEnd_of_elsewhere {s : State} (elsewhere : s.link.state ≠ .interval) : wordIntervalEnd s = s := by
  unfold wordIntervalEnd
  split
  case h_1 interval => exact absurd interval elsewhere
  case h_2 => rfl

theorem awaitedTimeout_of_elsewhere {awaiting : LinkState} {s : State} (elsewhere : s.link.state ≠ awaiting) :
    awaitedTimeout awaiting s = s := by
  unfold awaitedTimeout
  split
  · exact if_neg elsewhere
  · rfl

theorem awaitedTimeout_of_awaited {awaiting : LinkState} {s : State} {p : Poll} (awaited : s.link.state = awaiting)
    (found : s.link.poll = some p) : awaitedTimeout awaiting s = abortPoll p s := by
  simp [awaitedTimeout, found, awaited]

theorem abortPoll_offLink (p : Poll) (s : State) : OffLink s (abortPoll p s) := by simp [OffLink]

/-- Settles O29: the word interval sends the expectation word, the other timers abort the poll. -/
theorem linkTimersEndOrAbort : Obligations.LinkTimersEndOrAbort := by
  unfold Obligations.LinkTimersEndOrAbort
  refine ⟨fun s p porHigh state found => ?_, fun s porHigh => ⟨fun elsewhere => ?_, fun elsewhere => ?_,
    fun elsewhere => ?_, fun fewer => ?_⟩, fun s p porHigh awaiting found => ?_⟩
  · rw [exec_wordIntervalEnd porHigh]
    simp [wordIntervalEnd, state, sendExpectation, found, exchangeTicks, linkFrameTicks, ticksPerMicrosecond]
  · rw [exec_wordIntervalEnd porHigh, wordIntervalEnd_of_elsewhere elsewhere]
  · rw [exec_replyTimeout porHigh, awaitedTimeout_of_elsewhere elsewhere]
  · rw [exec_wordTimeout porHigh, awaitedTimeout_of_elsewhere elsewhere]
  · rw [exec_linkDown porHigh, if_neg (by simp [linkDownDue, fewer])]
  · refine ⟨abortPoll p s, abortPoll_holdAnswered p s, abortPoll_offLink p s, fun state => ?_, fun state => ?_,
      fun eighth => ⟨?_, abortPoll_noticeSet eighth⟩, abortPoll_link p s, abortPoll_sources p s, abortPoll_quiet⟩
    · rw [exec_replyTimeout porHigh, awaitedTimeout_of_awaited state found]
    · rw [exec_wordTimeout porHigh, awaitedTimeout_of_awaited state found]
    · have due : linkDownDue s = true := by rcases awaiting with state | state <;> simp [linkDownDue, state, eighth]
      rw [exec_linkDown porHigh, if_pos due, awaitedTimeout_of_awaited rfl found]

/-! ### The cut and the hold at the awaited word (R68, R69) -/

theorem exec_sweepCut {s : State} (porHigh : s.lines.porLow = false) (f : BitVec 20) :
    exec (.sweepCut f) s = .next (if cutDue f s then receive f s else s) :=
  powered_whenDue_eq (cutDue f) (receive f) porHigh

theorem exec_deferredHold {s : State} (porHigh : s.lines.porLow = false) (f : Option (BitVec 20)) :
    exec (.deferredHold f) s = .next (if deferredHoldDue f s then receiveOrTimeout f s else s) :=
  powered_whenDue_eq (deferredHoldDue f) (receiveOrTimeout f) porHigh

/-- A cut at its word is the receipt of that word. -/
theorem exec_sweepCut_of_due {s : State} {f : BitVec 20} (porHigh : s.lines.porLow = false) (due : cutDue f s = true) :
    exec (.sweepCut f) s = .next (receive f s) := by
  rw [exec_sweepCut porHigh, if_pos due]

/-- A result word with a hold pending leaves the engine HELD, with the poll where it has positions left and no cut ends
it (R61, R69). -/
theorem goOn_of_hold {p : Poll} {s : State} (holding : s.link.holdPending.isSome = true) :
    (goOn p s).link.state = .held ∧ (goOn p s).link.holdPending = none ∧
    (s.link.cutPending = true ∨ p.last < p.next → (goOn p s).link.poll = none) ∧
    (s.link.cutPending = false → ¬ p.last < p.next → (goOn p s).link.poll = some p) := by
  have held : restState s.link = .held := if_pos holding
  by_cases ended : p.last < p.next
  · rw [goOn_of_ended ended, completePoll_link, held]
    exact ⟨rfl, rfl, fun _ => rfl, fun _ more => absurd ended more⟩
  cases cut : s.link.cutPending with
  | true =>
    rw [goOn_of_cut ended cut, cutPoll_link, held]
    exact ⟨rfl, rfl, fun _ => rfl, fun h => nomatch h⟩
  | false =>
    obtain ⟨q, pending⟩ := Option.isSome_iff_exists.1 holding
    rw [goOn_of_noCut ended cut, holdOr_of_hold pending]
    simp [becomeHeld_eq, atRest, ended]

theorem goOn_holdAnswered (p : Poll) {s : State} : HoldAnswered s (goOn p s) := by
  unfold goOn
  split
  · exact completePoll_holdAnswered p s
  · split
    · exact cutPoll_holdAnswered p s
    · exact holdOr_holdAnswered rfl fun _ => rfl

theorem takenWord_withPoll_owners (p : Poll) (w : Word16) (s : State) :
    OwnersStay s (withPoll (processed p) (takenWord p w s)) :=
  (takenWord_owners p w s).trans (t := takenWord p w s) ⟨.of_eq rfl rfl, rfl, rfl, rfl, rfl⟩

/-- Settles O30: the two words that a cut awaits, and the word or the timeout that a hold awaits. -/
theorem cutAndHoldAtTheAwaitedWord : Obligations.CutAndHoldAtTheAwaitedWord := by
  unfold Obligations.CutAndHoldAtTheAwaitedWord
  refine ⟨fun f s p porHigh linkOk found cutting => ⟨fun state isReply same => ?_, fun state isResult more => ?_⟩,
    fun f s porHigh noCut => ?_, fun f s p porHigh isResult found state holding => ?_, fun f s porHigh noHold => ?_⟩
  · have due : cutDue f s = true := by
      simp only [cutDue, cutting, state, found, isReply, Bool.true_and, decide_eq_true_eq]
      exact same
    have accepted := exec_replyHeader_of_accepted porHigh isReply state found same
    obtain ⟨link, sources, -⟩ := acceptHeader_link_sources found (linkOk.noHold (by simp [state])) (frameWord f)
    rw [if_pos cutting] at link sources
    refine ⟨_, ?_, accepted, ?_⟩
    · rw [exec_sweepCut_of_due porHigh due, ← exec_replyHeader_of_powered porHigh, accepted]
    · rw [link, sources]
      exact ⟨rfl, rfl, rfl, rfl, rfl⟩
  · have due : cutDue f s = true := by simp [cutDue, cutting, state, found, isResult, more]
    have taken := exec_resultWord_of_awaited porHigh isResult state found
    have owners := takenWord_withPoll_owners p (frameWord f) s
    obtain ⟨-, cut, -, settings⟩ := takenWord_link p (frameWord f) s
    have cut : (withPoll (processed p) (takenWord p (frameWord f) s)).link.cutPending = s.link.cutPending := cut
    have unfinished : ¬ (processed p).last < (processed p).next := by
      simp only [processed]
      omega
    refine ⟨_, ?_, taken, ?_⟩
    · rw [exec_sweepCut_of_due porHigh due, ← exec_resultWord_of_powered porHigh, taken]
    · rw [goOn_of_cut unfinished (cut.trans cutting), cutPoll_link, cutPoll_sources, restState_congr owners.hold]
      refine ⟨rfl, rfl, rfl, rfl, ?_⟩
      rw [← settings]
      rfl
  · rw [exec_sweepCut porHigh, if_neg (by simp [cutDue, noCut])]
  · have due : deferredHoldDue f s = true := by simp [deferredHoldDue, state, holding, isResult]
    rw [exec_deferredHold porHigh, if_pos due]
    cases f with
    | none =>
      have held : restState s.link = .held := if_pos holding
      have aborted : receiveOrTimeout none s = abortPoll p s := awaitedTimeout_of_awaited state found
      refine ⟨abortPoll p s, by rw [aborted], fun x h => (nomatch h), fun _ => ?_, ?_⟩
      · rw [exec_wordTimeout porHigh, awaitedTimeout_of_awaited state found]
      · rw [abortPoll_link, held]
        exact ⟨rfl, rfl, abortPoll_holdAnswered p s, fun _ => rfl, fun h => (nomatch h)⟩
    | some x =>
      have taken := exec_resultWord_of_awaited porHigh (by simpa using isResult) state found
      have owners := takenWord_withPoll_owners p (frameWord x) s
      obtain ⟨-, cut, -, -⟩ := takenWord_link p (frameWord x) s
      have cut : (withPoll (processed p) (takenWord p (frameWord x) s)).link.cutPending = s.link.cutPending := cut
      obtain ⟨held, done, without, kept⟩ := goOn_of_hold (p := processed p)
        (s := withPoll (processed p) (takenWord p (frameWord x) s)) (by rw [owners.hold]; exact holding)
      rw [cut] at without kept
      refine ⟨_, ?_, ?_, fun h => (nomatch h), held, done, (goOn_holdAnswered _).before owners, ?_, fun _ noCut more => ?_⟩
      · exact (exec_resultWord_of_powered porHigh x).symm.trans taken
      · rintro y h
        exact Option.some.inj h ▸ taken
      · rintro (h | cutting | ended)
        · cases h
        · exact without (.inl cutting)
        · exact without (.inr (Nat.lt_succ_of_le ended))
      · exact kept noCut (by simp only [processed]; omega)
  · rw [exec_deferredHold porHigh, if_neg (by simp [deferredHoldDue, noHold])]

/-! ### HOLD LINK and RELEASE LINK (R69 to R72) -/

theorem holdClaim_of_quiet {q : Port} {s : State} (state : s.link.state = .idle ∨ s.link.state = .interval) :
    holdClaim q s = ({ s with link := atRest .held s.link.poll s.link }, some (plain .done)) := by
  rcases state with state | state <;> simp [holdClaim, state, becomeHeld_eq]

theorem holdClaim_of_header {q : Port} {s : State} {p : Poll} (state : s.link.state = .header)
    (found : s.link.poll = some p) : holdClaim q s =
      (if s.link.cutPending then becomeHeld none (tellCut p s) else becomeHeld (some p) s, some (plain .done)) := by
  simp only [holdClaim, state, found]
  split <;> rfl

theorem holdClaim_of_exchange {q : Port} {s : State} (state : s.link.state = .exchange) : holdClaim q s =
    if s.link.holdPending.isSome then (s, some (plain .pending))
    else ({ s with link := { s.link with holdPending := some q } }, none) := by
  simp [holdClaim, state]

/-- A claim that ends without an answer, and touches neither the ports nor the engine, leaves its request waiting. -/
theorem leftWaiting_of_claimOf {c : Instr} {q : Sender} {claim : State → State × Option Reply} {s u : State}
    (hc : claimOf c = some (q, claim)) (executing : Executing c q s) (claimed : claim s = (u, none))
    (ports : ∀ p, u.port p = s.port p) (engine : u.engine = s.engine) : LeftWaiting c q u s := by
  obtain ⟨_, _, row⟩ := requestOf_of_claimOf hc
  obtain ⟨-, -, -, -, begun, running⟩ := executing.slot row
  have own : waits q.port (freeEngine u) = false := by simp [waits, freeEngine_port, ports, begun]
  refine ⟨engineBegin 2 (freeEngine u), ?_, ⟨by simp [State.blocks], engineBegin_rest 2 .a _, engineBegin_rest 2 .b _⟩,
    ?_, fun other => ?_⟩
  · rw [exec_of_claimOf hc s, serveClaim_executing row executing, claimed]
    rfl
  · rw [engineBegin_port 2 own, freeEngine_port, ports]
  · have none : ∀ p, waits p (freeEngine u) = false := fun p => by
      rcases eq_or_eq_otherPort q.port p with rfl | rfl
      · exact own
      · simpa only [waits, freeEngine_port, ports] using other
    rw [engineBegin_none none]
    exact ⟨by simp [freeEngine, engine, running], by rw [freeEngine_port]⟩

/-- Settles O33: the claim of HOLD LINK by the engine's state, and that of RELEASE LINK by what is held. -/
theorem holdAndReleaseTheLink : Obligations.HoldAndReleaseTheLink := by
  unfold Obligations.HoldAndReleaseTheLink
  refine ⟨fun q s executing linkOk => ⟨fun state => ?_, fun state noCut => ?_, fun p state cutting found => ?_,
      fun state noHold => ?_, fun state holding => ?_, fun state => ?_⟩,
    fun q s executing => ⟨fun elsewhere => ?_, fun state none => ?_, fun p state found => ⟨fun passed => ?_, fun live => ?_⟩⟩⟩
  · exact completes_of_claimOf rfl executing (holdClaim_of_quiet state) (.of_eq rfl rfl) rfl
  · obtain ⟨p, found⟩ := Option.isSome_iff_exists.1 (linkOk.poll (by simp [state, isPolling]))
    have claimed := holdClaim_of_header (q := q.port) state found
    rw [if_neg (by simp [noCut]), becomeHeld_eq, ← found] at claimed
    exact completes_of_claimOf rfl executing claimed (.of_eq rfl rfl) rfl
  · have claimed := holdClaim_of_header (q := q.port) state found
    rw [if_pos cutting] at claimed
    exact completes_of_claimOf rfl executing claimed (.of_eq rfl rfl) rfl
  · exact leftWaiting_of_claimOf rfl executing ((holdClaim_of_exchange state).trans (if_neg (by simp [noHold])))
      (fun _ => rfl) rfl
  · exact refuses_of_claimOf rfl executing ((holdClaim_of_exchange state).trans (if_pos holding))
  · exact refuses_of_claimOf rfl executing (by simp [holdClaim, state])
  · exact refuses_of_claimOf rfl executing (by unfold releaseClaim; split; exacts [absurd ‹_› elsewhere, rfl])
  · exact completes_of_claimOf rfl executing (by simp only [releaseClaim, state, none, becomeIdle_eq]) (.of_eq rfl rfl) rfl
  · exact completes_of_claimOf rfl executing
      (by simp only [releaseClaim, state, found, if_pos passed, becomeIdle_eq]) (.of_eq rfl rfl) rfl
  · have stays : ¬ p.superseded = true := by simp [live]
    exact completes_of_claimOf rfl executing
      (by simp only [releaseClaim, state, found, if_neg stays, openTelegram_resumed]) (.of_eq rfl rfl) rfl

end Sys2Proof.Machine

/-! The frames of the monitoring link: their checks, and the bits of the words in them (R56, R170). -/

namespace Sys2Proof.Machine

/-! ### The parity of a list of bits -/

theorem foldl_xor_start (l : List Bool) (b : Bool) : l.foldl xor b = (b ^^ l.foldl xor false) := by
  induction l generalizing b with
  | nil => simp
  | cons a l ih => rw [List.foldl_cons, ih, List.foldl_cons, ih (false ^^ a), Bool.false_xor, Bool.xor_assoc]

theorem foldl_xor_cons (a : Bool) (l : List Bool) : (a :: l).foldl xor false = (a ^^ l.foldl xor false) := by
  rw [List.foldl_cons, Bool.false_xor, foldl_xor_start]

theorem foldl_xor_map_xor {α : Type} (f g : α → Bool) (l : List α) : (l.map fun x => f x ^^ g x).foldl xor false =
    ((l.map f).foldl xor false ^^ (l.map g).foldl xor false) := by
  induction l with
  | nil => rfl
  | cons a l ih =>
    simp only [List.map_cons, foldl_xor_cons, ih, Bool.xor_assoc, Bool.xor_left_comm]

/-- The exclusive or of a list of bits is the oddness of its number of ones. -/
theorem foldl_xor_eq_true_iff {α : Type} (f : α → Bool) (l : List α) :
    (l.map f).foldl xor false = true ↔ l.countP f % 2 = 1 := by
  induction l with
  | nil => simp
  | cons a l ih =>
    rw [List.map_cons, foldl_xor_cons]
    cases h : f a
    case false => simpa [List.countP_cons, h] using ih
    case true =>
      have flips : (l.map f).foldl xor false = false ↔ ¬ l.countP f % 2 = 1 := by rw [← ih]; simp
      simp only [Bool.true_xor, Bool.not_eq_true', flips, List.countP_cons, h, if_true]
      omega

/-! ### The checks of a frame (R56) -/

/-- The bits of a frame that its parity covers, with the parity bit: the ones of bits 1 to 18. -/
theorem frameOk_iff (f : BitVec 20) : frameOk f = true ↔ f.getLsbD 19 = false ∧ f.getLsbD 0 = true ∧
    ((List.range 18).map fun k => f.getLsbD (k + 1)).foldl xor false = true := by
  have covered : ((bitsOf f).drop 1).take 18 = (List.range 18).map fun k => f.getLsbD (k + 1) := rfl
  rw [frameOk, covered]
  simp only [oddParity, Bool.and_eq_true, Bool.not_eq_true', Bool.not_not, and_assoc]

/-- Inverting some bits, with a mark among them or an odd number of the covered ones. -/
theorem frameOk_xor {f b : BitVec 20} (ok : frameOk f = true) (moved : b.getLsbD 19 = true ∨ b.getLsbD 0 = true ∨
    ((List.range 18).map fun n => b.getLsbD (n + 1)).foldl xor false = true) : frameOk (f ^^^ b) = false := by
  obtain ⟨start, stop, parity⟩ := (frameOk_iff f).1 ok
  refine Bool.eq_false_iff.2 fun still => ?_
  obtain ⟨start', stop', parity'⟩ := (frameOk_iff _).1 still
  simp only [BitVec.getLsbD_xor, start, stop, foldl_xor_map_xor, parity] at start' stop' parity'
  obtain h | h | h := moved
  · rw [h] at start'
    cases start'
  · rw [h] at stop'
    cases stop'
  · rw [h] at parity'
    cases parity'

/-- One inverted bit is a mark, or one of the covered ones. -/
theorem frameOk_flip {f : BitVec 20} (ok : frameOk f = true) (k : Fin 20) : frameOk (f ^^^ (1#20 <<< k.val)) = false := by
  refine frameOk_xor ok ?_
  clear ok
  revert k
  decide

/-! ### The frame of a word (R170) -/

theorem linkFrame_bits (m : Bool) (w : Word16) : (linkFrame m w).getLsbD 19 = false ∧ (linkFrame m w).getLsbD 18 = m ∧
    (∀ k, k < 16 → (linkFrame m w).getLsbD (k + 2) = w.getLsbD k) ∧
    (linkFrame m w).getLsbD 1 = oddParity (m :: bitsOf w) ∧ (linkFrame m w).getLsbD 0 = true := by
  unfold linkFrame
  simp only [BitVec.getLsbD_append]
  refine ⟨?_, ?_, fun k within => ?_, ?_, ?_⟩
  · simp
  · simp
  · have low : ¬ 16 ≤ k := Nat.not_le.2 within
    simp [low]
  · simp
  · simp

theorem linkFrame_ok (m : Bool) (w : Word16) : frameOk (linkFrame m w) = true := by
  obtain ⟨start, mark, word, parity, stop⟩ := linkFrame_bits m w
  have covered : (List.range 18).map (fun k => (linkFrame m w).getLsbD (k + 1)) =
      oddParity (m :: bitsOf w) :: (bitsOf w ++ [m]) := by
    have split : List.range 18 = 0 :: ((List.range 16).map (· + 1) ++ [17]) := rfl
    rw [split, List.map_cons, List.map_append, List.map_map, List.map_singleton, parity, mark, bitsOf]
    refine congrArg (_ :: · ++ [m]) (List.map_congr_left fun k hk => word k (List.mem_range.1 hk))
  refine (frameOk_iff _).2 ⟨start, stop, ?_⟩
  rw [covered, foldl_xor_cons, List.foldl_append, foldl_xor_start [m], oddParity, foldl_xor_cons]
  cases m <;> simp

theorem linkFrame_word (m : Bool) (w : Word16) : (linkFrame m w).extractLsb' 2 16 = w := by
  obtain ⟨-, -, word, -⟩ := linkFrame_bits m w
  refine BitVec.eq_of_getLsbD_eq fun k within => ?_
  rw [BitVec.getLsbD_extractLsb', Nat.add_comm 2 k, word k within]
  simp [within]

/-! ### The words of the part (R170) -/

theorem firstHeaderWord_bits (kind : PollKind) (v : Valve) :
    (firstHeaderWord kind v).getLsbD 15 = decide (kind = .deep) ∧ (firstHeaderWord kind v).extractLsb' 4 11 = 0 ∧
    (firstHeaderWord kind v).extractLsb' 0 4 = BitVec.ofNat 4 (v.val + 1) := by
  revert v
  cases kind <;> decide

theorem secondHeaderWord_bits (first count : Nat) :
    (secondHeaderWord first count).extractLsb' 9 7 = BitVec.ofNat 7 first ∧
    (secondHeaderWord first count).extractLsb' 7 2 = 0 ∧
    (secondHeaderWord first count).extractLsb' 0 7 = BitVec.ofNat 7 count := by
  unfold secondHeaderWord
  refine ⟨?_, ?_, ?_⟩ <;> refine BitVec.eq_of_toNat_eq ?_ <;>
    simp only [BitVec.extractLsb'_toNat, BitVec.toNat_ofNat, BitVec.ofNat_eq_ofNat, Nat.shiftRight_eq_div_pow] <;> omega

theorem expectationWord_bits (position : Nat) (skip : Bool) :
    (expectationWord position skip).extractLsb' 8 8 = 0 ∧ (expectationWord position skip).getLsbD 7 = skip ∧
    (expectationWord position skip).extractLsb' 0 7 = BitVec.ofNat 7 position := by
  have flag : (if skip then 128 else 0) = 0 ∨ (if skip then 128 else 0) = 128 := by cases skip <;> simp
  refine ⟨?_, ?_, ?_⟩
  · refine BitVec.eq_of_toNat_eq ?_
    simp only [expectationWord, BitVec.extractLsb'_toNat, BitVec.toNat_ofNat, BitVec.ofNat_eq_ofNat,
      Nat.shiftRight_eq_div_pow]
    omega
  · simp only [expectationWord, BitVec.getLsbD_ofNat, Nat.testBit_eq_decide_div_mod_eq]
    cases skip <;> simp
  · refine BitVec.eq_of_toNat_eq ?_
    simp only [expectationWord, BitVec.extractLsb'_toNat, BitVec.toNat_ofNat, Nat.shiftRight_eq_div_pow]
    omega

theorem receive_of_bad {f : BitVec 20} (bad : frameOk f = false) (s : State) : receive f s = countMismatch s := by
  simp [receive, isReplyHeader, isResultWord, bad]

/-- Settles O32: the checks, the frame of a word, one inverted bit, and the bits of the part's words. -/
theorem linkFramesCheckTheirParity : Obligations.LinkFramesCheckTheirParity := by
  unfold Obligations.LinkFramesCheckTheirParity
  refine ⟨fun f s porHigh bad => ?_, fun f s => ⟨rfl, rfl⟩, fun f => ⟨?_, ?_, ?_, rfl⟩,
    fun m w => ?_, fun m w k => frameOk_flip (linkFrame_ok m w) k, firstHeaderWord_bits, secondHeaderWord_bits,
    expectationWord_bits⟩
  · have received : exec (.frameError f) s = .next (receive f s) := powered_of_powered porHigh (receive f)
    rw [received, receive_of_bad bad]
    rfl
  · rw [frameOk_iff, foldl_xor_eq_true_iff]
  · simp [isReplyHeader, frameType]
  · simp [isResultWord, frameType]
  · obtain ⟨start, mark, -, -, stop⟩ := linkFrame_bits m w
    exact ⟨linkFrame_ok m w, start, mark, linkFrame_word m w, stop⟩

end Sys2Proof.Machine

/-! The Evidence Unit's claims: protective firings, clean results and what a verdict makes of the tally and the sequencer
(R25 to R30, R39, R42 to R52). -/

namespace Sys2Proof.Machine

/-! ### The claim on a result, by what it makes of the life state (R15, R16, R45, R52) -/

/-- A claim leaves emit class and unit tag (R39). -/
theorem resultRecord_class_tag (res : Result) (settings : Settings) (cycle : Word16) (r : LevelRecord) :
    (resultRecord res settings cycle r).emitClass = r.emitClass ∧ (resultRecord res settings cycle r).unitTag = r.unitTag := by
  unfold resultRecord
  dsimp only
  split
  · unfold missingIndication
    dsimp only
    split <;> exact ⟨rfl, rfl⟩
  split
  · unfold protectiveFiring
    dsimp only
    repeat' split
    all_goals exact ⟨rfl, rfl⟩
  · have fields : (cleanFields res.delay r).emitClass = r.emitClass ∧ (cleanFields res.delay r).unitTag = r.unitTag := by
      unfold cleanFields
      dsimp only
      split <;> exact ⟨rfl, rfl⟩
    unfold cleanResult cleanVerdict
    dsimp only
    repeat' split
    all_goals exact fields

theorem offerCheck_of_place {v : Valve} {p : Position} {s : State} (place : s.sources.directed.length < 4) :
    offerCheck v p s = joinDirected v (positionNumber p) 1 .protectiveFiring s := if_pos (by simp [hasPlace, place])

theorem offerCheck_of_full {v : Valve} {p : Position} {s : State} (full : 4 ≤ s.sources.directed.length) :
    offerCheck v p s = setNotice .queueDrop s := if_neg (by simp [hasPlace, full])

theorem offerCheck_flagsStay (v : Valve) (p : Position) (s : State) : FlagsStay s (offerCheck v p s) := by
  unfold offerCheck
  split
  · exact .of_eq rfl rfl
  · exact setNotice_flagsStay .queueDrop s

/-- What an offer leaves: all but the directed queue and the notices. -/
theorem OnlyRecord.offer {v w : Valve} {p x : Position} {s t : State} (h : OnlyRecord v p s t) :
    OnlyRecord v p s (offerCheck w x t) := by
  obtain ⟨records, tallies, rest⟩ := h
  refine ⟨fun a b other => ?_, fun a other => ?_, by simpa using rest⟩
  · rw [record_congr (s := t) (by simp), records a b other]
  · rw [tally_congr (s := t) (by simp), tallies a other]

theorem Verdict.offer {v w : Valve} {p x : Position} {new : LevelRecord} {s t : State} (h : Verdict v p new s t) :
    Verdict v p new s (offerCheck w x t) := by
  obtain ⟨written, others, level⟩ := h
  exact ⟨by rw [record_congr (s := t) (by simp), written], others.offer, level.stays (offerCheck_flagsStay w x t)⟩

theorem WrittenOnly.offer {v w : Valve} {p x : Position} {new : LevelRecord} {s t : State} (h : WrittenOnly v p new s t) :
    WrittenOnly v p new s (offerCheck w x t) := by
  obtain ⟨written, others, tallies, seq, lanes⟩ := h
  exact ⟨by rw [record_congr (s := t) (by simp), written], others.offer, by simpa using tallies, by simpa using seq,
    by simpa using lanes⟩

section
variable {res : Result} {s : State} {new : LevelRecord}

theorem applyResult_of_monitored (monitored : isMonitored (s.record res.valve res.position).life = true)
    (made : resultRecord res s.settings s.phase.cycle (s.record res.valve res.position) = new) :
    applyResult res s = if offers res then
        offerCheck res.valve res.position (commitRecord res.valve res.position new .evidence s)
      else commitRecord res.valve res.position new .evidence s := by
  unfold applyResult
  dsimp only
  rw [if_pos monitored, made]

/-- A result that moves the life state is a verdict. -/
theorem applyResult_of_moved (monitored : isMonitored (s.record res.valve res.position).life = true)
    (made : resultRecord res s.settings s.phase.cycle (s.record res.valve res.position) = new)
    (moved : (s.record res.valve res.position).life ≠ new.life) :
    Verdict res.valve res.position { new with revision := (s.record res.valve res.position).revision + 1 } s
      (applyResult res s) := by
  have claimed := commitRecord_verdict (recordMoves_eq_true_of_life moved) .evidence
  rw [applyResult_of_monitored monitored made]
  split
  · exact claimed.offer
  · exact claimed

/-- One that keeps it writes the record alone. -/
theorem applyResult_of_kept (monitored : isMonitored (s.record res.valve res.position).life = true)
    (made : resultRecord res s.settings s.phase.cycle (s.record res.valve res.position) = new)
    (kept : new.life = (s.record res.valve res.position).life) :
    WrittenOnly res.valve res.position new s (applyResult res s) := by
  have fields := resultRecord_class_tag res s.settings s.phase.cycle (s.record res.valve res.position)
  rw [made] at fields
  have claimed := setRecord_writtenOnly res.valve res.position new s
  rw [applyResult_of_monitored monitored made, commitRecord_of_unmoved (recordMoves_eq_false kept fields.1 fields.2)]
  split
  · exact claimed.offer
  · exact claimed

theorem applyResult_sources_of_noOffer (none : offers res = false) : (applyResult res s).sources = s.sources := by
  obtain same | ⟨-, u, hu, -⟩ := applyResult_cases res s
  · rw [same]
  · unfold applyResult
    dsimp only
    split
    · rw [if_neg (by simp [none])]
      simp
    · rfl

end

/-! ### Protective firings (R42 to R45) -/

theorem resultRecord_of_protective {res : Result} (present : res.present = true) (protective : res.protective = true)
    (settings : Settings) (cycle : Word16) (r : LevelRecord) : resultRecord res settings cycle r =
      { protectiveFiring settings r with lastCycle := some cycle } := by
  simp [resultRecord, present, protective]

theorem protectiveFiring_atLimit {settings : Settings} {r : LevelRecord} (dark : settings.darkLimit ≤ min (r.pfRun + 1) 15) :
    protectiveFiring settings r = { r with
      missRun := 0, pfRun := min (r.pfRun + 1) 15, pfTotal := min (r.pfTotal + 1) 255, progress := 0,
      life := .dark, cause := some .lightPath } := if_pos dark

theorem protectiveFiring_below {settings : Settings} {r : LevelRecord} (lit : min (r.pfRun + 1) 15 < settings.darkLimit)
    (state : r.life = .serving ∨ r.life = .suspect) : protectiveFiring settings r = { r with
      missRun := 0, pfRun := min (r.pfRun + 1) 15, pfTotal := min (r.pfTotal + 1) 255, progress := 0,
      life := .suspect, cause := some .protectiveFiring } := by
  refine (if_neg (Nat.not_le.2 lit)).trans ?_
  rcases state with state | state <;> simp [state, saturate]

theorem protectiveFiring_below_of_proving {settings : Settings} {r : LevelRecord}
    (lit : min (r.pfRun + 1) 15 < settings.darkLimit) (state : r.life = .proving) : protectiveFiring settings r =
      { r with missRun := 0, pfRun := min (r.pfRun + 1) 15, pfTotal := min (r.pfTotal + 1) 255, progress := 0 } := by
  refine (if_neg (Nat.not_le.2 lit)).trans ?_
  simp [state, saturate]

/-- Settles O35: by the dark limit and the life state, then by the poll kind and the room in the directed queue. -/
theorem protectiveFiringByLifeState : Obligations.ProtectiveFiringByLifeState := by
  unfold Obligations.ProtectiveFiringByLifeState
  intro res s monitored present protective
  dsimp only
  have made := resultRecord_of_protective present protective s.settings s.phase.cycle (s.record res.valve res.position)
  have offering : offers res = decide (res.kind = .cycle) := by simp [offers, present, protective]
  refine ⟨fun dark => ?_, fun lit => ⟨fun serving => ?_, fun suspect => ?_, fun proving => ?_⟩, fun deep => ?_,
    fun cycle place => ?_, fun cycle full => ?_⟩
  · rw [protectiveFiring_atLimit dark] at made
    refine applyResult_of_moved monitored made fun same => ?_
    rw [same] at monitored
    cases monitored
  · rw [protectiveFiring_below lit (.inl serving)] at made
    exact applyResult_of_moved monitored made fun same => nomatch (serving.symm.trans same : Life.serving = .suspect)
  · rw [protectiveFiring_below lit (.inr suspect)] at made
    have written := applyResult_of_kept monitored made suspect.symm
    simpa only [suspect] using written
  · rw [protectiveFiring_below_of_proving lit proving] at made
    exact applyResult_of_kept monitored made rfl
  · exact applyResult_sources_of_noOffer (by rw [offering, deep]; rfl)
  · rw [applyResult_of_monitored monitored rfl, if_pos (by rw [offering, cycle]; rfl),
      offerCheck_of_place (by simpa using place)]
    simp [joinDirected]
  · rw [applyResult_of_monitored monitored rfl, if_pos (by rw [offering, cycle]; rfl),
      offerCheck_of_full (by simpa using full)]
    exact ⟨by simp, setNotice_noticeSet .queueDrop _⟩

end Sys2Proof.Machine

/-! Clean results and what a verdict does to the tally and the sequencer (R25 to R30, R46 to R52). -/

namespace Sys2Proof.Machine

/-! ### Clean results (R46 to R51) -/

theorem closedMean_eq {window : List Byte} (room : window.length ≤ 3) (delay : Byte) : closedMean window delay =
    if (window ++ [delay]).length = 4 then some (byte (((window ++ [delay]).map BitVec.toNat).sum / 4)) else none := by
  have full : 4 ≤ (window ++ [delay]).length ↔ (window ++ [delay]).length = 4 := by
    rw [List.length_append, List.length_singleton]
    omega
  simp only [closedMean, full]

theorem sum_toNat_le (l : List Byte) : (l.map BitVec.toNat).sum ≤ l.length * 255 := by
  induction l with
  | nil => simp
  | cons b l ih =>
    have := b.isLt
    simp only [List.map_cons, List.sum_cons, List.length_cons]
    omega

/-- The mean of four delays is a byte (R47). -/
theorem mean_toNat {samples : List Byte} (full : samples.length = 4) :
    (byte ((samples.map BitVec.toNat).sum / 4)).toNat = (samples.map BitVec.toNat).sum / 4 := by
  have := sum_toNat_le samples
  rw [full] at this
  unfold byte
  rw [BitVec.toNat_ofNat]
  omega

/-- The runs and the window after a clean result (R46, R47). -/
theorem cleanFields_eq {r : LevelRecord} (room : r.window.length ≤ 3) (delay : Byte) : cleanFields delay r = { r with
    missRun := 0, pfRun := 0,
    window := if decide ((r.window ++ [delay]).length = 4) then [] else r.window ++ [delay],
    mean := if decide ((r.window ++ [delay]).length = 4)
      then some (byte (((r.window ++ [delay]).map BitVec.toNat).sum / 4)) else r.mean } := by
  unfold cleanFields
  dsimp only
  rw [closedMean_eq room]
  by_cases full : (r.window ++ [delay]).length = 4
  · rw [if_pos full]
    simp only [full, decide_true, if_true]
  · rw [if_neg full]
    simp only [full, decide_false, Bool.false_eq_true, if_false]

/-- The fault of a clean result (R48). -/
theorem cleanFault_eq {window : List Byte} (room : window.length ≤ 3) (settings : Settings) (deep : DeepOutcome)
    (delay : Byte) : cleanFault settings deep (closedMean window delay) =
      if deep = .fail then some .deepTest
      else if decide ((window ++ [delay]).length = 4) ∧ ((window ++ [delay]).map BitVec.toNat).sum / 4 < settings.windowLow
        then some .meanLow
      else if decide ((window ++ [delay]).length = 4) ∧ settings.windowHigh < ((window ++ [delay]).map BitVec.toNat).sum / 4
        then some .meanHigh else none := by
  unfold cleanFault
  rw [closedMean_eq room]
  by_cases full : (window ++ [delay]).length = 4
  · rw [if_pos full]
    simp only [mean_toNat full]
    simp only [full, decide_true, true_and]
  · rw [if_neg full]
    simp only [full, decide_false, Bool.false_eq_true, false_and, if_false]

section
variable {settings : Settings} {r : LevelRecord} {why : Cause}

theorem cleanVerdict_of_proving_fault (life : r.life = .proving) (closed : Bool) :
    cleanVerdict settings (some why) closed r = { r with progress := 0 } := by
  simp [cleanVerdict, life]

theorem cleanVerdict_of_proving (life : r.life = .proving) (closed : Bool) : cleanVerdict settings none closed r =
    if settings.provingCount ≤ r.progress + 1 then { r with life := .serving, progress := 0 }
    else { r with progress := r.progress + 1 } := by
  simp [cleanVerdict, life]

theorem cleanVerdict_of_serving_fault (life : r.life = .serving) (closed : Bool) :
    cleanVerdict settings (some why) closed r = { r with life := .suspect, cause := some why, progress := 0 } := by
  simp [cleanVerdict, life]

theorem cleanVerdict_of_serving (life : r.life = .serving) (closed : Bool) :
    cleanVerdict settings none closed r = r := by
  simp [cleanVerdict, life]

theorem cleanVerdict_of_suspect_fault (life : r.life = .suspect) (closed : Bool) :
    cleanVerdict settings (some why) closed r = { r with cause := some why, progress := 0 } := by
  simp [cleanVerdict, life]

theorem cleanVerdict_of_suspect_closed (life : r.life = .suspect) : cleanVerdict settings none true r =
    if settings.clearCount ≤ r.progress + 1 then { r with life := .serving, cause := none, progress := 0 }
    else { r with progress := r.progress + 1 } := by
  simp [cleanVerdict, life]

theorem cleanVerdict_of_suspect (life : r.life = .suspect) : cleanVerdict settings none false r = r := by
  simp [cleanVerdict, life]

end

theorem resultRecord_of_clean {res : Result} (present : res.present = true) (clean : res.protective = false)
    (settings : Settings) (cycle : Word16) (r : LevelRecord) : resultRecord res settings cycle r =
      { cleanVerdict settings (cleanFault settings res.deep (closedMean r.window res.delay))
          (closedMean r.window res.delay).isSome (cleanFields res.delay r) with lastCycle := some cycle } := by
  simp [resultRecord, present, clean, cleanResult]

/-- Settles O36: the fields and the fault of the result, then the verdict of each life state. -/
theorem cleanResultByLifeState : Obligations.CleanResultByLifeState := by
  unfold Obligations.CleanResultByLifeState
  intro res s monitored present clean room
  have made := resultRecord_of_clean present clean s.settings s.phase.cycle (s.record res.valve res.position)
  have closes : (closedMean (s.record res.valve res.position).window res.delay).isSome =
      decide (((s.record res.valve res.position).window ++ [res.delay]).length = 4) := by
    rw [closedMean_eq room]
    split <;> simp_all
  have fields := cleanFields_eq room res.delay
  rw [cleanFault_eq room, closes] at made
  have life : (cleanFields res.delay (s.record res.valve res.position)).life = (s.record res.valve res.position).life := by
    rw [fields]
  have progress : (cleanFields res.delay (s.record res.valve res.position)).progress =
      (s.record res.valve res.position).progress := by
    rw [fields]
  dsimp only
  generalize (if res.deep = .fail then some Cause.deepTest else _) = fault at made ⊢
  generalize decide (((s.record res.valve res.position).window ++ [res.delay]).length = 4) = closed at made ⊢ fields
  refine ⟨applyResult_sources_of_noOffer (by simp [offers, clean]), fun proving faulty => ?_, fun proving sound fewer => ?_,
    fun proving sound reached => ?_, fun why serving faulty => ?_, fun serving sound => ?_, fun why suspect faulty => ?_,
    fun suspect sound closing fewer => ?_, fun suspect sound closing reached => ?_, fun suspect sound openly => ?_⟩
  · obtain ⟨why, rfl⟩ := Option.isSome_iff_exists.1 faulty
    rw [cleanVerdict_of_proving_fault (life.trans proving), fields] at made
    exact applyResult_of_kept monitored made rfl
  · rw [sound, cleanVerdict_of_proving (life.trans proving), progress, if_neg (Nat.not_le.2 fewer), fields] at made
    exact applyResult_of_kept monitored made rfl
  · rw [sound, cleanVerdict_of_proving (life.trans proving), progress, if_pos reached, fields] at made
    exact applyResult_of_moved monitored made fun same => nomatch (proving.symm.trans same : Life.proving = .serving)
  · rw [faulty, cleanVerdict_of_serving_fault (life.trans serving), fields] at made
    exact applyResult_of_moved monitored made fun same => nomatch (serving.symm.trans same : Life.serving = .suspect)
  · rw [sound, cleanVerdict_of_serving (life.trans serving), fields] at made
    exact applyResult_of_kept monitored made rfl
  · rw [faulty, cleanVerdict_of_suspect_fault (life.trans suspect), fields] at made
    exact applyResult_of_kept monitored made rfl
  · rw [sound, closing, cleanVerdict_of_suspect_closed (life.trans suspect), progress, if_neg (Nat.not_le.2 fewer),
      fields, closing] at made
    rw [closing]
    exact applyResult_of_kept monitored made rfl
  · rw [sound, closing, cleanVerdict_of_suspect_closed (life.trans suspect), progress, if_pos reached, fields,
      closing] at made
    rw [closing]
    exact applyResult_of_moved monitored made fun same => nomatch (suspect.symm.trans same : Life.suspect = .serving)
  · rw [sound, openly, cleanVerdict_of_suspect (life.trans suspect), fields, openly] at made
    rw [openly]
    exact applyResult_of_kept monitored made rfl

/-! ### The grade, and an entry into UNFIT (R27 to R29, R133) -/

theorem gradeOf_iffs (sound failed minimum reserve : Nat) :
    (gradeOf sound failed minimum reserve = .unfit ↔ sound < minimum) ∧
    (gradeOf sound failed minimum reserve = .marginal ↔ minimum ≤ sound ∧ sound < minimum + reserve) ∧
    (gradeOf sound failed minimum reserve = .reduced ↔ minimum + reserve ≤ sound ∧ 1 ≤ failed) ∧
    (gradeOf sound failed minimum reserve = .full ↔ minimum + reserve ≤ sound ∧ failed = 0) := by
  unfold gradeOf
  split
  case isTrue below => simp; omega
  split
  case isTrue margin => simp; omega
  split
  case isTrue => simp; omega
  case isFalse => simp; omega

/-- The same sequencer and lanes, and the same pages: what a trip reads. -/
structure SameFiring (s t : State) : Prop where
  seq      : t.seq = s.seq
  lanes    : t.lanes = s.lanes
  schedule : t.schedule = s.schedule

theorem SameFiring.enter {s t : State} (h : SameFiring s t) (c : Conv) (x : Option ExitTarget) :
    SameFiring (enter c x s) (enter c x t) := by
  refine ⟨by rw [enter_seq, enter_seq, h.seq], ?_, by simpa using h.schedule⟩
  unfold Machine.enter cutLanes
  dsimp only
  rw [h.seq]
  split
  · simp [h.lanes]
  · simpa using h.lanes

theorem SameFiring.withSeq {s t : State} (h : SameFiring s t) (f : Sequencer → Sequencer) :
    SameFiring { s with seq := f s.seq } { t with seq := f t.seq } :=
  ⟨congrArg f h.seq, h.lanes, h.schedule⟩

theorem SameFiring.notice {s t : State} (h : SameFiring s t) (n : Notice) :
    SameFiring (setNotice n s) (setNotice n t) :=
  ⟨by simpa using h.seq, by simpa using h.lanes, by simpa using h.schedule⟩

theorem SameFiring.stopByRole {s t : State} (h : SameFiring s t) (x : ExitTarget) :
    SameFiring (stopByRole x s) (stopByRole x t) := by
  unfold Machine.stopByRole
  rw [livePage_congr h.schedule]
  split
  · exact (h.enter .retarded (some x)).withSeq fun q => { q with retardCount := 0 }
  · exact (h.enter .bypassing (some x)).withSeq fun q =>
      { q with bypassCount := 0, bypassSpacing := 0, bypassEntry := true }

theorem SameFiring.latchTrip {s t : State} (h : SameFiring s t) (cause : TripCause) :
    SameFiring (latchTrip cause s) (latchTrip cause t) := by
  have latch : t.seq.tripLatch = s.seq.tripLatch := by rw [h.seq]
  unfold Machine.latchTrip
  rw [latch]
  split
  · exact h
  · exact (h.withSeq fun q => { q with tripLatch := true, tripCause := some cause }).notice .trip

theorem SameFiring.strengthen {s t : State} (h : SameFiring s t) (x : ExitTarget) :
    SameFiring (strengthen x s) (strengthen x t) := by
  have target : t.seq.exitTarget = s.seq.exitTarget := by rw [h.seq]
  unfold Machine.strengthen
  rw [target]
  split
  · split
    · exact (h.withSeq fun q => { q with exitTarget := some x }).notice .converter
    · exact h
  · exact h

theorem SameFiring.raiseTrip {s t : State} (h : SameFiring s t) (cause : TripCause) :
    SameFiring (raiseTrip cause s) (raiseTrip cause t) := by
  unfold Machine.raiseTrip
  rw [h.seq]
  split
  case h_1 | h_2 => exact (h.latchTrip cause).stopByRole .tripped
  case h_3 | h_4 => exact (h.latchTrip cause).strengthen .tripped
  case h_5 => exact (h.latchTrip cause).enter .tripped none
  case h_6 => exact h.enter .blocked none
  case h_7 | h_8 => exact h

theorem SameFiring.unfitEntry {s t : State} (h : SameFiring s t) (v : Valve) :
    SameFiring (unfitEntry v .evidence s) (unfitEntry v .evidence t) := by
  have tripped := h.raiseTrip (.valveUnfit v)
  unfold Machine.unfitEntry markTrip
  dsimp only
  rw [h.seq]
  split
  case h_1 | h_2 => exact tripped.withSeq fun q => { q with freshTrip := true }
  case h_3 => exact tripped

/-- The state of a moved record whose tally has followed, before the grade is looked at (R15, R25). -/
def recordMoved (v : Valve) (p : Position) (new : LevelRecord) (s : State) : State :=
  (setNotice .level (s.setRecord v p { new with revision := (s.record v p).revision + 1 })).setTally v
    ((s.tally v).after v p (s.record v p) new s.settings)

theorem commitRecord_of_moved {v : Valve} {p : Position} {new : LevelRecord} {s : State}
    (moved : recordMoves (s.record v p) new = true) (origin : UnfitOrigin) : commitRecord v p new origin s =
      if ((s.tally v).after v p (s.record v p) new s.settings).grade = (s.tally v).grade then recordMoved v p new s
      else if ((s.tally v).after v p (s.record v p) new s.settings).grade = .unfit
        then unfitEntry v origin (setNotice .grade (recordMoved v p new s))
      else setNotice .grade (recordMoved v p new s) := by
  unfold commitRecord
  rw [if_pos moved]
  rfl

theorem recordMoved_firing (v : Valve) (p : Position) (new : LevelRecord) (s : State) :
    SameFiring s (recordMoved v p new s) := ⟨rfl, rfl, rfl⟩

theorem commitRecord_noticeSet_grade {v : Valve} {p : Position} {new : LevelRecord} {origin : UnfitOrigin} {s : State}
    (changed : ((commitRecord v p new origin s).tally v).grade ≠ (s.tally v).grade) :
    NoticeSet .grade (commitRecord v p new origin s) := by
  rw [commitRecord_tally] at changed
  by_cases moved : recordMoves (s.record v p) new = true
  · rw [if_pos ⟨rfl, moved⟩] at changed
    rw [commitRecord_of_moved moved, if_neg changed]
    have raised := setNotice_noticeSet .grade (recordMoved v p new s)
    split
    · exact raised.stays (unfitEntry_flagsStay v origin _)
    · exact raised
  · exact absurd (by rw [if_neg fun h => moved h.2]) changed

/-- An entry into UNFIT on evidence is the trip cause VALVE UNFIT (R29). -/
theorem commitRecord_firing_of_entry {v : Valve} {p : Position} {new : LevelRecord} {s : State}
    (unfit : ((commitRecord v p new .evidence s).tally v).grade = .unfit) (fit : (s.tally v).grade ≠ .unfit) :
    SameFiring (unfitEntry v .evidence s) (commitRecord v p new .evidence s) := by
  rw [commitRecord_tally] at unfit
  by_cases moved : recordMoves (s.record v p) new = true
  · rw [if_pos ⟨rfl, moved⟩] at unfit
    have changed : ((s.tally v).after v p (s.record v p) new s.settings).grade ≠ (s.tally v).grade := by
      rw [unfit]; exact fun h => fit h.symm
    rw [commitRecord_of_moved moved, if_neg changed, if_pos unfit]
    exact SameFiring.unfitEntry (s := s) (t := setNotice .grade (recordMoved v p new s)) ⟨rfl, rfl, rfl⟩ v
  · rw [if_neg fun h => moved h.2] at unfit
    exact absurd unfit fit

/-- Without one the sequencer and the lanes stay. -/
theorem commitRecord_firing_of_noEntry {v : Valve} {p : Position} {new : LevelRecord} {origin : UnfitOrigin} {s : State}
    (none : ((commitRecord v p new origin s).tally v).grade ≠ .unfit ∨ (s.tally v).grade = .unfit) :
    SameFiring s (commitRecord v p new origin s) := by
  by_cases moved : recordMoves (s.record v p) new = true
  · rw [commitRecord_tally, if_pos ⟨rfl, moved⟩] at none
    rw [commitRecord_of_moved moved]
    split
    case isTrue => exact recordMoved_firing v p new s
    case isFalse changed =>
      rw [if_neg (none.elim id fun before h => changed (h.trans before.symm))]
      exact ⟨rfl, rfl, rfl⟩
  · rw [commitRecord_of_unmoved (Bool.eq_false_iff.2 moved)]
    exact ⟨rfl, rfl, rfl⟩

/-- A result leaves a monitored record's key in use (R2, R39). -/
theorem resultRecord_notEmpty {r : LevelRecord} (monitored : isMonitored r.life = true) (res : Result)
    (settings : Settings) (cycle : Word16) : (resultRecord res settings cycle r).life ≠ .empty := by
  have used : r.life ≠ .empty := fun e => by
    rw [e] at monitored
    cases monitored
  have fields : (cleanFields res.delay r).life = r.life := by
    unfold cleanFields
    dsimp only
    split <;> rfl
  unfold resultRecord
  dsimp only
  split
  · unfold missingIndication
    dsimp only
    split
    · exact fun e => nomatch (e : Life.shorted = .empty)
    · exact used
  split
  · unfold protectiveFiring
    dsimp only
    split
    · exact fun e => nomatch (e : Life.dark = .empty)
    · split
      · exact fun e => nomatch (e : Life.suspect = .empty)
      · exact fun e => nomatch (e : Life.suspect = .empty)
      · exact used
  · unfold cleanResult cleanVerdict
    dsimp only
    rw [fields]
    repeat' split
    all_goals simp [fields, used]

/-- A result is no claim at all, or its claim with perhaps an offer, which shows in nothing but sources and notices. -/
theorem applyResult_claimed (res : Result) (s : State) : applyResult res s = s ∨ ∃ new, (new.life ≠ .empty) ∧
    (applyResult res s).tallies = (commitRecord res.valve res.position new .evidence s).tallies ∧
    (applyResult res s).table = (commitRecord res.valve res.position new .evidence s).table ∧
    SameFiring (commitRecord res.valve res.position new .evidence s) (applyResult res s) ∧
    FlagsStay (commitRecord res.valve res.position new .evidence s) (applyResult res s) := by
  obtain same | ⟨monitored, u, rfl, made⟩ := applyResult_cases res s
  · exact .inl same
  · refine .inr ⟨_, resultRecord_notEmpty monitored res s.settings s.phase.cycle, ?_⟩
    obtain made | made := made <;> rw [made]
    · exact ⟨rfl, rfl, ⟨rfl, rfl, rfl⟩, .refl _⟩
    · exact ⟨by simp, by simp, ⟨by simp, by simp, by simp⟩, offerCheck_flagsStay _ _ _⟩

/-- Settles O37: the four grades, the claim on the tallies, and the entry into UNFIT. -/
theorem verdictConsequences : Obligations.VerdictConsequences := by
  unfold Obligations.VerdictConsequences
  refine ⟨gradeOf_iffs, fun res s agree => ?_, fun res s => ?_⟩
  · obtain same | ⟨new, notEmpty, tallies, table, -, -⟩ := applyResult_claimed res s
    · rw [same]; exact agree
    · exact (commitRecord_talliesOk agree (fun h => absurd h notEmpty) .evidence).congr table tallies (by simp)
  · obtain same | ⟨new, -, tallies, -, firing, flags⟩ := applyResult_claimed res s
    · dsimp only
      rw [same]
      exact ⟨fun h => absurd rfl h, fun h k => absurd h k, fun _ => ⟨rfl, rfl⟩⟩
    · dsimp only
      rw [tally_congr tallies]
      refine ⟨fun changed => (commitRecord_noticeSet_grade changed).stays flags, fun unfit fit => ?_, fun none => ?_⟩
      · have entry := commitRecord_firing_of_entry unfit fit
        exact ⟨firing.seq.trans entry.seq, firing.lanes.trans entry.lanes⟩
      · have quiet := commitRecord_firing_of_noEntry none
        exact ⟨firing.seq.trans quiet.seq, firing.lanes.trans quiet.lanes⟩

end Sys2Proof.Machine

/-! The requests that change a record, and CHECK: the checks in their order, and what an accepted one leaves (R7 to R14,
R25, R34, R80). -/

namespace Sys2Proof.Machine

/-! ### The claim of a change and the sequencer (R13, R29) -/

/-- A change moves the sequencer only of a PENDING converter. -/
theorem commitRecord_firing_of_notPending {v : Valve} {p : Position} {new : LevelRecord} {s : State}
    (conv : s.seq.conv ≠ .pending) : SameFiring s (commitRecord v p new .change s) := by
  by_cases moved : recordMoves (s.record v p) new = true
  · have marked : SameFiring s (setNotice .grade (recordMoved v p new s)) := ⟨rfl, rfl, rfl⟩
    have entry : unfitEntry v .change (setNotice .grade (recordMoved v p new s)) = setNotice .grade (recordMoved v p new s) :=
      if_neg (by rw [marked.seq]; exact conv)
    rw [commitRecord_of_moved moved, entry]
    split
    · exact recordMoved_firing v p new s
    · split <;> exact marked
  · rw [commitRecord_of_unmoved (Bool.eq_false_iff.2 moved)]
    exact ⟨rfl, rfl, rfl⟩

/-- A change that keeps the sound count, or the margin of a PENDING converter, leaves the sequencer and the lanes. -/
theorem commitRecord_firing_of_margin {v : Valve} {p : Position} {new : LevelRecord} {s : State} (agree : TalliesOk s)
    (notEmpty : new.life ≠ .empty)
    (margin : s.seq.conv = .pending → isSound (s.record v p).life = true → isSound new.life = false →
      s.settings.minimumSound[v] ≤ (s.tally v).sound - 1) : SameFiring s (commitRecord v p new .change s) := by
  by_cases pending : s.seq.conv = .pending
  · refine commitRecord_firing_of_noEntry ?_
    by_cases before : (s.tally v).grade = .unfit
    · exact .inr before
    · refine .inl fun unfit => ?_
      rw [commitRecord_tally_eq agree (fun e => absurd e notEmpty), recounted_unfit_iff, recounted_sound_setRecord,
        State.setRecord_settings] at unfit
      rw [agree v, recounted_unfit_iff] at before
      have kept := margin pending
      rw [agree v] at kept
      cases was : isSound (s.record v p).life <;> cases is : isSound new.life <;>
        simp only [was, is, if_true, if_false, Bool.false_eq_true, true_implies] at unfit kept <;> omega
  · exact commitRecord_firing_of_notPending pending

/-! ### The claim of a record-change request, check by check (R12) -/

section
variable {v : Valve} {p : Position} {expected : Option Word16} {k : Change} {s : State}

theorem changeClaim_of_stale (stale : ∃ e, expected = some e ∧ e ≠ (s.record v p).revision) :
    changeClaim v p expected k s = (s, some (withRevision .stale (s.record v p))) := by
  obtain ⟨e, rfl, other⟩ := stale
  exact if_pos (by simp [other])

theorem not_stale (fresh : expected = none ∨ expected = some (s.record v p).revision) :
    ¬ (expected.any fun e => decide (e ≠ (s.record v p).revision)) = true := by
  rcases fresh with rfl | rfl <;> simp

variable (fresh : expected = none ∨ expected = some (s.record v p).revision)
include fresh

theorem changeClaim_of_wrongState (refused : k.admits (s.record v p) = false) :
    changeClaim v p expected k s = (s, some (withRevision .wrongState (s.record v p))) := by
  unfold changeClaim
  dsimp only
  rw [if_neg (not_stale fresh), if_pos (by simp [refused])]

theorem changeClaim_of_admitted (admits : k.admits (s.record v p) = true) : changeClaim v p expected k s =
    if k.leavesSound (s.record v p) && belowMargin v s then (s, some (withRevision .margin (s.record v p)))
    else if k.spreads (s.record v p) && aboveSpread v p (k.result (s.record v p)) s then
      (s, some (withRevision .spread (s.record v p)))
    else (commitRecord v p (k.result (s.record v p)) .change s,
      some (withRevision .done ((commitRecord v p (k.result (s.record v p)) .change s).record v p))) := by
  unfold changeClaim
  dsimp only
  rw [if_neg (not_stale fresh), if_neg (by simp [admits])]

end

theorem aboveSpread_iff {v : Valve} {p : Position} {new : LevelRecord} {s : State} (agree : TalliesOk s)
    (notEmpty : new.life ≠ .empty) : aboveSpread v p new s = true ↔ s.settings.spreadLimit < spreadWith v p new s := by
  rw [aboveSpread, after_eq_recounted s v p new (agree v) fun e => absurd e notEmpty, decide_eq_true_eq, spreadWith]

theorem belowMargin_eq {v : Valve} {s : State} (some : 0 < (s.tally v).sound) : belowMargin v s = marginRefuses v s := by
  have margin : (s.tally v).sound - 1 < s.settings.minimumSound[v] ↔ (s.tally v).sound ≤ s.settings.minimumSound[v] := by
    omega
  simp only [belowMargin, marginRefuses, margin]

/-- A valve with a sound record has a sound count (R26). -/
theorem sound_pos {v : Valve} {p : Position} {s : State} (agree : TalliesOk s) (sound : isSound (s.record v p).life = true) :
    0 < (s.tally v).sound := by
  rw [agree v, recounted_sound]
  exact countOf_pos_of_record (test := fun r => isSound r.life) sound

/-! ### What an accepted request leaves -/

theorem OnlyRecord.of_blocks {v : Valve} {p : Position} {s u t : State} (h : OnlyRecord v p s u)
    (blocks : t.blocks = u.blocks) : OnlyRecord v p s t := by
  have table : t.table = u.table := congrArg Blocks.table blocks
  have tallies : t.tallies = u.tallies := congrArg Blocks.tallies blocks
  obtain ⟨records, others, settings, link, phase, schedule, building, lines, pending⟩ := h
  exact ⟨fun w x other => (record_congr table w x).trans (records w x other),
    fun w other => (tally_congr tallies w).trans (others w other),
    (congrArg Blocks.settings blocks).trans settings, (congrArg Blocks.link blocks).trans link,
    (congrArg Blocks.phase blocks).trans phase, (congrArg Blocks.schedule blocks).trans schedule,
    (congrArg Blocks.building blocks).trans building, (congrArg Blocks.lines blocks).trans lines,
    (congrArg Blocks.pending blocks).trans pending⟩

theorem SameBlocks.flags {u t : State} (h : SameBlocks u t) :
    t.portA.flags = u.portA.flags ∧ t.portB.flags = u.portB.flags := by
  obtain ⟨-, restA, restB⟩ := h
  exact ⟨congrArg PortRest.flags restA, congrArg PortRest.flags restB⟩

theorem SameBlocks.noticeSet {u t : State} (h : SameBlocks u t) {n : Notice} (raised : NoticeSet n u) : NoticeSet n t := by
  obtain ⟨flagsA, flagsB⟩ := h.flags
  unfold NoticeSet
  rw [flagsA, flagsB]
  exact raised

/-- A claim of a record change that answers DONE is the change made, once the sequencer is known to stay. -/
theorem changeMade_of_claim {c : Instr} {q : Sender} {claim : State → State × Option Reply} {v : Valve} {p : Position}
    {new : LevelRecord} {s : State} (hc : claimOf c = some (q, claim)) (executing : Executing c q s)
    (claimed : claim s = (commitRecord v p new .change s,
      some (withRevision .done ((commitRecord v p new .change s).record v p))))
    (agree : TalliesOk s) (notEmpty : new.life ≠ .empty) (revision : new.revision = (s.record v p).revision)
    (firing : SameFiring s (commitRecord v p new .change s)) :
    ChangeMade c q v p (advanced (recordMoves (s.record v p) new) new) (recordMoves (s.record v p) new) s := by
  have written : (commitRecord v p new .change s).record v p = advanced (recordMoves (s.record v p) new) new := by
    rw [commitRecord_record, advanced]
    split
    case isTrue => rw [revision]
    case isFalse => rfl
  have owners := commitRecord_owners v p new .change s
  have sources : (commitRecord v p new .change s).sources = s.sources := by simp
  obtain ⟨t, ran, same, answered, -⟩ := completes_of_claimOf hc executing claimed owners.ports owners.engine
  have blocks := same.1
  have table : t.table = (commitRecord v p new .change s).table := congrArg Blocks.table blocks
  have tallies : t.tallies = (commitRecord v p new .change s).tallies := congrArg Blocks.tallies blocks
  have settings : t.settings = (commitRecord v p new .change s).settings := congrArg Blocks.settings blocks
  have agrees : TalliesOk t :=
    (commitRecord_talliesOk agree (fun e => absurd e notEmpty) .change).congr table tallies settings
  refine ⟨t, ran, (record_congr table v p).trans written, (commitRecord_onlyRecord v p new .change s).of_blocks blocks,
    agrees v, (congrArg Blocks.sources blocks).trans sources, (congrArg Blocks.seq blocks).trans firing.seq,
    (congrArg Blocks.lanes blocks).trans firing.lanes, written ▸ answered, fun moved => ?_, fun kept => ?_, fun graded => ?_⟩
  · exact same.noticeSet (commitRecord_level moved .change)
  · rw [same.flags.1, same.flags.2, commitRecord_of_unmoved kept]
    exact ⟨rfl, rfl⟩
  · exact same.noticeSet (commitRecord_noticeSet_grade (by rwa [tally_congr tallies] at graded))

/-! ### The four requests -/

section
variable {c : Instr} {q : Sender} {claim : State → State × Option Reply} {v : Valve} {p : Position}
  {expected : Option Word16} {k : Change} {s : State} (hc : claimOf c = some (q, claim)) (executing : Executing c q s)
  (keyed : claim s = changeClaim v p expected k s)
include hc executing keyed

theorem change_stale (stale : ∃ e, expected = some e ∧ e ≠ (s.record v p).revision) :
    Completes c q s (withRevision .stale (s.record v p)) s :=
  refuses_of_claimOf hc executing (keyed.trans (changeClaim_of_stale stale))

variable (fresh : expected = none ∨ expected = some (s.record v p).revision)
include fresh

theorem change_wrongState (refused : k.admits (s.record v p) = false) :
    Completes c q s (withRevision .wrongState (s.record v p)) s :=
  refuses_of_claimOf hc executing (keyed.trans (changeClaim_of_wrongState fresh refused))

variable (admits : k.admits (s.record v p) = true)
include admits

theorem change_margin (below : (k.leavesSound (s.record v p) && belowMargin v s) = true) :
    Completes c q s (withRevision .margin (s.record v p)) s :=
  refuses_of_claimOf hc executing (keyed.trans ((changeClaim_of_admitted fresh admits).trans (if_pos below)))

variable (margin : (k.leavesSound (s.record v p) && belowMargin v s) = false) (agree : TalliesOk s)
  (notEmpty : (k.result (s.record v p)).life ≠ .empty)
include margin agree notEmpty

theorem change_spread (asked : k.spreads (s.record v p) = true)
    (above : s.settings.spreadLimit < spreadWith v p (k.result (s.record v p)) s) :
    Completes c q s (withRevision .spread (s.record v p)) s := by
  have refused : (k.spreads (s.record v p) && aboveSpread v p (k.result (s.record v p)) s) = true := by
    rw [asked, (aboveSpread_iff agree notEmpty).2 above]
    rfl
  refine refuses_of_claimOf hc executing (keyed.trans ((changeClaim_of_admitted fresh admits).trans ?_))
  rw [if_neg (by rw [margin]; decide), if_pos refused]

theorem change_made
    (within : k.spreads (s.record v p) = false ∨ spreadWith v p (k.result (s.record v p)) s ≤ s.settings.spreadLimit)
    (revision : (k.result (s.record v p)).revision = (s.record v p).revision)
    (drops : isSound (s.record v p).life = true → isSound (k.result (s.record v p)).life = false →
      k.leavesSound (s.record v p) = true) :
    ChangeMade c q v p (advanced (recordMoves (s.record v p) (k.result (s.record v p))) (k.result (s.record v p)))
      (recordMoves (s.record v p) (k.result (s.record v p))) s := by
  have passed : ¬ (k.spreads (s.record v p) && aboveSpread v p (k.result (s.record v p)) s) = true := by
    rw [Bool.and_eq_true, aboveSpread_iff agree notEmpty]
    rintro ⟨asked, above⟩
    obtain free | within := within
    · simp [free] at asked
    · omega
  refine changeMade_of_claim hc executing (keyed.trans ((changeClaim_of_admitted fresh admits).trans ?_)) agree notEmpty
    revision (commitRecord_firing_of_margin agree notEmpty fun pending was isnt => ?_)
  · rw [if_neg (by rw [margin]; decide), if_neg passed]
  · rw [drops was isnt] at margin
    simpa [belowMargin, pending, checksMargin] using margin

end

theorem keyedChange_of_noKey {valve position : Byte} {expected : Option Word16} {k : Change} {s : State}
    (noKey : valveOf? valve = none ∨ positionOf? position.toNat = none) :
    keyedChange valve position expected k s = (s, some (plain .badKey)) := by
  rcases noKey with h | h
  · simp [keyedChange, h]
  · cases hv : valveOf? valve <;> simp [keyedChange, h, hv]

theorem keyedChange_of_key {valve position : Byte} {v : Valve} {p : Position} (hv : valveOf? valve = some v)
    (hp : positionOf? position.toNat = some p) (expected : Option Word16) (k : Change) (s : State) :
    keyedChange valve position expected k s = changeClaim v p expected k s := by
  simp [keyedChange, hv, hp]

theorem admitClaim_of_noKey {valve position : Byte} {cls : Option EmitClass} {tag : Option Word24} {s : State}
    (noKey : valveOf? valve = none ∨ positionOf? position.toNat = none) :
    admitClaim valve position cls tag s = (s, some (plain .badKey)) := by
  rcases noKey with h | h
  · simp [admitClaim, h]
  · cases hv : valveOf? valve <;> simp [admitClaim, h, hv]

theorem admitClaim_of_key {valve position : Byte} {v : Valve} {p : Position} (hv : valveOf? valve = some v)
    (hp : positionOf? position.toNat = some p) (cls : Option EmitClass) (tag : Option Word24) (s : State) :
    admitClaim valve position cls tag s =
      if tag = some 0 then (s, some (plain .badValue)) else changeClaim v p none (admitChange cls tag) s := by
  simp [admitClaim, hv, hp]

/-- The spread reads no revision (R31). -/
theorem spreadWith_of_key {v : Valve} {p : Position} {new old : LevelRecord} {s : State} (life : new.life = old.life)
    (cls : new.emitClass = old.emitClass) : spreadWith v p new s = spreadWith v p old s := by
  refine congrArg Tally.spread (recounted_eq_of_keys (fun x => ?_) (.of_eq rfl v))
  rw [State.setRecord_record, State.setRecord_record]
  split
  · simp only [tallyKey, life, cls]
  · rfl

/-- Settles O38: the key, the tag, the life state and the spread in their order, then the record PROVING. -/
theorem admitMakesTheRecordProving : Obligations.AdmitMakesTheRecordProving := by
  unfold Obligations.AdmitMakesTheRecordProving
  intro q valve position cls tag s
  dsimp only
  intro executing
  refine ⟨fun noKey => refuses_of_claimOf rfl executing (admitClaim_of_noKey noKey), fun v p hv hp =>
    ⟨fun zero => refuses_of_claimOf rfl executing ((admitClaim_of_key hv hp cls tag s).trans (if_pos zero)),
      fun tagged => ?_⟩⟩
  have keyed := (admitClaim_of_key hv hp cls tag s).trans (if_neg tagged)
  refine ⟨fun used inUse => ?_, fun free agree => ?_⟩
  · exact change_wrongState rfl executing keyed (.inl rfl) (by simp [admitChange, inService, used, inUse])
  · have admits : (admitChange cls tag).admits (s.record v p) = true := by
      rcases free with h | h <;> simp [admitChange, inService, h]
    have notEmpty : ((admitChange cls tag).result (s.record v p)).life ≠ .empty :=
      fun e => nomatch (e : Life.proving = .empty)
    have unsound : isSound (s.record v p).life = false := by rcases free with h | h <;> rw [h] <;> rfl
    have moves : recordMoves (s.record v p) ((admitChange cls tag).result (s.record v p)) = true :=
      recordMoves_eq_true_of_life (by rcases free with h | h <;> rw [h] <;> exact fun e => nomatch e)
    have made := change_made rfl executing keyed (.inl rfl) admits rfl agree notEmpty
    rw [moves] at made
    refine ⟨fun above => ?_, fun within => ?_⟩
    · exact change_spread rfl executing keyed (.inl rfl) admits rfl agree notEmpty rfl
        (Nat.lt_of_lt_of_eq above (spreadWith_of_key rfl rfl))
    · refine made (.inr (le_of_eq_of_le (spreadWith_of_key ?_ ?_) within)) rfl
        fun was => nomatch (unsound.symm.trans was : false = true)
      · rfl
      · rfl

end Sys2Proof.Machine

/-! AMEND with its actions, RETIRE and CHECK (R8 to R14, R34, R80). -/

namespace Sys2Proof.Machine

theorem amendFields_eq (cls : Option EmitClass) (tagChange : Option Word24) (r : LevelRecord) :
    amendFields cls tagChange r = amended cls tagChange r := by
  unfold amendFields amended
  cases tagChange with
  | none => rfl
  | some t => simp

/-! ### AMEND without an action (R8) -/

section
variable {q : Sender} {valve position : Byte} {cls : Option EmitClass} {tagChange : Option Word24}
  {expected : Option Word16} {s : State} {v : Valve} {p : Position} (hv : valveOf? valve = some v)
  (hp : positionOf? position.toNat = some p) (fresh : expected = none ∨ expected = some (s.record v p).revision)
include hv hp fresh

theorem amend_of_state (executing : Executing (.amend q valve position cls tagChange expected) q s)
    (state : (s.record v p).life = .empty ∨ (s.record v p).life = .retired) :
    Completes (.amend q valve position cls tagChange expected) q s (withRevision .wrongState (s.record v p)) s :=
  change_wrongState rfl executing (keyedChange_of_key hv hp expected (amendChange cls tagChange) s) fresh
    (by rcases state with h | h <;> simp [amendChange, inService, h])

theorem amend_of_inService (executing : Executing (.amend q valve position cls tagChange expected) q s)
    (used : (s.record v p).life ≠ .empty) (kept : (s.record v p).life ≠ .retired) (agree : TalliesOk s) :
    let r := s.record v p
    let a := amended cls tagChange r
    let classMoves : Bool := isEmitting r.life && decide (a.emitClass ≠ r.emitClass)
    let moved := decide (a.emitClass ≠ r.emitClass ∨ a.unitTag ≠ r.unitTag)
    let c := Instr.amend q valve position cls tagChange expected
    (classMoves = true → s.settings.spreadLimit < spreadWith v p a s → Completes c q s (withRevision .spread r) s) ∧
    (classMoves = false ∨ spreadWith v p a s ≤ s.settings.spreadLimit → ChangeMade c q v p (advanced moved a) moved s) := by
  dsimp only
  have keyed := keyedChange_of_key hv hp expected (amendChange cls tagChange) s
  have result : (amendChange cls tagChange).result (s.record v p) = amended cls tagChange (s.record v p) :=
    amendFields_eq cls tagChange _
  have admits : (amendChange cls tagChange).admits (s.record v p) = true := by simp [amendChange, inService, used, kept]
  have moves : recordMoves (s.record v p) (amended cls tagChange (s.record v p)) =
      decide ((amended cls tagChange (s.record v p)).emitClass ≠ (s.record v p).emitClass ∨
        (amended cls tagChange (s.record v p)).unitTag ≠ (s.record v p).unitTag) := by
    simp [recordMoves, amended, eq_comm]
  refine ⟨fun asked above => ?_, fun within => ?_⟩
  · exact change_spread rfl executing keyed fresh admits rfl agree used asked (by rw [result]; exact above)
  · have made := change_made rfl executing keyed fresh admits rfl agree used (by rw [result]; exact within) rfl
      (fun was isnt => nomatch (was.symm.trans isnt : true = false))
    rwa [result, moves] at made

/-! ### AMEND with CLEAR and with REPROVE (R9, R10) -/

theorem amendClear_of_state (executing : Executing (.amendClear q valve position cls tagChange expected) q s)
    (state : (s.record v p).life ≠ .suspect) :
    Completes (.amendClear q valve position cls tagChange expected) q s (withRevision .wrongState (s.record v p)) s :=
  change_wrongState rfl executing (keyedChange_of_key hv hp expected (clearChange cls tagChange) s) fresh
    (by simp [clearChange, state])

theorem amendClear_of_suspect (executing : Executing (.amendClear q valve position cls tagChange expected) q s)
    (suspect : (s.record v p).life = .suspect) (agree : TalliesOk s) :
    let r := s.record v p
    let a := amended cls tagChange r
    let classMoves : Bool := isEmitting r.life && decide (a.emitClass ≠ r.emitClass)
    let new := { a with life := .serving, cause := none, progress := 0 }
    let c := Instr.amendClear q valve position cls tagChange expected
    (classMoves = true → s.settings.spreadLimit < spreadWith v p new s → Completes c q s (withRevision .spread r) s) ∧
    (classMoves = false ∨ spreadWith v p new s ≤ s.settings.spreadLimit →
      ChangeMade c q v p (advanced true new) true s) := by
  dsimp only
  have keyed := keyedChange_of_key hv hp expected (clearChange cls tagChange) s
  have result : (clearChange cls tagChange).result (s.record v p) =
      { amended cls tagChange (s.record v p) with life := .serving, cause := none, progress := 0 } :=
    congrArg cleared (amendFields_eq cls tagChange _)
  have admits : (clearChange cls tagChange).admits (s.record v p) = true := by simp [clearChange, suspect]
  have notEmpty : ((clearChange cls tagChange).result (s.record v p)).life ≠ .empty :=
    fun e => nomatch (e : Life.serving = .empty)
  have moves : recordMoves (s.record v p) ((clearChange cls tagChange).result (s.record v p)) = true :=
    recordMoves_eq_true_of_life fun e => nomatch (suspect.symm.trans e : Life.suspect = .serving)
  refine ⟨fun asked above => ?_, fun within => ?_⟩
  · exact change_spread rfl executing keyed fresh admits rfl agree notEmpty asked (by rw [result]; exact above)
  · have made := change_made rfl executing keyed fresh admits rfl agree notEmpty (by rw [result]; exact within) rfl
      (fun _ isnt => nomatch (isnt : true = false))
    rwa [moves, result] at made

theorem amendReprove_of_state (executing : Executing (.amendReprove q valve position cls tagChange expected) q s)
    (suspect : (s.record v p).life ≠ .suspect) (shorted : (s.record v p).life ≠ .shorted)
    (dark : (s.record v p).life ≠ .dark) :
    Completes (.amendReprove q valve position cls tagChange expected) q s (withRevision .wrongState (s.record v p)) s := by
  refine change_wrongState rfl executing (keyedChange_of_key hv hp expected (reproveChange cls tagChange) s) fresh ?_
  have failed : isFailed (s.record v p).life = false := by
    unfold isFailed
    split
    case h_1 h => exact absurd h shorted
    case h_2 h => exact absurd h dark
    case h_3 => rfl
  simp [reproveChange, suspect, failed]

theorem amendReprove_of_out (executing : Executing (.amendReprove q valve position cls tagChange expected) q s)
    (state : (s.record v p).life = .suspect ∨ (s.record v p).life = .shorted ∨ (s.record v p).life = .dark)
    (agree : TalliesOk s) :
    let r := s.record v p
    let a := amended cls tagChange r
    let classMoves : Bool := isEmitting r.life && decide (a.emitClass ≠ r.emitClass)
    let new := { withoutEvidence a with life := .proving, cause := none }
    let c := Instr.amendReprove q valve position cls tagChange expected
    (r.life = .suspect → marginRefuses v s = true → Completes c q s (withRevision .margin r) s) ∧
    (r.life ≠ .suspect ∨ marginRefuses v s = false →
      (r.life ≠ .suspect ∨ classMoves = true → s.settings.spreadLimit < spreadWith v p new s →
        Completes c q s (withRevision .spread r) s) ∧
      (r.life = .suspect ∧ classMoves = false ∨ spreadWith v p new s ≤ s.settings.spreadLimit →
        ChangeMade c q v p (advanced true new) true s)) := by
  dsimp only
  have keyed := keyedChange_of_key hv hp expected (reproveChange cls tagChange) s
  have result : (reproveChange cls tagChange).result (s.record v p) =
      { withoutEvidence (amended cls tagChange (s.record v p)) with life := .proving, cause := none } :=
    congrArg reproved (amendFields_eq cls tagChange _)
  have admits : (reproveChange cls tagChange).admits (s.record v p) = true := by
    rcases state with h | h | h <;> simp [reproveChange, isFailed, h]
  have notEmpty : ((reproveChange cls tagChange).result (s.record v p)).life ≠ .empty :=
    fun e => nomatch (e : Life.proving = .empty)
  have moves : recordMoves (s.record v p) ((reproveChange cls tagChange).result (s.record v p)) = true := by
    refine recordMoves_eq_true_of_life fun e => ?_
    have e : (s.record v p).life = .proving := e
    rcases state with h | h | h <;> rw [h] at e <;> cases e
  have leaves : (reproveChange cls tagChange).leavesSound (s.record v p) = decide ((s.record v p).life = .suspect) := rfl
  have asks : (reproveChange cls tagChange).spreads (s.record v p) = (!decide ((s.record v p).life = .suspect) ||
      (isEmitting (s.record v p).life &&
        decide ((amended cls tagChange (s.record v p)).emitClass ≠ (s.record v p).emitClass))) := by
    rcases state with h | h | h <;> simp [reproveChange, changesEmittingClass, amended, isFailed, h]
  have drops : isSound (s.record v p).life = true → isSound ((reproveChange cls tagChange).result (s.record v p)).life = false →
      (reproveChange cls tagChange).leavesSound (s.record v p) = true := fun was _ => by
    rcases state with h | h | h <;> rw [h] at was <;> simp [leaves, h] <;> cases was
  have margin_eq (suspect : (s.record v p).life = .suspect) : belowMargin v s = marginRefuses v s :=
    belowMargin_eq (sound_pos agree (p := p) (by rw [suspect]; rfl))
  refine ⟨fun suspect refuses => ?_, fun passes => ?_⟩
  · exact change_margin rfl executing keyed fresh admits (by rw [leaves, margin_eq suspect, refuses, suspect]; rfl)
  have margin : ((reproveChange cls tagChange).leavesSound (s.record v p) && belowMargin v s) = false := by
    by_cases suspect : (s.record v p).life = .suspect
    · rw [margin_eq suspect, passes.resolve_left fun h => h suspect, Bool.and_false]
    · simp [leaves, suspect]
  refine ⟨fun asked above => ?_, fun within => ?_⟩
  · exact change_spread rfl executing keyed fresh admits margin agree notEmpty (by rw [asks]; simpa using asked)
      (by rw [result]; exact above)
  · have made := change_made rfl executing keyed fresh admits margin agree notEmpty
      (by rw [asks, result]; exact within.imp_left fun ⟨h, k⟩ => by rw [k, h]; rfl) rfl drops
    rwa [moves, result] at made

/-! ### RETIRE (R11, R13, R34) -/

theorem retire_of_state {why : RetireReason} (executing : Executing (.retire q valve position why expected) q s)
    (state : (s.record v p).life = .empty ∨ (s.record v p).life = .retired) :
    Completes (.retire q valve position why expected) q s (withRevision .wrongState (s.record v p)) s :=
  change_wrongState rfl executing (keyedChange_of_key hv hp expected (retireChange why) s) fresh
    (by rcases state with h | h <;> simp [retireChange, inService, h])

theorem retire_of_inService {why : RetireReason} (executing : Executing (.retire q valve position why expected) q s)
    (used : (s.record v p).life ≠ .empty) (kept : (s.record v p).life ≠ .retired) (agree : TalliesOk s) :
    let r := s.record v p
    let c := Instr.retire q valve position why expected
    (isSound r.life = true → marginRefuses v s = true → Completes c q s (withRevision .margin r) s) ∧
    (isSound r.life = false ∨ marginRefuses v s = false → ChangeMade c q v p
      { r with life := .retired, retireReason := some why, progress := 0, revision := r.revision + 1 } true s) := by
  dsimp only
  have keyed := keyedChange_of_key hv hp expected (retireChange why) s
  have admits : (retireChange why).admits (s.record v p) = true := by simp [retireChange, inService, used, kept]
  have notEmpty : ((retireChange why).result (s.record v p)).life ≠ .empty :=
    fun e => nomatch (e : Life.retired = .empty)
  have moves : recordMoves (s.record v p) ((retireChange why).result (s.record v p)) = true :=
    recordMoves_eq_true_of_life kept
  have leaves : (retireChange why).leavesSound (s.record v p) = isSound (s.record v p).life := rfl
  refine ⟨fun sound refuses => ?_, fun passes => ?_⟩
  · exact change_margin rfl executing keyed fresh admits
      (by rw [leaves, belowMargin_eq (sound_pos agree sound), refuses, sound]; rfl)
  · have margin : ((retireChange why).leavesSound (s.record v p) && belowMargin v s) = false := by
      cases sound : isSound (s.record v p).life with
      | false => rw [leaves, sound, Bool.false_and]
      | true =>
        rw [belowMargin_eq (sound_pos agree sound), passes.resolve_left fun h => (nomatch (sound.symm.trans h : true = false)),
          Bool.and_false]
    have made := change_made rfl executing keyed fresh admits margin agree notEmpty (.inl rfl) rfl (fun was _ => was)
    rw [moves] at made
    exact made

end

/-- Settles O39: the key and the revision, then each of the three actions. -/
theorem amendByItsAction : Obligations.AmendByItsAction := by
  unfold Obligations.AmendByItsAction
  intro q valve position cls tagChange expected c s executing action
  have keyed : ∃ k, claimOf c = some (q, keyedChange valve position expected k) := by
    rcases action with rfl | rfl | rfl <;> exact ⟨_, rfl⟩
  obtain ⟨k, hc⟩ := keyed
  refine ⟨fun noKey => refuses_of_claimOf hc executing (keyedChange_of_noKey noKey), fun v p hv hp =>
    ⟨fun stale => change_stale hc executing (keyedChange_of_key hv hp expected k s) stale, fun fresh => ⟨?_, ?_, ?_⟩⟩⟩
  · rintro rfl
    exact ⟨amend_of_state hv hp fresh executing, amend_of_inService hv hp fresh executing⟩
  · rintro rfl
    exact ⟨amendClear_of_state hv hp fresh executing, amendClear_of_suspect hv hp fresh executing⟩
  · rintro rfl
    exact ⟨amendReprove_of_state hv hp fresh executing, amendReprove_of_out hv hp fresh executing⟩

/-- Settles O40: the key, the revision, the life state and the margin in their order. -/
theorem retireKeepsTheEvidence : Obligations.RetireKeepsTheEvidence := by
  unfold Obligations.RetireKeepsTheEvidence
  intro q valve position why expected s
  dsimp only
  intro executing
  exact ⟨fun noKey => refuses_of_claimOf rfl executing (keyedChange_of_noKey noKey), fun v p hv hp =>
    ⟨fun stale => change_stale rfl executing (keyedChange_of_key hv hp expected (retireChange why) s) stale, fun fresh =>
      ⟨retire_of_state hv hp fresh executing, retire_of_inService hv hp fresh executing⟩⟩⟩

/-! ### CHECK (R80) -/

theorem positionOf?_eq_none_iff (n : Nat) : positionOf? n = none ↔ n = 0 ∨ 96 < n := by
  unfold positionOf?
  split
  · simp
    omega
  · simp
    omega

theorem positionOf?_isSome {n : Nat} (least : 1 ≤ n) (greatest : n ≤ 96) : ∃ p, positionOf? n = some p :=
  ⟨_, dif_pos ⟨least, greatest⟩⟩

theorem checkClaim_of_count {valve first count : Byte} {s : State} (bad : count.toNat = 0 ∨ 8 < count.toNat) :
    checkClaim valve first count s = (s, some (plain .badValue)) := by
  refine if_pos ?_
  rw [Bool.or_eq_true, decide_eq_true_eq, decide_eq_true_eq]
  omega

theorem checkClaim_of_noKey {valve first count : Byte} {s : State} (least : 1 ≤ count.toNat) (greatest : count.toNat ≤ 8)
    (noKey : valveOf? valve = none ∨ first.toNat = 0 ∨ 97 < first.toNat + count.toNat) :
    checkClaim valve first count s = (s, some (plain .badKey)) := by
  refine (if_neg ?_).trans ?_
  · rw [Bool.or_eq_true, decide_eq_true_eq, decide_eq_true_eq]
    omega
  split
  case h_1 hv hf hl =>
    have firstBounds := positionOf?_bounds hf
    have lastBounds := positionOf?_bounds hl
    obtain h | h | h := noKey
    · rw [h] at hv
      cases hv
    · omega
    · omega
  case h_2 => rfl

theorem checkClaim_of_key {valve first count : Byte} {v : Valve} {s : State} (least : 1 ≤ count.toNat)
    (greatest : count.toNat ≤ 8) (hv : valveOf? valve = some v) (start : 1 ≤ first.toNat)
    (stop : first.toNat + count.toNat ≤ 97) : checkClaim valve first count s =
      if hasPlace s then (joinDirected v first.toNat count.toNat .request s, some (plain .done))
      else (s, some (plain .full)) := by
  obtain ⟨p, hp⟩ := positionOf?_isSome start (n := first.toNat) (by omega)
  obtain ⟨x, hx⟩ := positionOf?_isSome (n := first.toNat + count.toNat - 1) (by omega) (by omega)
  refine (if_neg ?_).trans ?_
  · rw [Bool.or_eq_true, decide_eq_true_eq, decide_eq_true_eq]
    omega
  · rw [hv, hp, hx]

/-- Settles O41: the count, the key and the room in their order. -/
theorem checkJoinsTheDirectedQueue : Obligations.CheckJoinsTheDirectedQueue := by
  unfold Obligations.CheckJoinsTheDirectedQueue
  intro q valve first count s
  dsimp only
  intro executing
  refine ⟨fun bad => refuses_of_claimOf rfl executing (checkClaim_of_count bad), fun least greatest =>
    ⟨fun noKey => refuses_of_claimOf rfl executing (checkClaim_of_noKey least greatest noKey),
      fun v hv start stop => ⟨fun full => ?_, fun place => ?_⟩⟩⟩
  · exact refuses_of_claimOf rfl executing ((checkClaim_of_key least greatest hv start stop).trans
      (if_neg (by simp [hasPlace, full])))
  · exact completes_of_claimOf rfl executing ((checkClaim_of_key least greatest hv start stop).trans
      (if_pos (by simp [hasPlace, place]))) (.of_eq rfl rfl) rfl

end Sys2Proof.Machine

/-! ORDER (R110, R111): the field checks, and what is written into the staged page. -/

namespace Sys2Proof.Machine

/-! ### The staged page -/

theorem setStagedPage_stagedPage (g : Page) (s : State) : (setStagedPage g s).stagedPage = g := by
  cases e : s.schedule.live <;> simp [setStagedPage, State.stagedPage, e]

theorem setStagedPage_livePage (g : Page) (s : State) : (setStagedPage g s).livePage = s.livePage := by
  cases e : s.schedule.live <;> simp [setStagedPage, State.livePage, e]

theorem setStagedPage_ports (g : Page) (s : State) : SamePorts s (setStagedPage g s) := by
  unfold setStagedPage
  split <;> exact .of_eq rfl rfl

/-! ### The entries of an ORDER -/

theorem valveOf?_inj {a b : Byte} {v : Valve} (ha : valveOf? a = some v) (hb : valveOf? b = some v) : a = b := by
  have number {b : Byte} (h : valveOf? b = some v) : b.toNat = v.val + 1 := by
    unfold valveOf? at h
    split at h
    case isTrue range =>
      rw [← Option.some.inj h]
      dsimp only
      omega
    case isFalse => cases h
  exact BitVec.eq_of_toNat_eq ((number ha).trans (number hb).symm)

theorem writeEntry_rest (g : Page) (e : OrderEntry) : (writeEntry g e).valid = g.valid ∧ (writeEntry g e).alpha = g.alpha ∧
    (writeEntry g e).role = g.role ∧ (writeEntry g e).leg = g.leg := by
  unfold writeEntry
  split <;> exact ⟨rfl, rfl, rfl, rfl⟩

theorem foldl_writeEntry_rest (l : List OrderEntry) (g : Page) : (l.foldl writeEntry g).valid = g.valid ∧
    (l.foldl writeEntry g).alpha = g.alpha ∧ (l.foldl writeEntry g).role = g.role ∧
    (l.foldl writeEntry g).leg = g.leg := by
  induction l generalizing g with
  | nil => exact ⟨rfl, rfl, rfl, rfl⟩
  | cons e l ih =>
    obtain ⟨valid, alpha, role, leg⟩ := ih (writeEntry g e)
    obtain ⟨valid', alpha', role', leg'⟩ := writeEntry_rest g e
    exact ⟨valid.trans valid', alpha.trans alpha', role.trans role', leg.trans leg'⟩

theorem writeEntry_same {g : Page} {e : OrderEntry} {v : Valve} (named : valveOf? e.valve = some v) :
    (writeEntry g e).trims[v] = e.trim.toInt ∧ (writeEntry g e).pairs[v] = e.pair := by
  simp [writeEntry, named]

theorem writeEntry_other {g : Page} {e : OrderEntry} {v : Valve} (other : valveOf? e.valve ≠ some v) :
    (writeEntry g e).trims[v] = g.trims[v] ∧ (writeEntry g e).pairs[v] = g.pairs[v] := by
  unfold writeEntry
  split
  case h_1 w named =>
    have apart : w ≠ v := fun h => other (h ▸ named)
    exact ⟨(put_getElem_fin g.trims w v _).trans (if_neg apart), (put_getElem_fin g.pairs w v _).trans (if_neg apart)⟩
  case h_2 => exact ⟨rfl, rfl⟩

theorem foldl_writeEntry_other {l : List OrderEntry} {v : Valve} (others : ∀ e ∈ l, valveOf? e.valve ≠ some v) (g : Page) :
    (l.foldl writeEntry g).trims[v] = g.trims[v] ∧ (l.foldl writeEntry g).pairs[v] = g.pairs[v] := by
  induction l generalizing g with
  | nil => exact ⟨rfl, rfl⟩
  | cons e l ih =>
    obtain ⟨trims, pairs⟩ := ih (fun x hx => others x (List.mem_cons_of_mem _ hx)) (writeEntry g e)
    obtain ⟨trims', pairs'⟩ := writeEntry_other (g := g) (others e List.mem_cons_self)
    exact ⟨trims.trans trims', pairs.trans pairs'⟩

/-- Each valve that the entries name once gets its trim and pair (R110). -/
theorem foldl_writeEntry_same {l : List OrderEntry} (once : (l.map OrderEntry.valve).Nodup) {e : OrderEntry} (he : e ∈ l)
    {v : Valve} (named : valveOf? e.valve = some v) (g : Page) :
    (l.foldl writeEntry g).trims[v] = e.trim.toInt ∧ (l.foldl writeEntry g).pairs[v] = e.pair := by
  induction l generalizing g with
  | nil => cases he
  | cons x l ih =>
    rw [List.map_cons, List.nodup_cons] at once
    obtain ⟨fresh, once⟩ := once
    rw [List.foldl_cons]
    obtain rfl | later := List.mem_cons.1 he
    · have others : ∀ y ∈ l, valveOf? y.valve ≠ some v := fun y hy same =>
        fresh (valveOf?_inj named same ▸ List.mem_map_of_mem hy)
      obtain ⟨trims, pairs⟩ := foldl_writeEntry_other others (writeEntry g e)
      obtain ⟨trims', pairs'⟩ := writeEntry_same (g := g) named
      exact ⟨trims.trans trims', pairs.trans pairs'⟩
    · exact ih once later (writeEntry g x)

/-! ### The checks (R110) -/

theorem legOf?_eq_none_iff (k : Byte) : legOf? k = none ↔ k.toNat = 0 ∨ 3 < k.toNat := by
  unfold legOf?
  split
  · simp only [reduceCtorEq, false_iff]
    omega
  · simp only [true_iff]
    omega

theorem legOf?_val {k : Byte} {x : Fin 3} (found : legOf? k = some x) : x.val + 1 = k.toNat := by
  unfold legOf? at found
  split at found
  case isTrue h =>
    rw [← Option.some.inj found]
    dsimp only
    omega
  case isFalse => cases found

theorem orderOutOfRange_iff (o : OrderParts) : orderOutOfRange o = true ↔
    (∃ e ∈ o.entries, e.trim.toInt < -20 ∨ 20 < e.trim.toInt) ∨
    (∃ k, o.leg = some k ∧ (k.toNat = 0 ∨ 3 < k.toNat)) ∨ (∃ a, o.alpha = some a ∧ 3599 < a.toNat) ∨
    ¬ (o.entries.map OrderEntry.valve).Nodup := by
  simp only [orderOutOfRange, Bool.or_eq_true, List.any_eq_true, Option.any_eq_true, decide_eq_true_eq, or_assoc,
    Option.isNone_iff_eq_none, legOf?_eq_none_iff, Bool.not_eq_true', decide_eq_false_iff_not]

theorem clampNat_ne_iff (low high n : Nat) : clampNat low high n ≠ n ↔ n < low ∨ high < n := by
  unfold clampNat
  split
  · omega
  · split <;> omega

theorem orderClamps_eq (settings : Settings) (o : OrderParts) : orderClamps settings o =
    o.alpha.any fun a => decide (a.toNat < settings.alphaMin ∨ settings.alphaMax < a.toNat) := by
  simp only [orderClamps, clampAlpha, clampNat_ne_iff]

theorem orderClaim_of_noKey {o : OrderParts} {s : State} (noKey : ∃ e ∈ o.entries, valveOf? e.valve = none) :
    orderClaim o s = (s, some (plain .badKey)) := by
  have check : orderFieldCheck o = some .badKey := if_pos (by simpa using noKey)
  rw [orderClaim, check]

theorem orderFieldCheck_of_keys {o : OrderParts} (keys : ∀ e ∈ o.entries, valveOf? e.valve ≠ none) : orderFieldCheck o =
    if orderOutOfRange o then some .badValue else none := by
  refine if_neg ?_
  simpa [Option.isNone_iff_eq_none] using keys

theorem orderClaim_of_badValue {o : OrderParts} {s : State} (keys : ∀ e ∈ o.entries, valveOf? e.valve ≠ none)
    (bad : orderOutOfRange o = true) : orderClaim o s = (s, some (plain .badValue)) := by
  rw [orderClaim, orderFieldCheck_of_keys keys, if_pos bad]

/-- An ORDER whose fields pass (R110, R111). -/
theorem orderClaim_of_fields {o : OrderParts} {s : State} (keys : ∀ e ∈ o.entries, valveOf? e.valve ≠ none)
    (good : ¬ orderOutOfRange o = true) : orderClaim o s =
      if s.schedule.swapPending.isSome then (s, some (plain .pending))
      else if (o.role.any fun r => decide (r ≠ s.livePage.role)) && !isStopped s.seq.conv then
        (s, some (plain .wrongState))
      else (setStagedPage (writeOrder s.settings o s.stagedPage) s,
            some (plain (if orderClamps s.settings o then .clamped else .done))) := by
  rw [orderClaim, orderFieldCheck_of_keys keys, if_neg good]

/-- What an ORDER writes (R110, step 3). -/
theorem writeOrder_items (settings : Settings) (o : OrderParts) (g : Page)
    (good : ¬ orderOutOfRange o = true) :
    (writeOrder settings o g).valid = true ∧
    (o.alpha = none → (writeOrder settings o g).alpha = g.alpha) ∧
    (∀ a, o.alpha = some a → (writeOrder settings o g).alpha = clampNat settings.alphaMin settings.alphaMax a.toNat) ∧
    (writeOrder settings o g).role = o.role.getD g.role ∧
    (o.leg = none → (writeOrder settings o g).leg = g.leg) ∧
    (∀ k, o.leg = some k → (writeOrder settings o g).leg.val + 1 = k.toNat) ∧
    (∀ e ∈ o.entries, ∀ v, valveOf? e.valve = some v →
      (writeOrder settings o g).trims[v] = e.trim.toInt ∧ (writeOrder settings o g).pairs[v] = e.pair) ∧
    (∀ v : Valve, (∀ e ∈ o.entries, valveOf? e.valve ≠ some v) →
      (writeOrder settings o g).trims[v] = g.trims[v] ∧ (writeOrder settings o g).pairs[v] = g.pairs[v]) := by
  rw [orderOutOfRange_iff] at good
  simp only [not_or, not_not] at good
  obtain ⟨-, legs, -, once⟩ := good
  unfold writeOrder
  dsimp only
  refine ⟨?_, fun none => ?_, fun a carried => ?_, ?_, fun none => ?_, fun k carried => ?_, fun e he v named => ?_,
    fun v others => ?_⟩
  · rw [(foldl_writeEntry_rest _ _).1]
  · rw [(foldl_writeEntry_rest _ _).2.1, none]
    rfl
  · rw [(foldl_writeEntry_rest _ _).2.1, carried]
    rfl
  · rw [(foldl_writeEntry_rest _ _).2.2.1]
  · rw [(foldl_writeEntry_rest _ _).2.2.2, none]
    rfl
  · rw [(foldl_writeEntry_rest _ _).2.2.2, carried]
    cases found : legOf? k with
    | none => exact absurd ⟨k, carried, (legOf?_eq_none_iff k).1 found⟩ legs
    | some x => simpa [found] using legOf?_val found
  · exact foldl_writeEntry_same once he named _
  · exact foldl_writeEntry_other others _

/-- Settles O42: the fields, the pending swap and the role in their order, then the staged page. -/
theorem orderWritesTheStagedPage : Obligations.OrderWritesTheStagedPage := by
  unfold Obligations.OrderWritesTheStagedPage
  intro q o s
  dsimp only
  intro executing
  rw [← orderOutOfRange_iff]
  refine ⟨fun noKey => refuses_of_claimOf rfl executing (orderClaim_of_noKey noKey), fun keys =>
    ⟨fun bad => refuses_of_claimOf rfl executing (orderClaim_of_badValue keys bad), fun good => ?_⟩⟩
  have claim := orderClaim_of_fields (s := s) keys good
  refine ⟨fun pending => refuses_of_claimOf rfl executing (claim.trans (if_pos pending)), fun free => ?_⟩
  rw [if_neg (by simp [free])] at claim
  refine ⟨fun ⟨r, carried, other⟩ moving => ?_, fun fits => ⟨writeOrder s.settings o s.stagedPage, ?_,
    setStagedPage_stagedPage _ s, setStagedPage_livePage _ s, writeOrder_items s.settings o s.stagedPage good⟩⟩
  · exact refuses_of_claimOf rfl executing (claim.trans (if_pos (by simp [carried, other, moving])))
  · have admitted : ¬ ((o.role.any fun r => decide (r ≠ s.livePage.role)) && !isStopped s.seq.conv) = true := by
      rcases fits with h | h | h <;> simp [h]
    rw [if_neg admitted, orderClamps_eq] at claim
    exact completes_of_claimOf rfl executing claim (setStagedPage_ports _ s) (by simp)

end Sys2Proof.Machine

/-! SWAP, and the pending swap at a cycle start and at the loss of the phase (R112 to R115). -/

namespace Sys2Proof.Machine

/-! ### What an answer that is placed survives -/

/-- A port that holds no request keeps its slots. -/
def AnswerKept (s t : State) : Prop :=
  ∀ p, (s.port p).request = none → t.port p = { s.port p with flags := (t.port p).flags }

theorem AnswerKept.refl (s : State) : AnswerKept s s := fun _ _ => rfl

theorem AnswerKept.of_samePorts {s t : State} (h : SamePorts s t) : AnswerKept s t := fun p _ => h p

theorem AnswerKept.of_eq {s t : State} (ha : t.portA = s.portA) (hb : t.portB = s.portB) : AnswerKept s t :=
  .of_samePorts (.of_eq ha hb)

theorem AnswerKept.trans {s t u : State} (h : AnswerKept s t) (k : AnswerKept t u) : AnswerKept s u := fun p free => by
  have first := h p free
  have second := k p (by rw [first]; exact free)
  rw [second, first]

theorem placeAnswer_kept (q : Port) (r : Reply) (s : State) : AnswerKept s (placeAnswer q r s) := fun p free => by
  rcases eq_or_eq_otherPort q p with rfl | rfl
  · have same : placeAnswer p r s = s := by simp [placeAnswer, free]
    rw [same]
  · rw [placeAnswer_other]

theorem holdOr_kept {kept : Option Poll} {go : State → State} {s : State} (goes : AnswerKept s (go s)) :
    AnswerKept s (holdOr kept go s) := by
  unfold holdOr
  split
  · exact .trans (t := becomeHeld kept s) (.of_eq rfl rfl) (placeAnswer_kept _ _ _)
  · exact goes

theorem requestCut_kept (s : State) : AnswerKept s (requestCut s) := by
  unfold requestCut
  split
  case h_1 p _ =>
    split
    · split
      case h_3 => exact .trans (t := tellCut p s) (.of_eq rfl rfl) (holdOr_kept (.of_eq rfl rfl))
      all_goals exact .of_eq rfl rfl
    · exact .refl s
  case h_2 => exact .refl s

theorem takeCheckPoint_kept (s : State) (v : Valve) : AnswerKept s (takeCheckPoint s v) := by
  have joined (u : State) : AnswerKept u (joinCycle v u) := by
    unfold joinCycle
    split
    · exact .of_eq rfl rfl
    · exact .trans (t := { u with sources := { u.sources with cycleQueue := u.sources.cycleQueue ++ [v] } })
        (.of_eq rfl rfl) (requestCut_kept _)
  refine .trans (t := { s with sources := { s.sources with armed := put s.sources.armed v none } }) (.of_eq rfl rfl) ?_
  unfold takeCheckPoint checkPoint
  split
  · exact AnswerKept.trans (.of_eq (by simp) (by simp)) (joined _)
  · exact .refl _

theorem stepEvent_kept_after_work {s : State} (counting : s.phase.counting = true) :
    AnswerKept (stepWork s) (stepEvent s) := by
  have checked : AnswerKept (stepWork s) (stepChecked s) :=
    foldl_preserves (P := AnswerKept (stepWork s)) (f := takeCheckPoint) (fun t v k => k.trans (takeCheckPoint_kept t v)) _
      (.of_eq rfl rfl)
  rw [stepEvent_of_counting counting]
  exact checked.trans (.of_eq (by simp) (by simp))

theorem OwnerAnswered.kept {p : Port} {s t u : State} (h : OwnerAnswered p s t) (k : AnswerKept t u) :
    OwnerAnswered p s u := by
  intro f g held tagged
  obtain ⟨state, request, answer, kind⟩ := h f g held tagged
  have same := k p request
  exact ⟨by rw [same]; exact state, by rw [same]; exact request, by rw [same]; exact answer, by rw [same]; exact kind⟩

/-! ### The swap made (R114) -/

theorem swapPages_eq (s : State) : swapPages s.schedule =
    { pageA := s.stagedPage, pageB := s.stagedPage, live := otherPage s.schedule.live, swapPending := none } := by
  unfold swapPages State.stagedPage
  split <;> rename_i live <;> simp [live, otherPage]

theorem makePendingSwap_of_pending {p : Port} {s : State} (pending : s.schedule.swapPending = some p) :
    makePendingSwap s = placeAnswer p (plain .done) (makeSwap s) := by
  simp [makePendingSwap, pending]

/-- The port that sent the pending SWAP is answered DONE, with SWAP set. -/
theorem makePendingSwap_answers {p : Port} {s u : State} (pending : u.schedule.swapPending = some p)
    (slot : (u.port p).request = (s.port p).request) :
    OwnerAnswered p s (makePendingSwap u) ∧ NoticeSet .swap (makePendingSwap u) := by
  rw [makePendingSwap_of_pending pending]
  have marked : ((makeSwap u).port p).request = (u.port p).request := by
    rw [makeSwap, setNotice_port]
    rfl
  exact ⟨placeAnswer_ownerAnswered (marked.trans slot),
    (setNotice_noticeSet .swap { u with schedule := swapPages u.schedule }).stays (placeAnswer_rises p _ _).flagsStay⟩

/-! ### The claim (R112, R115) -/

theorem swapClaim_of_free {p : Port} {s : State} (free : s.schedule.swapPending = none) (valid : s.stagedPage.valid = true) :
    swapClaim p s =
      if decide (s.stagedPage.role ≠ s.livePage.role) && !isStopped s.seq.conv then (s, some (plain .wrongState))
      else if decide (s.stagedPage.role ≠ s.livePage.role) || !chainRuns s.phase.lock then (makeSwap s, some (plain .done))
      else ({ s with schedule := { s.schedule with swapPending := some p } }, none) := by
  unfold swapClaim
  rw [if_neg (by simp [free]), if_neg (by simp [valid])]

/-- The swap at a cycle start is made before anything else of the step event (R114). -/
theorem stepEvent_makes_swap {s : State} {p : Port} (runs : chainRuns s.phase.lock = true)
    (pending : s.schedule.swapPending = some p) (counting : s.phase.counting = true) (start : 0 ∈ passedNext s.phase) :
    NoticeSet .swap (stepEvent s) ∧ OwnerAnswered p s (stepEvent s) ∧ (stepEvent s).schedule =
      { pageA := s.stagedPage, pageB := s.stagedPage, live := otherPage s.schedule.live, swapPending := none } := by
  have lock : chainRuns (advancePhase s.phase).lock = true := by simpa using runs
  have swapped : turned s = makePendingSwap { s with phase := advancePhase s.phase } := if_pos lock
  obtain ⟨answered, raised⟩ := makePendingSwap_answers (s := s) (u := { s with phase := advancePhase s.phase }) pending rfl
  rw [← swapped] at answered raised
  have worked : AnswerKept (turned s) (stepWork s) := by
    rw [stepWork_of_start counting start]
    exact AnswerKept.trans (.of_samePorts (sequencerCycleWork_samePorts _)) (.of_eq (by simp) (by simp))
  refine ⟨noticeSet_of_work counting start (raised.stays (sequencerCycleWork_flagsStay _)),
    answered.kept (worked.trans (stepEvent_kept_after_work counting)), ?_⟩
  rw [stepEvent_schedule s counting, stepWork_of_start counting start]
  have schedule := makePendingSwap_schedule { s with phase := advancePhase s.phase }
  rw [if_pos (by simp [pending]), ← swapped] at schedule
  simpa [schedule] using swapPages_eq s

/-- The swap at the loss of the phase (R103, R115). -/
theorem missedCrossing_makes_swap {s : State} {p : Port} (pending : s.schedule.swapPending = some p)
    (holding : s.phase.lock = .holding) (passed : s.settings.holdLimit < s.phase.hold + 1) :
    NoticeSet .swap (missedCrossing s) ∧ OwnerAnswered p s (missedCrossing s) ∧ (missedCrossing s).schedule =
      { pageA := s.stagedPage, pageB := s.stagedPage, live := otherPage s.schedule.live, swapPending := none } := by
  have runs : chainRuns s.phase.lock = true := by rw [holding]; rfl
  have missed := missedCrossing_of_holding holding
  rw [if_pos passed] at missed
  generalize e : ({ s with phase := { s.phase with
    interval := 0, mark := .missed, hold := min (s.phase.hold + 1) 16 } } : State) = u at missed
  have moved : SamePorts s (stopAtOnce (lostPhase u)) := by
    have ports : SamePorts s u := by rw [← e]; exact .of_eq rfl rfl
    exact (ports.trans (t := u) (.trans (.of_eq rfl rfl) (setNotice_samePorts .phase _))).trans (stopAtOnce_samePorts _)
  have schedule : (stopAtOnce (lostPhase u)).schedule = s.schedule := by rw [← e]; simp [lostPhase]
  obtain ⟨answered, raised⟩ := makePendingSwap_answers (s := s) (u := stopAtOnce (lostPhase u))
    (by rw [schedule]; exact pending) (by rw [moved p])
  rw [missed, becomeLost_eq (by rw [← e]; exact runs)]
  refine ⟨raised.stays (.of_eq rfl rfl), answered.kept (.of_eq rfl rfl), ?_⟩
  have made := makePendingSwap_schedule (stopAtOnce (lostPhase u))
  rw [if_pos (by rw [schedule, pending]; rfl), schedule] at made
  exact made.trans (swapPages_eq s)

/-- Settles O43: the claim by what it finds, then the two moments at which a waiting swap is made. -/
theorem swapMadeOrWaiting : Obligations.SwapMadeOrWaiting := by
  unfold Obligations.SwapMadeOrWaiting
  refine ⟨fun q s executing => ⟨fun pending => ?_, fun free => ⟨fun invalid => ?_, fun valid =>
    ⟨fun other moving => ?_, fun now => ?_, fun same runs => ?_⟩⟩⟩, fun s p porHigh runs pending =>
    ⟨fun counting start => ?_, fun counting noStart => ?_, fun holding passed => ?_⟩⟩
  · exact refuses_of_claimOf rfl executing (if_pos pending)
  · exact refuses_of_claimOf rfl executing ((if_neg (by simp [free])).trans (if_pos (by simp [invalid])))
  · exact refuses_of_claimOf rfl executing ((swapClaim_of_free free valid).trans (if_pos (by simp [other, moving])))
  · rw [← swapPages_eq]
    have admitted : ¬ (decide (s.stagedPage.role ≠ s.livePage.role) && !isStopped s.seq.conv) = true := by
      rcases now with ⟨-, stopped⟩ | ⟨same, -⟩ <;> simp [*]
    have immediate : (decide (s.stagedPage.role ≠ s.livePage.role) || !chainRuns s.phase.lock) = true := by
      rcases now with ⟨other, -⟩ | ⟨-, halted⟩ <;> simp [*]
    exact completes_of_claimOf rfl executing
      ((swapClaim_of_free free valid).trans ((if_neg admitted).trans (if_pos immediate)))
      (.trans (.of_eq rfl rfl) (setNotice_samePorts .swap { s with schedule := swapPages s.schedule })) rfl
  · exact leftWaiting_of_claimOf rfl executing
      ((swapClaim_of_free free valid).trans ((if_neg (by simp [same])).trans (if_neg (by simp [same, runs]))))
      (fun _ => rfl) rfl
  · refine ⟨stepEvent s, exec_phaseStepEvent porHigh, powered_whenDue porHigh ?_, stepEvent_makes_swap runs pending counting start⟩
    simp [swapDueAtCycleStart, runs, pending, (cycleStartNext_iff counting).2 start]
  · refine ⟨stepEvent s, exec_phaseStepEvent porHigh, ?_⟩
    rw [stepEvent_schedule s counting, stepWork_of_noStart counting noStart]
  · refine ⟨missedCrossing s, exec_missedCrossing porHigh, powered_whenDue porHigh ?_,
      missedCrossing_makes_swap pending holding passed⟩
    simp [swapDueAtLoss, lossDue, holding, passed, pending]

end Sys2Proof.Machine

/-! SET of the settings: the checks in their order, the value stored, and its consequences (R30, R33, R83, R105, R117,
R164, R165). -/

namespace Sys2Proof.Machine

/-! ### The command and the store -/

theorem claimOf_setCommand (q : Sender) (valve : Byte) (value : Word16) (σ : Setting) :
    claimOf (setCommand q valve value σ) = some (q, setClaim σ (if σ.perValve then valve else 0) value) := by
  cases σ <;> rfl

/-- A setting held once does not read the valve (R164). -/
theorem storeClaim_of_once {σ : Setting} (once : σ.perValve = false) (v : Valve) (n : Nat) (s : State) :
    storeClaim σ 0 n s = storeClaim σ v n s := by
  cases σ
  case minimumSound | reserve => cases once
  all_goals rfl

theorem setClaim_of_valve {σ : Setting} {valve : Byte} {v : Valve} (named : σ.perValve = true → valveOf? valve = some v)
    (value : Word16) (s : State) :
    setClaim σ (if σ.perValve then valve else 0) value s = storeClaim σ v value.toNat s := by
  cases held : σ.perValve with
  | true => simp [setClaim, held, named held]
  | false =>
    have once : setClaim σ 0 value s = storeClaim σ 0 value.toNat s := by
      rw [setClaim, held]
      rfl
    exact once.trans (storeClaim_of_once held v _ s)

theorem setClaim_of_noValve {σ : Setting} {valve : Byte} (held : σ.perValve = true) (none : valveOf? valve = none)
    (value : Word16) (s : State) :
    setClaim σ (if σ.perValve then valve else 0) value s = (s, some (plain .badKey)) := by
  simp [setClaim, held, none]

/-- What a value must satisfy (R164, R165). -/
theorem valueOk_iff (t : Settings) (σ : Setting) (n : Nat) : valueOk t σ n = true ↔ σ.range.1 ≤ n ∧ n ≤ σ.range.2 ∧
    (σ = .windowLow → n < t.windowHigh) ∧ (σ = .windowHigh → t.windowLow < n) ∧
    (σ = .standardOnTime → n ≤ t.longOnTime) ∧ (σ = .longOnTime → t.standardOnTime ≤ n) := by
  unfold valueOk
  cases σ <;> simp [and_assoc]

theorem getSetting_putSetting (t : Settings) (v w : Valve) (n : Nat) (σ τ : Setting) :
    getSetting (putSetting t v n σ) w τ =
      if τ = σ ∧ (σ.perValve = true → w = v) then
        (if σ = .sweepEnable ∨ σ = .preEmption then (if n = 1 then 1 else 0) else n)
      else getSetting t w τ := by
  by_cases here : τ = σ ∧ (σ.perValve = true → w = v)
  · rw [if_pos here]
    obtain ⟨rfl, same⟩ := here
    cases τ
    case minimumSound | reserve =>
      obtain rfl := same rfl
      simp [getSetting, putSetting]
    case sweepEnable | preEmption => simp [getSetting, putSetting]
    all_goals rfl
  · rw [if_neg here]
    refine getSetting_putSetting_other ?_ t n
    by_cases same : τ = σ
    · exact .inr (by simpa [same] using here)
    · exact .inl same

/-! ### The checks of the claim (R165) -/

section
variable {σ : Setting} {v : Valve} {n : Nat} {s : State}

theorem storeClaim_of_refusal {code : AnswerCode} (refused : setRefusal σ v n s = some code) :
    storeClaim σ v n s = (s, some (plain code)) := by
  simp [storeClaim, refused]

theorem setRefusal_of_state (fixed : σ.anyTime = false) (moving : isStopped s.seq.conv = false) :
    setRefusal σ v n s = some .wrongState := if_pos (by simp [fixed, moving])

variable (free : σ.anyTime = true ∨ isStopped s.seq.conv = true)
include free

theorem setRefusal_of_free : setRefusal σ v n s =
    if !valueOk s.settings σ n then some .badValue
    else if isAlphaLimit σ && s.schedule.swapPending.isSome then some .pending
    else if isSpreadSetting σ && overSpread (putSetting s.settings v n σ) s then some .spread
    else none := if_neg (by rcases free with h | h <;> simp [h])

theorem setRefusal_of_badValue (bad : valueOk s.settings σ n = false) : setRefusal σ v n s = some .badValue := by
  rw [setRefusal_of_free free, if_pos (by simp [bad])]

variable (good : valueOk s.settings σ n = true)
include good

theorem setRefusal_of_pending (alpha : isAlphaLimit σ = true) (pending : s.schedule.swapPending.isSome = true) :
    setRefusal σ v n s = some .pending := by
  rw [setRefusal_of_free free, if_neg (by simp [good]), if_pos (by simp [alpha, pending])]

theorem setRefusal_of_spread (spread : isSpreadSetting σ = true) (alpha : isAlphaLimit σ = false)
    (above : overSpread (putSetting s.settings v n σ) s = true) : setRefusal σ v n s = some .spread := by
  rw [setRefusal_of_free free, if_neg (by simp [good]), if_neg (by simp [alpha]), if_pos (by simp [spread, above])]

/-- An accepted SET (R165). -/
theorem storeClaim_of_passed (swap : isAlphaLimit σ = true → s.schedule.swapPending = none)
    (spread : isSpreadSetting σ = true → overSpread (putSetting s.settings v n σ) s = false) : storeClaim σ v n s =
      (setConsequences σ v { s with settings := putSetting s.settings v n σ }, some (plain .done)) := by
  have passed := (setRefusal_none_iff σ v n s).2 ⟨free, good, swap, spread⟩
  simp [storeClaim, passed]

end

/-! ### The consequences (R30, R33, R83, R105, R117) -/

theorem setTally_self (s : State) (v : Valve) : s.setTally v (s.tally v) = s := by
  have same : put s.tallies v s.tallies[v] = s.tallies := put_self _ _
  simp only [State.setTally, State.tally, same]

/-- The grade of a valve of a stopped converter, worked out again (R30). -/
theorem regrade_eq {s : State} (stopped : isStopped s.seq.conv = true) (v : Valve) {grade : Grade}
    (regraded : gradeOf (s.tally v).sound (s.tally v).failed s.settings.minimumSound[v] s.settings.reserve[v] = grade) :
    regrade v s = if grade = (s.tally v).grade then s
      else setNotice .grade { s with tallies := put s.tallies v { s.tally v with grade := grade } } := by
  have notPending : s.seq.conv ≠ .pending := fun e => by
    rw [e] at stopped
    cases stopped
  unfold regrade commitTally
  dsimp only
  rw [regraded]
  split
  case isTrue same =>
    rw [same]
    exact setTally_self s v
  case isFalse =>
    split
    · exact if_neg notPending
    · rfl

/-- A SET of the reference offset while the chain runs (R105, R115). -/
theorem offsetSet_of_running {s : State} (runs : chainRuns s.phase.lock = true) : offsetSet s =
    makePendingSwap (setNotice .phase { s with phase := { s.phase with
      lock := .acquiring, correction := 0, spacing := 0, good := 0, hold := 0, prevAccepted := none,
      pendingLoad := false } }) := by
  have new : chainRuns .acquiring = false := rfl
  unfold offsetSet changeLock
  rw [if_pos runs]
  simp [sequencerLockChange, scheduleLockChange, sourcesLockChange, runs, new, offsetItems, setCorrection]

theorem OwnerAnswered.stays {p : Port} {s t u : State} (h : OwnerAnswered p s t)
    (k : (t.port p).state = .answered → u.port p = t.port p) : OwnerAnswered p s u := by
  intro f g held tagged
  obtain ⟨state, request, answer, kind⟩ := h f g held tagged
  have same := k state
  exact ⟨by rw [same]; exact state, by rw [same]; exact request, by rw [same]; exact answer, by rw [same]; exact kind⟩

/-- A request whose claim also answers the other port's: both ports are answered (R115, R153). -/
theorem conclude_answers_both {c : Instr} {q : Sender} {claim : State → State × Option Reply} {s u : State}
    (hc : claimOf c = some (q, claim)) (executing : Executing c q s) (claimed : claim s = (u, some (plain .done)))
    (slot : (u.port q.port).request = (s.port q.port).request) (engine : u.engine = s.engine)
    (other : OwnerAnswered (otherPort q.port) s u) :
    ∃ t, exec c s = .next t ∧ SameBlocks u t ∧ Answered q (plain .done) s t ∧ OwnerAnswered (otherPort q.port) s t := by
  obtain ⟨_, _, row⟩ := requestOf_of_claimOf hc
  obtain ⟨f, held, tagged, -, -, running⟩ := executing.slot row
  obtain ⟨same, answered, -⟩ := conclude_answers (r := plain .done) held tagged slot (by rw [engine, running])
  refine ⟨conclude q.port (u, some (plain .done)), ?_, same, answered, other.stays fun state => ?_⟩
  · rw [exec_of_claimOf hc s, serveClaim_executing row executing, claimed]
  · have quiet : (placeAnswer q.port (plain .done) u).port (otherPort q.port) = u.port (otherPort q.port) :=
      placeAnswer_other q.port _ u
    have idle : waits (otherPort q.port) (freeEngine (placeAnswer q.port (plain .done) u)) = false := by
      simp [waits, freeEngine_port, quiet, state]
    exact (engineBegin_port 2 idle).trans (by rw [freeEngine_port, quiet])

/-! ### The obligation, group by group of settings -/

section
variable {σ : Setting} {q : Sender} {valve : Byte} {v : Valve} {value : Word16} {s : State}
  (executing : Executing (setCommand q valve value σ) q s) (named : σ.perValve = true → valveOf? valve = some v)
include executing named

theorem set_refuses {code : AnswerCode} (refused : setRefusal σ v value.toNat s = some code) :
    Completes (setCommand q valve value σ) q s (plain code) s :=
  refuses_of_claimOf (claimOf_setCommand q valve value σ) executing
    ((setClaim_of_valve named value s).trans (storeClaim_of_refusal refused))

variable (free : σ.anyTime = true ∨ isStopped s.seq.conv = true) (good : valueOk s.settings σ value.toNat = true)
include free good

/-- A SET without checks beyond these two stores the value, with the consequences `u`. -/
theorem set_stores {u : State} (alpha : isAlphaLimit σ = false) (spread : isSpreadSetting σ = false)
    (consequences : setConsequences σ v { s with settings := putSetting s.settings v value.toNat σ } = u)
    (ports : SamePorts s u) (engine : u.engine = s.engine) :
    Completes (setCommand q valve value σ) q u (plain .done) s := by
  have passed := storeClaim_of_passed (v := v) free good (by simp [alpha]) (by simp [spread])
  exact completes_of_claimOf (claimOf_setCommand q valve value σ) executing
    ((setClaim_of_valve named value s).trans (passed.trans (by rw [consequences]))) ports engine

theorem set_alphaLimit (limit : σ = .alphaMin ∨ σ = .alphaMax) :
    let set := putSetting s.settings v value.toNat σ
    (s.schedule.swapPending.isSome = true → Completes (setCommand q valve value σ) q s (plain .pending) s) ∧
    (s.schedule.swapPending = none → Completes (setCommand q valve value σ) q { s with
      settings := set,
      schedule := { s.schedule with
        pageA := { s.schedule.pageA with alpha := clampNat set.alphaMin set.alphaMax s.schedule.pageA.alpha },
        pageB := { s.schedule.pageB with alpha := clampNat set.alphaMin set.alphaMax s.schedule.pageB.alpha } },
      seq := { s.seq with ramp := max s.seq.ramp set.alphaMin } } (plain .done) s) := by
  have alpha : isAlphaLimit σ = true := by rcases limit with rfl | rfl <;> rfl
  have spread : isSpreadSetting σ = false := by rcases limit with rfl | rfl <;> rfl
  refine ⟨fun pending => set_refuses executing named (setRefusal_of_pending free good alpha pending), fun none => ?_⟩
  have passed := storeClaim_of_passed (v := v) free good (fun _ => none) (by simp [spread])
  refine completes_of_claimOf (claimOf_setCommand q valve value σ) executing
    ((setClaim_of_valve named value s).trans (passed.trans ?_)) (.of_eq rfl rfl) rfl
  rcases limit with rfl | rfl <;> rfl

theorem set_spreadSetting (kind : σ = .standardOnTime ∨ σ = .longOnTime ∨ σ = .spreadLimit) :
    let set := putSetting s.settings v value.toNat σ
    ((∃ w, set.spreadLimit < spreadUnder set (s.tally w)) → Completes (setCommand q valve value σ) q s (plain .spread) s) ∧
    ((∀ w, spreadUnder set (s.tally w) ≤ set.spreadLimit) → Completes (setCommand q valve value σ) q { s with
      settings := set,
      tallies := if σ = .spreadLimit then s.tallies
        else mapEntries (fun y => { y with spread := spreadUnder set y }) s.tallies } (plain .done) s) := by
  have spread : isSpreadSetting σ = true := by rcases kind with rfl | rfl | rfl <;> rfl
  have alpha : isAlphaLimit σ = false := by rcases kind with rfl | rfl | rfl <;> rfl
  refine ⟨fun ⟨w, above⟩ => set_refuses executing named (setRefusal_of_spread free good spread alpha ?_), fun within => ?_⟩
  · exact Bool.eq_true_of_not_eq_false fun none => Nat.not_lt.2 ((overSpread_false_iff _ s).1 none w) above
  · have passed := storeClaim_of_passed (v := v) free good (by simp [alpha]) fun _ => (overSpread_false_iff _ s).2 within
    refine completes_of_claimOf (claimOf_setCommand q valve value σ) executing
      ((setClaim_of_valve named value s).trans (passed.trans ?_)) (.of_eq rfl rfl) rfl
    rcases kind with rfl | rfl | rfl <;> rfl

theorem set_gradeSetting (kind : σ = .minimumSound ∨ σ = .reserve) :
    let set := putSetting s.settings v value.toNat σ
    let y := s.tally v
    let grade := gradeOf y.sound y.failed set.minimumSound[v] set.reserve[v]
    (grade = y.grade → Completes (setCommand q valve value σ) q { s with settings := set } (plain .done) s) ∧
    (grade ≠ y.grade → Completes (setCommand q valve value σ) q (setNotice .grade { s with
      settings := set, tallies := put s.tallies v { y with grade := grade } }) (plain .done) s) := by
  dsimp only
  have fixed : σ.anyTime = false := by rcases kind with rfl | rfl <;> rfl
  have stopped : isStopped s.seq.conv = true := free.resolve_left fun any => nomatch (fixed.symm.trans any : false = true)
  have alpha : isAlphaLimit σ = false := by rcases kind with rfl | rfl <;> rfl
  have spread : isSpreadSetting σ = false := by rcases kind with rfl | rfl <;> rfl
  have regraded : setConsequences σ v { s with settings := putSetting s.settings v value.toNat σ } =
      regrade v { s with settings := putSetting s.settings v value.toNat σ } := by rcases kind with rfl | rfl <;> rfl
  have made := regraded.trans (regrade_eq (s := { s with settings := putSetting s.settings v value.toNat σ }) stopped v rfl)
  refine ⟨fun same => ?_, fun changed => ?_⟩
  · exact set_stores executing named free good alpha spread (made.trans (if_pos same)) (.of_eq rfl rfl) rfl
  · exact set_stores executing named free good alpha spread (made.trans (if_neg changed))
      (.trans (.of_eq rfl rfl) (setNotice_samePorts .grade _)) rfl

theorem set_sweepEnable (kind : σ = .sweepEnable) (least : σ.range.1 ≤ value.toNat) (greatest : value.toNat ≤ σ.range.2) :
    Completes (setCommand q valve value σ) q { s with
      settings := putSetting s.settings v value.toNat σ,
      sources := { s.sources with
        sweepTimer := 0,
        sweepRequest := if value.toNat = 0 then none else s.sources.sweepRequest,
        remainder := if value.toNat = 0 then none else s.sources.remainder } } (plain .done) s := by
  subst kind
  refine set_stores executing named free good rfl rfl ?_ (.of_eq rfl rfl) rfl
  have greatest : value.toNat ≤ 1 := greatest
  rcases Nat.le_one_iff_eq_zero_or_eq_one.1 greatest with zero | one
  · simp [setConsequences, sweepEnableSet, putSetting, zero]
  · simp [setConsequences, sweepEnableSet, putSetting, one]

theorem set_referenceOffset (kind : σ = .referenceOffset) :
    let set := putSetting s.settings v value.toNat σ
    let f : Phase := { s.phase with
      lock := .acquiring, correction := 0, spacing := 0, good := 0, hold := 0, prevAccepted := none,
      pendingLoad := false }
    (chainRuns s.phase.lock = false →
      Completes (setCommand q valve value σ) q { s with settings := set } (plain .done) s) ∧
    (chainRuns s.phase.lock = true → s.schedule.swapPending = none →
      Completes (setCommand q valve value σ) q (setNotice .phase { s with settings := set, phase := f }) (plain .done) s) ∧
    (chainRuns s.phase.lock = true → s.schedule.swapPending = some (otherPort q.port) →
      ∃ t, exec (setCommand q valve value σ) s = .next t ∧ Answered q (plain .done) s t ∧
        OwnerAnswered (otherPort q.port) s t ∧ t.settings = set ∧ t.phase = f ∧ NoticeSet .phase t ∧ NoticeSet .swap t ∧
        t.schedule = { pageA := s.stagedPage, pageB := s.stagedPage, live := otherPage s.schedule.live,
                       swapPending := none }) := by
  subst kind
  dsimp only
  refine ⟨fun halted => ?_, fun runs none => ?_, fun runs pending => ?_⟩
  · exact set_stores executing named free good rfl rfl (if_neg (by simp [halted])) (.of_eq rfl rfl) rfl
  · have offset := offsetSet_of_running (s := { s with settings := putSetting s.settings v value.toNat .referenceOffset }) runs
    exact set_stores executing named free good rfl rfl (offset.trans (makePendingSwap_of_none (s := setNotice .phase _) none))
      (.trans (.of_eq rfl rfl) (setNotice_samePorts .phase { s with settings := _, phase := _ })) rfl
  · have offset := offsetSet_of_running (s := { s with settings := putSetting s.settings v value.toNat .referenceOffset }) runs
    have passed := storeClaim_of_passed (v := v) free good (fun h => nomatch h) (fun h => nomatch h)
    have claimed := (setClaim_of_valve named value s).trans (passed.trans (congrArg (Prod.mk · _) offset))
    generalize hw : setNotice .phase _ = w at claimed
    have waiting : w.schedule.swapPending = some (otherPort q.port) := by rw [← hw]; exact pending
    have same : SamePorts s w := by
      rw [← hw]
      exact .trans (.of_eq rfl rfl) (setNotice_samePorts .phase { s with settings := _, phase := _ })
    obtain ⟨other, raised⟩ := makePendingSwap_answers (s := s) waiting (by rw [same])
    have own : ((makePendingSwap w).port q.port).request = (s.port q.port).request := by
      have apart := placeAnswer_other (otherPort q.port) (plain .done) (makeSwap w)
      rw [otherPort_otherPort] at apart
      rw [makePendingSwap_of_pending waiting, apart, makeSwap, setNotice_port]
      exact (congrArg PortUnit.request (same q.port) :)
    have engine : (makePendingSwap w).engine = s.engine := by rw [← hw]; simp
    have phaseSet : NoticeSet .phase (makePendingSwap w) :=
      NoticeSet.stays (s := w) (hw ▸ setNotice_noticeSet .phase _) (makePendingSwap_rises w).flagsStay
    obtain ⟨t, ran, blocks, answered, owner⟩ :=
      conclude_answers_both (claimOf_setCommand q valve value .referenceOffset) executing claimed own engine other
    refine ⟨t, ran, answered, owner, ?_, ?_, blocks.noticeSet phaseSet, blocks.noticeSet raised, ?_⟩
    · refine (congrArg Blocks.settings blocks.1).trans ?_
      show (makePendingSwap w).settings = _
      rw [← hw]
      simp
    · refine (congrArg Blocks.phase blocks.1).trans ?_
      show (makePendingSwap w).phase = _
      rw [← hw]
      simp
    · refine (congrArg Blocks.schedule blocks.1).trans ?_
      show (makePendingSwap w).schedule = _
      rw [makePendingSwap_schedule, if_pos (by rw [waiting]; rfl), ← hw]
      exact swapPages_eq s

end

/-- Settles O44: the checks, the groups of settings, the store entry by entry, and the table of R164. -/
theorem setChecksAndStores : Obligations.SetChecksAndStores := by
  unfold Obligations.SetChecksAndStores
  intro σ q valve value s
  dsimp only
  intro executing
  refine ⟨fun held none => ?_, fun v named => ⟨fun fixed moving => ?_, fun free => ⟨fun bad => ?_,
    fun least greatest low high standard long => ?_⟩⟩, fun v w τ => getSetting_putSetting s.settings v w _ σ τ, ?_, ?_, ?_⟩
  · exact refuses_of_claimOf (claimOf_setCommand q valve value σ) executing (setClaim_of_noValve held none value s)
  · exact set_refuses executing named (setRefusal_of_state fixed moving)
  · refine set_refuses executing named (setRefusal_of_badValue free (Bool.eq_false_iff.2 fun good => ?_))
    obtain ⟨least, greatest, low, high, standard, long⟩ := (valueOk_iff _ _ _).1 good
    obtain h | h | ⟨h, k⟩ | ⟨h, k⟩ | ⟨h, k⟩ | ⟨h, k⟩ := bad
    · omega
    · omega
    · exact Nat.not_lt.2 k (low h)
    · exact Nat.not_lt.2 k (high h)
    · exact Nat.not_lt.2 (standard h) k
    · exact Nat.not_lt.2 (long h) k
  · have good := (valueOk_iff s.settings σ value.toNat).2 ⟨least, greatest, low, high, standard, long⟩
    refine ⟨set_alphaLimit executing named free good, set_spreadSetting executing named free good,
      set_gradeSetting executing named free good, fun kind => set_sweepEnable executing named free good kind least greatest,
      set_referenceOffset executing named free good, fun h1 h2 h3 h4 h5 h6 h7 h8 h9 => ?_⟩
    have alpha : isAlphaLimit σ = false := by
      unfold isAlphaLimit
      split
      · exact absurd rfl h1
      · exact absurd rfl h2
      · rfl
    have spread : isSpreadSetting σ = false := by
      unfold isSpreadSetting
      split
      · exact absurd rfl h3
      · exact absurd rfl h4
      · exact absurd rfl h5
      · rfl
    refine set_stores executing named free good alpha spread ?_ (.of_eq rfl rfl) rfl
    unfold setConsequences
    split
    · exact absurd rfl h6
    · exact absurd rfl h7
    · exact absurd rfl h3
    · exact absurd rfl h4
    · exact absurd rfl h8
    · exact absurd rfl h9
    · exact absurd rfl h1
    · exact absurd rfl h2
    · rfl
  · have rows : ∀ r ∈ settingRows, settingOf? r.code = some r.setting ∧ r.setting.code = r.code ∧
        r.setting.range = (r.least, r.greatest) ∧ r.setting.default = r.default ∧ r.setting.perValve = r.perValve ∧
        r.setting.anyTime = r.anyTime := by decide
    intro r member
    obtain ⟨found, code, range, default, perValve, anyTime⟩ := rows r member
    exact ⟨found, code, range, default, perValve, anyTime, fun v => (reset_setting v r.setting).trans default⟩
  · intro τ
    cases τ <;> decide
  · decide

end Sys2Proof.Machine

/-! The bytes of the images of the lookups (R17, R35, R118, R157, R166, R169). -/

namespace Sys2Proof.Machine

/-! ### Numbers and vectors as bytes -/

theorem bytes16_eq (w : Word16) : bytes16 w = [BitVec.ofNat 8 (w.toNat / 256), BitVec.ofNat 8 w.toNat] := by
  have high : w.extractLsb' 8 8 = BitVec.ofNat 8 (w.toNat / 256) := by
    refine BitVec.eq_of_toNat_eq ?_
    simp only [BitVec.extractLsb'_toNat, BitVec.toNat_ofNat, Nat.shiftRight_eq_div_pow]
  have low : w.extractLsb' 0 8 = BitVec.ofNat 8 w.toNat := by
    refine BitVec.eq_of_toNat_eq ?_
    simp only [BitVec.extractLsb'_toNat, BitVec.toNat_ofNat, Nat.shiftRight_eq_div_pow]
    omega
  rw [bytes16, high, low]

theorem nat16_eq (n : Nat) : nat16 n = [BitVec.ofNat 8 (n / 256), BitVec.ofNat 8 n] := by
  have high : BitVec.ofNat 8 ((BitVec.ofNat 16 n).toNat / 256) = BitVec.ofNat 8 (n / 256) := by
    refine BitVec.eq_of_toNat_eq ?_
    simp only [BitVec.toNat_ofNat]
    omega
  have low : BitVec.ofNat 8 (BitVec.ofNat 16 n).toNat = BitVec.ofNat 8 n := by
    refine BitVec.eq_of_toNat_eq ?_
    simp only [BitVec.toNat_ofNat]
    omega
  rw [nat16, bytes16_eq, high, low]

theorem ofInt_eq (w : Nat) (i : Int) : BitVec.ofInt w i = BitVec.ofNat w (i % (2 ^ w : Nat)).toNat := by
  refine BitVec.eq_of_toNat_eq ?_
  have small : (i % (2 ^ w : Nat)).toNat < 2 ^ w := by
    have := Int.emod_lt_of_pos i (b := (2 ^ w : Nat)) (by positivity)
    have := Int.emod_nonneg i (b := (2 ^ w : Nat)) (by positivity)
    omega
  rw [BitVec.toNat_ofInt, BitVec.toNat_ofNat, Nat.mod_eq_of_lt small]

theorem signed16_eq (i : Int) : signed16 i = nat16 (i % 65536).toNat := by
  rw [signed16, ofInt_eq]
  rfl

theorem numbers_in_bytes (n : Nat) (i : Int) (w : Word16) : byte n = BitVec.ofNat 8 n ∧
    nat16 n = [BitVec.ofNat 8 (n / 256), BitVec.ofNat 8 n] ∧
    bytes32 n = [BitVec.ofNat 8 (n / 16777216), BitVec.ofNat 8 (n / 65536), BitVec.ofNat 8 (n / 256), BitVec.ofNat 8 n] ∧
    bytes16 w = [BitVec.ofNat 8 (w.toNat / 256), BitVec.ofNat 8 w.toNat] ∧ signed16 i = nat16 (i % 65536).toNat :=
  ⟨rfl, nat16_eq n, rfl, bytes16_eq w, signed16_eq i⟩

theorem toList_eq_ofFn {α : Type} {n : Nat} (xs : Vector α n) : xs.toList = List.ofFn fun i : Fin n => xs[i] := by
  refine List.ext_getElem (by simp) fun i hi hj => ?_
  simp

/-- The twelve entries of a vector, valve by valve. -/
theorem toList_eq_map {α : Type} (xs : Vector α 12) : xs.toList = allValves.map fun v => xs[v] := by
  rw [toList_eq_ofFn]
  rfl

/-! ### Level records (R17) -/

theorem presenceByte_eq (r : LevelRecord) : presenceByte r =
    0#3 ++ BitVec.ofBool r.retireReason.isSome ++ BitVec.ofBool r.cause.isSome ++ BitVec.ofBool r.lastCycle.isSome
      ++ BitVec.ofBool r.mean.isSome ++ BitVec.ofBool r.unitTag.isSome := by
  unfold presenceByte
  generalize r.retireReason.isSome = a, r.cause.isSome = b, r.lastCycle.isSome = c, r.mean.isSome = d,
    r.unitTag.isSome = e
  revert a b c d e
  decide

theorem levelImage_eq (v : Valve) (p : Position) (r : LevelRecord) :
    let tag : Word24 := r.unitTag.getD 0
    levelImage v p r =
      [byte (v.val + 1), byte (p.val + 1), lifeCode r.life] ++ bytes16 r.revision
      ++ [0#3 ++ BitVec.ofBool r.retireReason.isSome ++ BitVec.ofBool r.cause.isSome ++ BitVec.ofBool r.lastCycle.isSome
            ++ BitVec.ofBool r.mean.isSome ++ BitVec.ofBool r.unitTag.isSome,
          tag.extractLsb' 16 8, tag.extractLsb' 8 8, tag.extractLsb' 0 8,
          emitClassCode r.emitClass, byte (16 * r.pfRun + r.missRun), byte r.pfTotal, byte r.progress, r.mean.getD 0]
      ++ bytes16 (r.lastCycle.getD 0)
      ++ [(r.cause.map causeCode).getD 0,
          byte (32 * r.window.length + ((r.retireReason.map retireReasonCode).getD 0).toNat)]
      ++ r.window := by
  simp only [levelImage, presenceByte_eq, optional24, bytes24, optional16, valveByte, valveNumber, positionNumber,
    Nat.mul_comm r.pfRun, Nat.mul_comm r.window.length, Nat.add_comm (((r.retireReason.map retireReasonCode).getD 0).toNat),
    List.append_assoc, List.cons_append, List.nil_append]

/-! ### Valves and pages (R35, R118) -/

theorem valveImage_eq (v : Valve) (s : State) :
    let y := s.tally v
    valveImage v s = [v.val + 1, y.counts[0], y.counts[1], y.counts[2], y.counts[3], y.counts[4], y.counts[5], y.counts[6],
        y.sound, y.failed, y.top, y.bankEmitting[0], y.bankEmitting[1], y.bankEmitting[2], y.bankEmitting[3],
        y.bankLong[0], y.bankLong[1], y.bankLong[2], y.bankLong[3], y.spread].map byte
      ++ [gradeCode y.grade, byte s.settings.minimumSound[v], byte s.settings.reserve[v], byte s.sources.skip[v],
        byte (s.lane v).drops] := by
  simp only [valveImage, toList_eq_ofFn]
  rfl

/-- The number of eight flags. -/
def flagsNumber (a b c d e f g h : Bool) : Nat :=
  a.toNat + 2 * b.toNat + 4 * c.toNat + 8 * d.toNat + 16 * e.toNat + 32 * f.toNat + 64 * g.toNat + 128 * h.toNat

theorem flagsNumber_byte : ∀ a b c d e f g h : Bool, BitVec.ofNat 8 (flagsNumber a b c d e f g h) =
    BitVec.ofBool h ++ BitVec.ofBool g ++ BitVec.ofBool f ++ BitVec.ofBool e ++ BitVec.ofBool d ++ BitVec.ofBool c ++
      BitVec.ofBool b ++ BitVec.ofBool a := by decide

theorem flagsNumber_halfByte : ∀ a b c d : Bool, BitVec.ofNat 8 (flagsNumber a b c d false false false false) =
    0#4 ++ BitVec.ofBool d ++ BitVec.ofBool c ++ BitVec.ofBool b ++ BitVec.ofBool a := by decide

theorem flagsNumber_lt : ∀ a b c d e f g h : Bool, flagsNumber a b c d e f g h < 256 := by decide

/-- Twelve flags in two bytes, the first at bit 0. -/
theorem pairBits_bytes (pairs : Vector Bool 12) : bytes16 (pairBits pairs) =
    [0#4 ++ BitVec.ofBool pairs[(11 : Valve)] ++ BitVec.ofBool pairs[(10 : Valve)] ++ BitVec.ofBool pairs[(9 : Valve)]
        ++ BitVec.ofBool pairs[(8 : Valve)],
      BitVec.ofBool pairs[(7 : Valve)] ++ BitVec.ofBool pairs[(6 : Valve)] ++ BitVec.ofBool pairs[(5 : Valve)]
        ++ BitVec.ofBool pairs[(4 : Valve)] ++ BitVec.ofBool pairs[(3 : Valve)] ++ BitVec.ofBool pairs[(2 : Valve)]
        ++ BitVec.ofBool pairs[(1 : Valve)] ++ BitVec.ofBool pairs[(0 : Valve)]] := by
  have scaled (b : Bool) (n : Nat) : (if b then n else 0) = n * b.toNat := by cases b <;> simp
  have total : (allValves.map fun v => if pairs[v] then 2 ^ v.val else 0).sum =
      flagsNumber pairs[(0 : Valve)] pairs[(1 : Valve)] pairs[(2 : Valve)] pairs[(3 : Valve)] pairs[(4 : Valve)]
        pairs[(5 : Valve)] pairs[(6 : Valve)] pairs[(7 : Valve)] +
      256 * flagsNumber pairs[(8 : Valve)] pairs[(9 : Valve)] pairs[(10 : Valve)] pairs[(11 : Valve)]
        false false false false := by
    simp only [scaled, allValves, List.map_cons, List.map_nil, List.sum_cons, List.sum_nil, flagsNumber]
    simp
    ring
  have parts (low high : Nat) (hl : low < 256) (hh : high < 256) :
      bytes16 (BitVec.ofNat 16 (low + 256 * high)) = [BitVec.ofNat 8 high, BitVec.ofNat 8 low] := by
    have same : (BitVec.ofNat 16 (low + 256 * high)).toNat = low + 256 * high := by
      rw [BitVec.toNat_ofNat]
      omega
    rw [bytes16_eq, same]
    refine congrArg₂ (fun a b => [a, b]) ?_ ?_ <;> refine BitVec.eq_of_toNat_eq ?_ <;>
      simp only [BitVec.toNat_ofNat] <;> omega
  rw [pairBits, total, parts _ _ (flagsNumber_lt ..) (flagsNumber_lt ..), flagsNumber_halfByte, flagsNumber_byte]

theorem pageImage_eq (x : PageName) (g : Page) (h : Schedule) :
    let pair (k : Valve) := BitVec.ofBool g.pairs[k]
    pageImage x g h = [pageCode x, flagByte g.valid] ++ nat16 g.alpha ++ [roleCode g.role, byte (g.leg.val + 1)]
      ++ allValves.map (fun v => byte (g.trims[v] % 256).toNat)
      ++ [0#4 ++ pair 11 ++ pair 10 ++ pair 9 ++ pair 8,
          pair 7 ++ pair 6 ++ pair 5 ++ pair 4 ++ pair 3 ++ pair 2 ++ pair 1 ++ pair 0,
          pageCode h.live, flagByte h.swapPending.isSome] := by
  have trims : g.trims.toList.map (BitVec.ofInt 8) = allValves.map fun v => byte (g.trims[v] % 256).toNat := by
    rw [toList_eq_map, List.map_map]
    exact List.map_congr_left fun v _ => ofInt_eq 8 _
  dsimp only
  rw [pageImage, trims, pairBits_bytes]
  simp only [List.append_assoc, List.cons_append, List.nil_append]

/-! ### The parts of the converter's image (R73, R88, R106, R138, R149, R157) -/

theorem sequencerPart_eq (s : State) :
    let q := s.seq
    sequencerPart s = [convCode q.conv] ++ (match q.exitTarget with | some e => [1, exitCode e] | none => [0, 0])
        ++ [flagByte q.tripLatch]
        ++ (match q.tripCause with
            | some (.valveUnfit v) => [1, 0, byte (v.val + 1)]
            | some (.commutation v) => [1, 1, byte (v.val + 1)]
            | none => [0, 0, 0])
        ++ [byte q.attempts] ++ nat16 q.ramp
        ++ (match effectiveBase s with | some a => 1 :: nat16 a | none => [0, 0, 0])
        ++ [byte q.cfHold, byte q.cfRun] ++ (match q.lastFailure with | some v => [1, byte (v.val + 1)] | none => [0, 0])
        ++ [byte q.retardCount, byte q.deionCount, byte q.bypassCount, byte q.recovery]
        ++ allValves.map (fun v => windowCode q.windows[v])
        ++ [byte (unfitCount s), flagByte s.lines.block, flagByte s.lines.linefault, flagByte q.tripLatch] := by
  have windows : s.seq.windows.toList.map windowCode = allValves.map fun v => windowCode s.seq.windows[v] := by
    rw [toList_eq_map, List.map_map]
    rfl
  have target : optionalItem 1 (fun x => [exitCode x]) s.seq.exitTarget =
      match s.seq.exitTarget with | some e => [1, exitCode e] | none => [0, 0] := by
    cases s.seq.exitTarget <;> rfl
  have cause : optionalItem 2 tripCauseBytes s.seq.tripCause = match s.seq.tripCause with
      | some (.valveUnfit v) => [1, 0, byte (v.val + 1)]
      | some (.commutation v) => [1, 1, byte (v.val + 1)]
      | none => [0, 0, 0] := by
    rcases s.seq.tripCause with _ | v | v <;> rfl
  have base : optionalItem 2 nat16 (effectiveBase s) =
      match effectiveBase s with | some a => 1 :: nat16 a | none => [0, 0, 0] := by
    cases effectiveBase s <;> rfl
  have failure : optionalItem 1 (fun v => [valveByte v]) s.seq.lastFailure =
      match s.seq.lastFailure with | some v => [1, byte (v.val + 1)] | none => [0, 0] := by
    cases s.seq.lastFailure <;> rfl
  dsimp only
  rw [sequencerPart, windows, target, cause, base, failure]
  rfl

theorem phasePart_eq (f : Phase) : phasePart f =
    [lockCode f.lock] ++ nat16 f.phase ++ [flagByte (chainRuns f.lock)] ++ bytes16 f.cycle
      ++ bytes32 (f.saved.getD 0) ++ bytes32 (f.loaded.getD 0) ++ [flagByte f.pendingLoad]
      ++ bytes32 (f.prevAccepted.getD 0) ++ (match f.lastError with | some e => 1 :: signed16 e | none => [0, 0, 0])
      ++ signed16 f.correction ++ [byte f.good, byte f.hold] := by
  have error : optionalItem 2 signed16 f.lastError =
      match f.lastError with | some e => 1 :: signed16 e | none => [0, 0, 0] := by
    cases f.lastError <;> rfl
  rw [phasePart, error]

theorem linkPart_eq (l : Link) : linkPart l =
    [linkCode l.state, flagByte l.holdPending.isSome, flagByte l.cutPending]
      ++ (match l.poll with
          | some p => [1, sourceCode p.source, kindCode p.kind, byte (p.valve.val + 1), byte p.next, byte p.last,
                       flagByte p.superseded]
          | none => [0, 0, 0, 0, 0, 0, 0])
      ++ [byte l.failures, flagByte l.down, byte l.timeouts, byte l.mismatches, byte l.overruns]
      ++ allValves.map (fun v => flagByte l.vmuFault[v]) := by
  have faults : l.vmuFault.toList.map flagByte = allValves.map fun v => flagByte l.vmuFault[v] := by
    rw [toList_eq_map, List.map_map]
    rfl
  have poll : optionalItem 6 pollBytes l.poll = match l.poll with
      | some p => [1, sourceCode p.source, kindCode p.kind, byte (p.valve.val + 1), byte p.next, byte p.last,
                   flagByte p.superseded]
      | none => [0, 0, 0, 0, 0, 0, 0] := by
    cases l.poll <;> rfl
  rw [linkPart, faults, poll]

theorem sourcesPart_eq (x : Sources) : sourcesPart x =
    [byte x.cycleQueue.length] ++ x.cycleQueue.map (fun v => byte (v.val + 1))
      ++ [byte x.directed.length]
      ++ x.directed.flatMap (fun e => [byte (e.valve.val + 1), byte e.first, byte e.count, originCode e.origin,
                                       flagByte e.inProgress])
      ++ [byte (x.cursor.val + 1), byte x.sweepTimer]
      ++ (match x.sweepRequest with | some v => [1, byte (v.val + 1)] | none => [0, 0])
      ++ [flagByte x.sweepInProgress]
      ++ (match x.remainder with | some (v, n) => [1, byte (v.val + 1), byte n] | none => [0, 0, 0]) := by
  have request : optionalItem 1 (fun v => [valveByte v]) x.sweepRequest =
      match x.sweepRequest with | some v => [1, byte (v.val + 1)] | none => [0, 0] := by
    cases x.sweepRequest <;> rfl
  have remainder : optionalItem 2 (fun x => [valveByte x.1, byte x.2]) x.remainder =
      match x.remainder with | some (v, n) => [1, byte (v.val + 1), byte n] | none => [0, 0, 0] := by
    rcases x.remainder with _ | ⟨v, n⟩ <;> rfl
  rw [sourcesPart, request, remainder]
  rfl

theorem lanesPart_eq (s : State) : lanesPart s.lanes =
    allValves.map (fun v => laneCode (s.lane v).state)
      ++ allValves.flatMap (fun v => match (s.lane v).bank with | some b => [1, byte (b.val + 1)] | none => [0, 0]) := by
  have bank (v : Valve) : optionalItem 1 (fun b => [byte (b.val + 1)]) s.lanes[v].bank =
      match (s.lane v).bank with | some b => [1, byte (b.val + 1)] | none => [0, 0] := by
    rw [State.lane]
    cases s.lanes[v].bank <;> rfl
  rw [lanesPart, toList_eq_map, List.map_map, List.flatMap_map]
  exact congrArg _ (List.flatMap_congr fun v _ => bank v)

/-- A part opens with its code and the length of its fields. -/
theorem converterPart_eq (k : Fin 6) (s : State) : converterPart k s =
    byte (k.val + 1) :: byte (partFields k s).length :: partFields k s := rfl

/-- The image is the six parts in their order. -/
theorem converterImage_eq (b : ImageBuild) : converterImage b =
    b.parts[0].getD [] ++ b.parts[1].getD [] ++ b.parts[2].getD [] ++ b.parts[3].getD [] ++ b.parts[4].getD []
      ++ b.parts[5].getD [] := by
  simp [converterImage, allParts]

/-! ### Lengths -/

@[simp] theorem nat16_length (n : Nat) : (nat16 n).length = 2 := rfl

@[simp] theorem bytes16_length (w : Word16) : (bytes16 w).length = 2 := rfl

@[simp] theorem bytes32_length (n : Nat) : (bytes32 n).length = 4 := rfl

@[simp] theorem signed16_length (i : Int) : (signed16 i).length = 2 := rfl

theorem optionalItem_length {α : Type} {size : Nat} {bytes : α → List Byte} (whole : ∀ a, (bytes a).length = size)
    (x : Option α) : (optionalItem size bytes x).length = size + 1 := by
  cases x <;> simp [optionalItem, whole]

theorem levelImage_length (v : Valve) (p : Position) (r : LevelRecord) :
    (levelImage v p r).length = 18 + r.window.length := by
  simp [levelImage, optional24, bytes24, optional16]
  omega

theorem valveImage_length (v : Valve) (s : State) : (valveImage v s).length = 25 := by
  simp [valveImage]

theorem pageImage_length (x : PageName) (g : Page) (h : Schedule) : (pageImage x g h).length = 22 := by
  simp [pageImage]

theorem sequencerPart_length (s : State) : (sequencerPart s).length = 37 := by
  have cause (c : TripCause) : (tripCauseBytes c).length = 2 := by cases c <;> rfl
  simp [sequencerPart, optionalItem_length, optionalItem_length nat16_length, cause]

theorem phasePart_length (f : Phase) : (phasePart f).length = 26 := by
  simp [phasePart, optionalItem_length signed16_length]

theorem linkPart_length (l : Link) : (linkPart l).length = 27 := by
  simp [linkPart, optionalItem_length, pollBytes]

theorem sourcesPart_length (x : Sources) :
    (sourcesPart x).length = 10 + x.cycleQueue.length + 5 * x.directed.length := by
  simp [sourcesPart, optionalItem_length, entryBytes, List.length_flatMap]
  omega

theorem lanesPart_length (lanes : Vector Lane 12) : (lanesPart lanes).length = 36 := by
  simp [lanesPart, optionalItem_length, List.length_flatMap]

theorem converterPart_lengths (s : State) : [(0 : Fin 6), 1, 2, 3, 4, 5].map (fun k => (converterPart k s).length) =
    [39, 28, 29, 12 + s.sources.cycleQueue.length + 5 * s.sources.directed.length, 38, 9] := by
  simp [converterPart_eq, partFields, sequencerPart_length, phasePart_length, linkPart_length, sourcesPart_length,
    lanesPart_length, portsPart]
  omega

end Sys2Proof.Machine

/-! The lookups (R1, R17, R35, R118, R157, R166). -/

namespace Sys2Proof.Machine

/-! ### Levels (R1, R17) -/

theorem lookLevelReply_of_badKey {valve position : Byte} (bad : valveOf? valve = none ∨ positionOf? position.toNat = none)
    (s : State) : lookLevelReply valve position s = plain .badKey := by
  unfold lookLevelReply
  split
  case h_1 hv hp => rcases bad with h | h <;> simp_all
  case h_2 => rfl

theorem lookLevelReply_of_key {valve position : Byte} {v : Valve} {p : Position} (hv : valveOf? valve = some v)
    (hp : positionOf? position.toNat = some p) (s : State) :
    lookLevelReply valve position s = image (levelImage v p (s.record v p)) := by
  rw [lookLevelReply, hv, hp]

theorem lookLevelsReply_of_badCount {count : Byte} (bad : count.toNat = 0 ∨ 8 < count.toNat) (valve first : Byte)
    (s : State) : lookLevelsReply valve first count s = plain .badValue := by
  have refused : (count.toNat < 1 || 8 < count.toNat) = true := by
    simp only [Bool.or_eq_true, decide_eq_true_eq]
    omega
  rw [lookLevelsReply, if_pos refused]

theorem countInRange {count : Byte} (least : 1 ≤ count.toNat) (greatest : count.toNat ≤ 8) :
    ¬ (count.toNat < 1 || 8 < count.toNat) = true := by
  simp only [Bool.or_eq_true, decide_eq_true_eq]
  omega

theorem lookLevelsReply_of_badKey {valve first count : Byte} (least : 1 ≤ count.toNat) (greatest : count.toNat ≤ 8)
    (bad : valveOf? valve = none ∨ first.toNat = 0 ∨ 97 < first.toNat + count.toNat) (s : State) :
    lookLevelsReply valve first count s = plain .badKey := by
  rw [lookLevelsReply, if_neg (countInRange least greatest)]
  split
  case h_1 hv hf hl =>
    have firstBounds := positionOf?_bounds hf
    have lastBounds := positionOf?_bounds hl
    rcases bad with bad | bad
    · exact nomatch bad.symm.trans hv
    · omega
  case h_2 => rfl

/-- Within the string the positions are named by their numbers. -/
theorem positionOf?_eq_ofNat {n : Nat} (least : 1 ≤ n) (greatest : n ≤ 96) :
    positionOf? n = some (Fin.ofNat 96 (n - 1)) := by
  rw [positionOf?, dif_pos ⟨least, greatest⟩]
  refine congrArg some (Fin.ext ?_)
  simp only [Fin.ofNat]
  omega

theorem levelImages_eq {v : Valve} {first n : Nat} (start : 1 ≤ first) (inString : first + n ≤ 97) (s : State) :
    levelImages v first n s = (List.range n).flatMap fun k =>
      levelImage v (Fin.ofNat 96 (first - 1 + k)) (s.record v (Fin.ofNat 96 (first - 1 + k))) := by
  rw [levelImages]
  refine List.flatMap_congr fun k hk => ?_
  have below := List.mem_range.1 hk
  rw [positionOf?_eq_ofNat (by omega) (by omega), Nat.sub_add_comm start]

theorem lookLevelsReply_of_key {valve first count : Byte} {v : Valve} (least : 1 ≤ count.toNat)
    (greatest : count.toNat ≤ 8) (hv : valveOf? valve = some v) (start : 1 ≤ first.toNat)
    (inString : first.toNat + count.toNat ≤ 97) (s : State) :
    lookLevelsReply valve first count s = image (levelImages v first.toNat count.toNat s) := by
  obtain ⟨p, hp⟩ := positionOf?_isSome start (by omega)
  obtain ⟨x, hx⟩ := positionOf?_isSome (n := first.toNat + count.toNat - 1) (by omega) (by omega)
  rw [lookLevelsReply, if_neg (countInRange least greatest), hv, hp, hx]

/-! ### Valves, pages and settings (R35, R118, R166) -/

theorem lookValveReply_of_badKey {valve : Byte} (bad : valveOf? valve = none) (s : State) :
    lookValveReply valve s = plain .badKey := by
  rw [lookValveReply, bad]

theorem lookValveReply_of_key {valve : Byte} {v : Valve} (hv : valveOf? valve = some v) (s : State) :
    lookValveReply valve s = image (valveImage v s) := by
  rw [lookValveReply, hv]

theorem lookPageReply_of_badValue {x : Byte} (bad : 1 < x.toNat) (s : State) : lookPageReply x s = plain .badValue := by
  unfold lookPageReply
  split
  · omega
  · omega
  · rfl

theorem settingOf?_code {code : Byte} {σ : Setting} (named : settingOf? code = some σ) : σ.code = code := by
  have all : ∀ (code : Byte) (σ : Setting), settingOf? code = some σ → σ.code = code := by decide +kernel
  exact all code σ named

theorem lookSettingReply_of_noSetting {code : Byte} (bad : settingOf? code = none) (valve : Byte) (s : State) :
    lookSettingReply code valve s = plain .badKey := by
  rw [lookSettingReply, bad]

theorem lookSettingReply_of_noValve {code valve : Byte} {σ : Setting} (named : settingOf? code = some σ)
    (keyed : σ.perValve = true) (bad : valveOf? valve = none) (s : State) :
    lookSettingReply code valve s = plain .badKey := by
  simp only [lookSettingReply, named, keyed, bad]

theorem lookSettingReply_of_setting {code valve : Byte} {σ : Setting} {v : Valve} (named : settingOf? code = some σ)
    (hv : σ.perValve = true → valveOf? valve = some v) (s : State) :
    lookSettingReply code valve s = image ([code, if σ.perValve then valveByte v else 0]
      ++ nat16 (getSetting s.settings v σ) ++ nat16 σ.range.1 ++ nat16 σ.range.2 ++ nat16 σ.default) := by
  simp only [lookSettingReply, named]
  cases keyed : σ.perValve
  case true =>
    rw [hv keyed]
    simp only [settingImage, keyed, settingOf?_code named, Option.getD_some]
  case false =>
    generalize valveOf? valve = x
    simp only [settingImage, keyed, settingOf?_code named, getSetting_valve keyed s.settings v (x.getD 0)]
    rfl

/-! ### The converter's image (R157) -/

theorem exec_lookConverter {q : Sender} {s : State} (executing : Executing (.lookConverter q) q s) :
    exec (.lookConverter q) s = .next (lookConverterMoment q.port s) := by
  have row : requestOf (.lookConverter q) = some (q, 0x13, []) := rfl
  exact (show exec (.lookConverter q) s = powered (serve (.lookConverter q) (lookConverterMoment q.port)) s from rfl).trans
    (by simp [powered, executing.1, serve, row, executing.2])

/-- A part is taken: one of the missing ones, with a free value where several are missing. -/
theorem takePart_of_missing {s : State} {j : Fin 6} (missing : s.building.parts[j] = none) :
    ∃ k : Fin 6, s.building.parts[k] = none ∧ ∃ n, takePart s = { s with
        building := { parts := put s.building.parts k (some (converterPart k s)), taken := true }, freeCount := n } ∧
      ((∃ i : Fin 6, (put s.building.parts k (some (converterPart k s)))[i] = none) → n = s.freeCount + 1) := by
  have several := List.ne_nil_of_mem (mem_missingParts.2 missing)
  obtain ⟨x, xs, found⟩ := List.exists_cons_of_ne_nil several
  obtain ⟨k, among, made⟩ := takePart_eq found
  refine ⟨k, mem_missingParts.1 (found ▸ among), _, made, fun ⟨i, still⟩ => ?_⟩
  have left : i ∈ missingParts { parts := put s.building.parts k (some (converterPart k s)), taken := true } :=
    mem_missingParts.2 still
  refine if_neg fun alone => ?_
  rw [missingParts_put, found, alone] at left
  rw [alone] at among
  simp_all

theorem missingParts_eq_nil {b : ImageBuild} (whole : ∀ j : Fin 6, b.parts[j] ≠ none) : missingParts b = [] :=
  List.eq_nil_iff_forall_not_mem.2 fun j among => whole j (mem_missingParts.1 among)

theorem lookConverterMoment_of_left {s : State} {j : Fin 6} (p : Port) (untaken : s.building.taken = false)
    (left : (takePart s).building.parts[j] = none) : lookConverterMoment p s = takePart s := by
  have several := List.ne_nil_of_mem (mem_missingParts.2 left)
  obtain ⟨x, xs, found⟩ := List.exists_cons_of_ne_nil several
  rw [lookConverterMoment, if_neg (by simp [untaken])]
  dsimp only
  rw [found]

theorem lookConverterMoment_of_whole {s : State} (p : Port) (untaken : s.building.taken = false)
    (whole : ∀ j : Fin 6, (takePart s).building.parts[j] ≠ none) : lookConverterMoment p s =
      conclude p ({ takePart s with building := ImageBuild.empty }, some (image (converterImage (takePart s).building))) := by
  rw [lookConverterMoment, if_neg (by simp [untaken])]
  dsimp only
  rw [missingParts_eq_nil whole]

/-- A moment of LOOK CONVERTER: nothing where a part was taken already, a part and no answer while others are missing,
and the answer with the last one. -/
theorem lookConverter_moment {q : Sender} {s : State} (executing : Executing (.lookConverter q) q s) :
    (s.building.taken = true → exec (.lookConverter q) s = .next s) ∧
    (s.building.taken = false → (∃ j : Fin 6, s.building.parts[j] = none) →
      ∃ k : Fin 6, s.building.parts[k] = none ∧
        let parts := put s.building.parts k (some (converterPart k s))
        ((∃ j : Fin 6, parts[j] = none) → exec (.lookConverter q) s =
          .next { s with building := { parts := parts, taken := true }, freeCount := s.freeCount + 1 }) ∧
        ((∀ j : Fin 6, parts[j] ≠ none) → Completes (.lookConverter q) q
          { s with building := { parts := Vector.replicate 6 none, taken := false } }
          (image (converterImage { parts := parts, taken := true })) s)) := by
  have run := exec_lookConverter executing
  refine ⟨fun taken => by rw [run, lookConverterMoment_of_taken taken], fun untaken ⟨j, missing⟩ => ?_⟩
  obtain ⟨k, wasMissing, n, made, counted⟩ := takePart_of_missing missing
  refine ⟨k, wasMissing, fun ⟨i, left⟩ => ?_, fun whole => ?_⟩
  · have moment := lookConverterMoment_of_left q.port untaken (j := i) (by rw [made]; exact left)
    rw [run, moment, made, counted ⟨i, left⟩]
  · have moment := lookConverterMoment_of_whole q.port untaken (by rw [made]; exact whole)
    rw [made] at moment
    obtain ⟨f, held, tagged, -, -, running⟩ := executing.slot rfl
    generalize image (converterImage _) = r at moment ⊢
    have slots (y : Port) : ({ s with building := ImageBuild.empty, freeCount := n } : State).port y = s.port y :=
      State.port_congr rfl rfl y
    obtain ⟨⟨blocks, restA, restB⟩, answered, free⟩ :=
      conclude_answers (u := { s with building := ImageBuild.empty, freeCount := n }) (r := r) held tagged
        (by rw [slots]) (by rw [running])
    have answeredBy := run.trans (congrArg Host.Outcome.next moment)
    refine ⟨_, answeredBy, ⟨blocks, restA, restB⟩, answered, fun alone => ?_⟩
    have quiet : waits (otherPort q.port) ({ s with building := ImageBuild.empty, freeCount := n } : State) = false := by
      simpa only [waits, slots] using alone
    exact free quiet

/-! ### The obligation -/

/-- Settles O45: the lookups are claims that answer and change nothing, LOOK CONVERTER by its moments, and the images are
their fields one by one. -/
theorem lookupsAnswerTheirImages : Obligations.LookupsAnswerTheirImages := by
  unfold Obligations.LookupsAnswerTheirImages
  refine ⟨fun q valve position s executing => ⟨fun bad => ?_, fun v p hv hp => ?_⟩,
    fun q valve first count s executing => ⟨fun bad => ?_, fun least greatest => ⟨fun bad => ?_, fun v hv start fits => ?_⟩⟩,
    fun q valve s executing => ⟨fun bad => ?_, fun v hv => ?_⟩, fun q s => lookConverter_moment, converterImage_eq,
    fun q x s executing => ⟨fun live => ?_, fun staged => ?_, fun bad => ?_⟩,
    fun q code valve s executing => ⟨fun bad => ?_, fun σ named => ⟨fun keyed bad => ?_, fun v hv => ?_⟩⟩,
    fun v p s u x σ => ⟨levelImage_length .., valveImage_length .., pageImage_length .., rfl, rfl, converterPart_lengths s⟩,
    by decide, numbers_in_bytes, levelImage_eq, valveImage_eq, pageImage_eq, fun s => ⟨?_, ?_, ?_, ?_, ?_, ?_⟩⟩
  · exact refuses_of_claimOf rfl executing (by rw [readOnly, lookLevelReply_of_badKey bad])
  · exact refuses_of_claimOf rfl executing (by rw [readOnly, lookLevelReply_of_key hv hp])
  · exact refuses_of_claimOf rfl executing (by rw [readOnly, lookLevelsReply_of_badCount bad])
  · exact refuses_of_claimOf rfl executing (by rw [readOnly, lookLevelsReply_of_badKey least greatest bad])
  · refine ⟨_, refuses_of_claimOf rfl executing ?_, levelImages_eq start fits s⟩
    rw [readOnly, lookLevelsReply_of_key least greatest hv start fits]
  · exact refuses_of_claimOf rfl executing (by rw [readOnly, lookValveReply_of_badKey bad])
  · exact refuses_of_claimOf rfl executing (by rw [readOnly, lookValveReply_of_key hv])
  · exact refuses_of_claimOf rfl executing (by rw [live]; rfl)
  · exact refuses_of_claimOf rfl executing (by rw [staged]; rfl)
  · exact refuses_of_claimOf rfl executing (by rw [readOnly, lookPageReply_of_badValue bad])
  · exact refuses_of_claimOf rfl executing (by rw [readOnly, lookSettingReply_of_noSetting bad])
  · exact refuses_of_claimOf rfl executing (by rw [readOnly, lookSettingReply_of_noValve named keyed bad])
  · exact refuses_of_claimOf rfl executing (by rw [readOnly, lookSettingReply_of_setting named hv])
  · exact (converterPart_eq 0 s).trans (by rw [partFields, sequencerPart_eq] <;> rfl)
  · exact (converterPart_eq 1 s).trans (by rw [partFields, phasePart_eq] <;> rfl)
  · exact (converterPart_eq 2 s).trans (by rw [partFields, linkPart_eq] <;> rfl)
  · exact (converterPart_eq 3 s).trans (by rw [partFields, sourcesPart_eq] <;> rfl)
  · exact (converterPart_eq 4 s).trans (by rw [partFields, lanesPart_eq] <;> rfl)
  · rfl

end Sys2Proof.Machine

/-! Transfers: the status byte, the answer frame, and what a transfer's end does by the state found at its start (R151,
R152, R168). -/

namespace Sys2Proof.Machine

/-! ### Bytes -/

theorem answerBytes_length (a : Answer) : (answerBytes a).length = 5 + a.payload.length := by
  simp [answerBytes]
  omega

theorem statusByte_eq (p : Port) (s : State) : statusByte p s = 0#3 ++ BitVec.ofBool (noticeLine (s.port p)) ++
    BitVec.ofBool (decide (s.lines.authSel = p)) ++ BitVec.ofBool (s.port p).refused ++
    (match (s.port p).state with | .idle => 0#2 | .working => 1#2 | .answered => 2#2) := by
  have flags : ∀ (n : Fin 3) (r a l : Bool),
      byte (n.val + (if r then 4 else 0) + (if a then 8 else 0) + (if l then 16 else 0)) =
        0#3 ++ BitVec.ofBool l ++ BitVec.ofBool a ++ BitVec.ofBool r ++ BitVec.ofNat 2 n.val := by decide
  have authority : (if s.lines.authSel = p then 8 else 0) = if decide (s.lines.authSel = p) then 8 else 0 := by simp
  rw [statusByte, authority]
  cases (s.port p).state
  · exact flags 0 ..
  · exact flags 1 ..
  · exact flags 2 ..

/-- A transfer of as many bytes as status and answer shifts out both, and fillers after them. -/
theorem shifted_of_whole {x : Transfer} {a : Answer} (found : x.answer = some a) (n : Nat) :
    shifted x (1 + (answerBytes a).length + n) = x.status :: (answerBytes a ++ List.replicate n 0) := by
  have fill : 1 + (answerBytes a).length + n - (x.status :: answerBytes a).length = n := by simp; omega
  simp only [shifted, found, fill]
  refine List.take_of_length_le ?_
  simp

/-- A frame has a first byte that is not 00h. -/
theorem frameOfBytes_eq_none {sent : List Byte} (empty : sent = [] ∨ sent.head? = some 0) : frameOfBytes sent = none := by
  cases sent with
  | nil => rfl
  | cons kind rest =>
    have zero : kind = 0 := by simpa using empty
    rw [frameOfBytes, if_pos zero]

/-! ### The end of a transfer -/

@[simp] theorem setPort_setPort (s : State) (p : Port) (u w : PortUnit) :
    (s.setPort p u).setPort p w = s.setPort p w := by
  cases p <;> rfl

theorem exec_transfer {s : State} (high : s.lines.porLow = false) (p : Port) (part : TransferPart) :
    exec (.transfer p part) s = .next (transferEvent p part s) := by
  refine (show exec (.transfer p part) s = powered (transferEvent p part) s from rfl).trans ?_
  simp [powered, high]

theorem startTransfer_of_free {p : Port} {s : State} (free : (s.port p).transfer = none) :
    startTransfer p s = s.setPort p { s.port p with
      transfer := some { status := statusByte p s, found := (s.port p).state, answer := (s.port p).answer,
                         discard := false } } := by
  simp only [startTransfer, free]

theorem transferEvent_whole {p : Port} {s : State} (free : (s.port p).transfer = none) (sent : List Byte) :
    transferEvent p (.whole sent) s = endTransfer p sent (startTransfer p s) := by
  simp [transferEvent, free]

/-- The port once its chip select is released after `n` bytes. -/
def released (x : Transfer) (n : Nat) (u : PortUnit) : PortUnit := { u with transfer := none, shiftedOut := shifted x n }

section
variable {p : Port} {x : Transfer} {s : State} (running : (s.port p).transfer = some x) (sent : List Byte)
include running

theorem endTransfer_of_discard (discarded : x.discard = true) :
    endTransfer p sent s = s.setPort p (released x sent.length (s.port p)) := by
  simp [endTransfer, running, discarded, released]

/-- What was sent holds no frame, and the port was not found ANSWERED. -/
theorem endTransfer_of_noFrame (kept : x.discard = false) (noFrame : frameOfBytes sent = none)
    (found : x.found ≠ .answered) : endTransfer p sent s = s.setPort p (released x sent.length (s.port p)) := by
  cases h : x.found
  case answered => exact absurd h found
  all_goals simp [endTransfer, running, kept, noFrame, h, released]

theorem endTransfer_of_answer {a : Answer} (kept : x.discard = false) (noFrame : frameOfBytes sent = none)
    (found : x.found = .answered) (holds : x.answer = some a) :
    ((answerBytes a).length + 1 ≤ sent.length → endTransfer p sent s =
      s.setPort p { released x sent.length (s.port p) with state := .idle, answer := none }) ∧
    (sent.length < (answerBytes a).length + 1 → endTransfer p sent s =
      s.setPort p (released x sent.length (s.port p))) := by
  have read : readWhole x sent.length = decide ((answerBytes a).length + 1 ≤ sent.length) := by rw [readWhole, holds]
  refine ⟨fun whole => ?_, fun short => ?_⟩
  · simp [endTransfer, running, kept, noFrame, found, read, whole, released]
  · simp [endTransfer, running, kept, noFrame, found, read, not_le.2 short, released]

theorem endTransfer_of_refused {f : Frame} (kept : x.discard = false) (holds : frameOfBytes sent = some f)
    (found : x.found = .working) : endTransfer p sent s =
      s.setPort p { released x sent.length (s.port p) with refused := true } := by
  simp [endTransfer, running, kept, holds, found, released]

theorem endTransfer_of_frame {f : Frame} (kept : x.discard = false) (holds : frameOfBytes sent = some f)
    (found : x.found ≠ .working) : endTransfer p sent s =
      acceptFrame p f (s.setPort p (released x sent.length (s.port p))) := by
  cases h : x.found
  case working => exact absurd h found
  all_goals simp [endTransfer, running, kept, holds, h, released]

end

/-- An engine that is busy begins nothing. -/
theorem engineBegin_of_busy {s : State} (busy : s.engine.busy = true) (n : Nat) : engineBegin n s = s := by
  cases n with
  | zero => rfl
  | succ n => rw [engineBegin, if_pos busy]

/-- A port that has taken a frame into its slot. -/
def holding (f : Frame) (u : PortUnit) : PortUnit :=
  { u with state := .working, request := some f, begun := false, answer := none, refused := false }

theorem acceptFrame_eq (p : Port) (f : Frame) (s : State) :
    acceptFrame p f s = engineBegin 2 (s.setPort p (holding f (s.port p))) := rfl

theorem acceptFrame_of_busy {s : State} (busy : s.engine.busy = true) (p : Port) (f : Frame) :
    acceptFrame p f s = s.setPort p (holding f (s.port p)) := by
  rw [acceptFrame_eq, engineBegin_of_busy (by simpa using busy)]

/-- Settles O47: the start of a transfer, its end by what was found and sent, and the bytes. -/
theorem transferByTheStateFound : Obligations.TransferByTheStateFound := by
  unfold Obligations.TransferByTheStateFound
  refine ⟨fun p s high free => ?_, fun p sent s high free => ?_, fun p sent x s high running =>
    ⟨fun discarded => ?_, fun kept => ⟨fun empty => ⟨fun found => ?_, fun a found holds => ⟨fun whole => ?_, fun short => ?_⟩⟩,
      fun f holds => ⟨fun found => ?_, fun found busy => ?_⟩⟩⟩,
    fun x a n found => ⟨answerBytes_length a, shifted_of_whole found n⟩, statusByte_eq, fun a => rfl, by decide, by decide,
    fun kind tag n rest real => ?_⟩
  · exact (exec_transfer high p .select).trans (congrArg _ (startTransfer_of_free free))
  · have highAfter : (startTransfer p s).lines.porLow = false := by simpa using high
    refine ⟨startTransfer p s, exec_transfer high p .select, ?_⟩
    rw [exec_transfer high, exec_transfer highAfter, transferEvent_whole free]
    rfl
  · exact (exec_transfer high p (.release sent)).trans (congrArg _ (endTransfer_of_discard running sent discarded))
  · exact (exec_transfer high p (.release sent)).trans
      (congrArg _ (endTransfer_of_noFrame running sent kept (frameOfBytes_eq_none empty) found))
  · exact (exec_transfer high p (.release sent)).trans
      (congrArg _ ((endTransfer_of_answer running sent kept (frameOfBytes_eq_none empty) found holds).1 whole))
  · exact (exec_transfer high p (.release sent)).trans
      (congrArg _ ((endTransfer_of_answer running sent kept (frameOfBytes_eq_none empty) found holds).2 short))
  · exact (exec_transfer high p (.release sent)).trans (congrArg _ (endTransfer_of_refused running sent kept holds found))
  · have ended := endTransfer_of_frame running sent kept holds found
    rw [acceptFrame_of_busy (by simpa using busy)] at ended
    refine (exec_transfer high p (.release sent)).trans (congrArg _ (ended.trans ?_))
    simp [holding, released]
  · exact if_neg real

end Sys2Proof.Machine

/-! What a claim does to the state, whatever it answers: one move of a short list (R10 to R16, R69 to R71, R98, R110 to R112,
R127 to R135, R161, R165). -/

namespace Sys2Proof.Machine

/-- What a claim for a request of a port can make of a state. -/
inductive ClaimMove (p : Port) (s : State) : State → Prop
  | stay : ClaimMove p s s
  | notices (flags mask : BitVec 10) : ClaimMove p s (s.setPort p { s.port p with flags := flags, mask := mask })
  | record (v : Valve) (x : Position) (new : LevelRecord) (kept : new.revision = (s.record v x).revision) :
      ClaimMove p s (commitRecord v x new .change s)
  | joined (v : Valve) (x n : Nat) : ClaimMove p s (joinDirected v x n .request s)
  | staged (g : Page) : ClaimMove p s (setStagedPage g s)
  | swapped : ClaimMove p s (makeSwap s)
  | awaitsSwap : ClaimMove p s { s with schedule := { s.schedule with swapPending := some p } }
  | entered (c : Conv) : ClaimMove p s (enter c none s)
  | stopped (x : ExitTarget) : ClaimMove p s (stopByRole x s)
  | strengthened (x : ExitTarget) : ClaimMove p s (strengthen x s)
  | retarded (x : ExitTarget) : ClaimMove p s (enterRetarded x s)
  | bypassed (x : ExitTarget) : ClaimMove p s (enterBypassing x s)
  | unlatched : ClaimMove p s (unlatch (enter .blocked none s))
  | trimmed (n : Int) : ClaimMove p s { s with phase := setCorrection n s.phase }
  | awaitsHold : ClaimMove p s { s with link := { s.link with holdPending := some p } }
  | cut (x : Poll) : ClaimMove p s (becomeHeld none (tellCut x s))
  | held (kept : Option Poll) : ClaimMove p s (becomeHeld kept s)
  | idle : ClaimMove p s (becomeIdle s)
  | resumed (x : Poll) : ClaimMove p s (openTelegram x s)
  | stored (σ : Setting) (v : Valve) (t : Settings) : ClaimMove p s (setConsequences σ v { s with settings := t })

section
variable {p : Port} {s : State}

theorem keyedChange_claimMove (valve position : Byte) (e : Option Word16) {k : Change}
    (keeps : ∀ r, (k.result r).revision = r.revision) : ClaimMove p s (keyedChange valve position e k s).1 := by
  obtain same | ⟨v, x, -, -, made⟩ := keyedChange_cases valve position e k s
  · rw [same]; exact .stay
  rw [made]
  obtain same | ⟨-, -, -, made⟩ := changeClaim_cases v x e k s
  · rw [same]; exact .stay
  · rw [made]; exact .record v x _ (keeps _)

theorem admitClaim_claimMove (valve position : Byte) (cls : Option EmitClass) (tag : Option Word24) :
    ClaimMove p s (admitClaim valve position cls tag s).1 := by
  obtain same | ⟨v, x, -, made⟩ := admitClaim_cases valve position cls tag s
  · rw [same]; exact .stay
  rw [made]
  obtain same | ⟨-, -, -, made⟩ := changeClaim_cases v x none (admitChange cls tag) s
  · rw [same]; exact .stay
  · rw [made]; exact .record v x _ rfl

theorem checkClaim_claimMove (valve first count : Byte) : ClaimMove p s (checkClaim valve first count s).1 := by
  unfold checkClaim
  split
  · exact .stay
  · split
    · split
      · exact .joined _ _ _
      · exact .stay
    · exact .stay

theorem orderClaim_claimMove (o : OrderParts) : ClaimMove p s (orderClaim o s).1 := by
  obtain same | ⟨-, made⟩ := orderClaim_cases o s
  · rw [same]; exact .stay
  · rw [made]; exact .staged _

theorem swapClaim_claimMove : ClaimMove p s (swapClaim p s).1 := by
  unfold swapClaim
  split
  · exact .stay
  · split
    · exact .stay
    · split
      · exact .stay
      · split
        · exact .swapped
        · exact .awaitsSwap

theorem deblockClaim_claimMove : ClaimMove p s (deblockClaim s).1 := by
  unfold deblockClaim
  split
  · split
    · exact .stay
    · exact .entered .pending
  · exact .stay

theorem blockClaim_claimMove : ClaimMove p s (blockClaim s).1 := by
  unfold blockClaim
  split
  case h_1 | h_8 => exact .stay
  case h_2 | h_3 => exact .entered .blocked
  case h_4 | h_5 => exact .stopped .blocked
  case h_6 | h_7 => exact .strengthened .blocked

theorem retardClaim_claimMove : ClaimMove p s (retardClaim s).1 := by
  unfold retardClaim
  split
  case h_1 | h_2 => exact .retarded .deionizing
  case h_3 => exact .stay

theorem bypassClaim_claimMove : ClaimMove p s (bypassClaim s).1 := by
  unfold bypassClaim
  split
  case h_1 | h_2 => exact .bypassed .blocked
  case h_3 => exact .stay

theorem clearTripClaim_claimMove : ClaimMove p s (clearTripClaim s).1 := by
  unfold clearTripClaim
  split
  · split
    · exact .stay
    · exact .unlatched
  · exact .stay

theorem trimClaim_claimMove (insert suppress : Bool) : ClaimMove p s (trimClaim insert suppress s).1 := by
  have trimmed (step : Int) : ClaimMove p s (trimBy step s).1 := by
    unfold trimBy
    dsimp only
    split
    · exact .stay
    · exact .trimmed _
  unfold trimClaim
  split
  · exact .stay
  · split
    · exact .stay
    · split
      · exact trimmed 1
      · exact trimmed (-1)
      · exact .stay

theorem holdClaim_claimMove : ClaimMove p s (holdClaim p s).1 := by
  unfold holdClaim
  split
  case h_1 => exact .stay
  case h_2 =>
    split
    · exact .stay
    · exact .awaitsHold
  case h_3 x _ _ =>
    split
    · exact .cut x
    · exact .held (some x)
  case h_4 => exact .held _

theorem releaseClaim_claimMove : ClaimMove p s (releaseClaim s).1 := by
  unfold releaseClaim
  split
  · split
    · dsimp only
      split
      · exact .idle
      · exact .resumed _
    · exact .idle
  · exact .stay

theorem setClaim_claimMove (σ : Setting) (valve : Byte) (value : Word16) : ClaimMove p s (setClaim σ valve value s).1 := by
  obtain same | ⟨v, made⟩ := setClaim_cases σ valve value s
  · rw [same]; exact .stay
  rw [made]
  obtain ⟨code, -, made⟩ | ⟨-, made⟩ := storeClaim_cases σ v value.toNat s <;> rw [made]
  · exact .stay
  · exact .stored σ v _

/-- Every claim makes one of the moves. -/
theorem claimMove_of_kind {k : State → State × Option Reply} (hk : ClaimKind p k) (s : State) : ClaimMove p s (k s).1 := by
  cases hk with
  | lookup r => exact .stay
  | clearNotices flags | setMask mask => exact .notices _ _
  | admission v x cls tag => exact admitClaim_claimMove v x cls tag
  | amend v x rev cls tag | clear v x rev cls tag | reprove v x rev cls tag | retire v x rev why =>
    exact keyedChange_claimMove v x rev fun _ => rfl
  | check v x n => exact checkClaim_claimMove v x n
  | order o => exact orderClaim_claimMove o
  | swap => exact swapClaim_claimMove
  | deblock => exact deblockClaim_claimMove
  | block => exact blockClaim_claimMove
  | retard => exact retardClaim_claimMove
  | bypass => exact bypassClaim_claimMove
  | clearTrip => exact clearTripClaim_claimMove
  | trim i d => exact trimClaim_claimMove i d
  | hold => exact holdClaim_claimMove
  | release => exact releaseClaim_claimMove
  | set σ v w => exact setClaim_claimMove σ v w

end

end Sys2Proof.Machine

/-! The request engine: what it begins, what it answers at once, and whom it serves next (R153 to R155). -/

namespace Sys2Proof.Machine

/-! ### Beginning a request -/

theorem nextPort_of_only {p : Port} {s : State} (wait : waits p s = true) (alone : waits (otherPort p) s = false) :
    nextPort s = some p := by
  unfold nextPort
  obtain same | same := eq_or_eq_otherPort p s.engine.last <;> rw [same]
  · simp [wait, alone]
  · simp [wait]

theorem nextPort_of_other {p : Port} {s : State} (last : s.engine.last = p) (wait : waits (otherPort p) s = true) :
    nextPort s = some (otherPort p) := by
  rw [nextPort, last, if_pos wait]

theorem engineBegin_of_passed {p : Port} {s : State} (idle : s.engine.busy = false) (next : nextPort s = some p)
    (passed : refusalAtBegin p (beginPort p s) = none) (n : Nat) : engineBegin (n + 1) s = beginPort p s := by
  simp [engineBegin, idle, next, passed]

theorem engineBegin_of_refused {p : Port} {s : State} {r : Reply} (idle : s.engine.busy = false)
    (next : nextPort s = some p) (refused : refusalAtBegin p (beginPort p s) = some r) (n : Nat) :
    engineBegin (n + 1) s = engineBegin n (freeEngine (placeAnswer p r (beginPort p s))) := by
  simp [engineBegin, idle, next, refused]

section
variable {p : Port} {s : State} {f : Frame} (held : (s.port p).request = some f)
include held

theorem refusalAtBegin_badFrame (parsed : parseFrame p f = .badFrame) : refusalAtBegin p s = some (plain .badFrame) := by
  simp [refusalAtBegin, held, parsed]

theorem refusalAtBegin_badKey (parsed : parseFrame p f = .badKey) :
    refusalAtBegin p s = some (plain (if s.lines.authSel = p then .badKey else .notInAuthority)) := by
  simp [refusalAtBegin, held, parsed]

theorem refusalAtBegin_elsewhere {c : Instr} (parsed : parseFrame p f = .command c) (change : isChange c = true)
    (elsewhere : s.lines.authSel ≠ p) : refusalAtBegin p s = some (plain .notInAuthority) := by
  simp [refusalAtBegin, held, parsed, change, elsewhere]

theorem refusalAtBegin_command {c : Instr} (parsed : parseFrame p f = .command c)
    (permitted : isChange c = false ∨ s.lines.authSel = p) : refusalAtBegin p s = none := by
  rcases permitted with h | h <;> simp [refusalAtBegin, held, parsed, h]

end

theorem begun_beginPort {c : Instr} {p : Port} {s : State} {f : Frame} (held : (s.port p).request = some f)
    (parsed : parseFrame p f = .command c) : begun c p (beginPort p s) = true := by
  have slot : (beginPort p s).port p = { s.port p with begun := true } := beginPort_port p s
  have engine : (beginPort p s).engine = { busy := true, last := p } := rfl
  simp [begun, slot, engine, held, parsed]

/-! ### A frame taken by an idle engine -/

/-- The port has taken the frame and the engine has begun it. -/
def takenUp (p : Port) (f : Frame) (s : State) : State := beginPort p (s.setPort p (holding f (s.port p)))

theorem takenUp_port (p : Port) (f : Frame) (s : State) :
    (takenUp p f s).port p = { holding f (s.port p) with begun := true } :=
  (beginPort_port p _).trans (by rw [State.setPort_port_same])

theorem takenUp_other (p : Port) (f : Frame) (s : State) : (takenUp p f s).port (otherPort p) = s.port (otherPort p) :=
  (beginPort_other p _).trans (State.setPort_port_other ..)

theorem takenUp_engine (p : Port) (f : Frame) (s : State) : (takenUp p f s).engine = { busy := true, last := p } := rfl

theorem takenUp_blocks (p : Port) (f : Frame) (s : State) : (takenUp p f s).blocks = s.blocks := by
  simp [takenUp, State.blocks]

theorem takenUp_request (p : Port) (f : Frame) (s : State) : ((takenUp p f s).port p).request = some f := by
  rw [takenUp_port]
  rfl

/-- On a free port, with the engine idle and no other request waiting, the engine takes up the frame and answers it at
once where a check of the beginning fails. -/
theorem acceptFrame_of_idle {p : Port} {s : State} (idle : s.engine.busy = false) (alone : waits (otherPort p) s = false)
    (f : Frame) :
    (refusalAtBegin p (takenUp p f s) = none → acceptFrame p f s = takenUp p f s) ∧
    (∀ r, refusalAtBegin p (takenUp p f s) = some r →
      acceptFrame p f s = freeEngine (placeAnswer p r (takenUp p f s))) := by
  have wait : waits p (s.setPort p (holding f (s.port p))) = true := by simp [waits, holding]
  have quiet : waits (otherPort p) (s.setPort p (holding f (s.port p))) = false := by
    simpa only [waits, State.setPort_port_other] using alone
  have next := nextPort_of_only wait quiet
  have free : (s.setPort p (holding f (s.port p))).engine.busy = false := by simpa using idle
  refine ⟨fun passed => engineBegin_of_passed free next passed 1, fun r refused => ?_⟩
  refine (engineBegin_of_refused free next refused 1).trans (engineBegin_none (fun x => ?_) 1)
  have answers := (placeAnswer_answers (.refl _) (refusalAtBegin_request refused) r).waits x
  have same : waits x (freeEngine (placeAnswer p r (takenUp p f s))) = waits x (placeAnswer p r (takenUp p f s)) := by
    simp only [waits, freeEngine_port]
  refine same.trans (answers.trans ?_)
  obtain rfl | rfl := eq_or_eq_otherPort p x
  · simp
  · have other : waits (otherPort p) (takenUp p f s) = waits (otherPort p) s := by simp only [waits, takenUp_other]
    rw [other, alone, Bool.and_false]

/-- The answer to a frame whose tag may be missing. -/
theorem placeAnswer_port {p : Port} {f : Frame} {s : State} (held : (s.port p).request = some f) (r : Reply) :
    (placeAnswer p r s).port p = { s.port p with
      state := .answered, request := none, begun := false,
      answer := some ⟨f.kind, f.tag.getD (Config.unreceivedTag s.freeCount), r.code, r.reason, r.payload⟩ } := by
  unfold placeAnswer
  rw [held]
  dsimp only
  split
  · exact State.setPort_port_same ..
  · exact (State.port_congr rfl rfl p).trans (State.setPort_port_same ..)

/-- The port's request is answered at once. -/
def RefusedAtOnce (p : Port) (f : Frame) (code : AnswerCode) (s t : State) : Prop :=
  t.engine.busy = false ∧ (t.port p).state = .answered ∧ (t.port p).request = none ∧
    (t.port p).answer = some ⟨f.kind, f.tag.getD (Config.unreceivedTag s.freeCount), code, none, []⟩

theorem acceptFrame_refuses {p : Port} {s : State} {f : Frame} {code : AnswerCode} (idle : s.engine.busy = false)
    (alone : waits (otherPort p) s = false) (refused : refusalAtBegin p (takenUp p f s) = some (plain code)) :
    RefusedAtOnce p f code s (acceptFrame p f s) := by
  have count : (takenUp p f s).freeCount = s.freeCount := by simp [takenUp]
  rw [(acceptFrame_of_idle idle alone f).2 _ refused]
  unfold RefusedAtOnce
  rw [freeEngine_port, placeAnswer_port (takenUp_request p f s), count]
  exact ⟨rfl, rfl, rfl, rfl⟩

/-- Whatever comes of the frame, the engine has served its port, and outside the slots of that port only the refused flag
has changed. -/
theorem acceptFrame_leaves {p : Port} {s : State} (idle : s.engine.busy = false) (alone : waits (otherPort p) s = false)
    (f : Frame) : (acceptFrame p f s).blocks = s.blocks ∧ (acceptFrame p f s).engine.last = p ∧
      (acceptFrame p f s).port (otherPort p) = s.port (otherPort p) ∧
      ((acceptFrame p f s).port p).rest = { (s.port p).rest with refused := false } := by
  have begins := acceptFrame_of_idle idle alone f
  have rest : ((takenUp p f s).port p).rest = { (s.port p).rest with refused := false } := by rw [takenUp_port]; rfl
  cases refused : refusalAtBegin p (takenUp p f s) with
  | none =>
    rw [begins.1 refused]
    exact ⟨takenUp_blocks p f s, rfl, takenUp_other p f s, rest⟩
  | some r =>
    rw [begins.2 r refused, freeEngine_port, freeEngine_port, placeAnswer_other, placeAnswer_rest]
    refine ⟨?_, ?_, takenUp_other p f s, rest⟩
    · rw [← takenUp_blocks p f s]
      simp [State.blocks]
    · simp [freeEngine, takenUp_engine]

end Sys2Proof.Machine

/-! The frame of a request read back (R154, R168). -/

namespace Sys2Proof.Machine

/-! ### Fields -/

theorem word16_bytes (w : Word16) : word16 (w.extractLsb' 8 8) (w.extractLsb' 0 8) = w := by
  unfold word16
  refine BitVec.eq_of_getLsbD_eq fun i hi => ?_
  simp
  grind

theorem word24_bytes (w : Word24) : word24 (w.extractLsb' 16 8) (w.extractLsb' 8 8) (w.extractLsb' 0 8) = w := by
  unfold word24
  refine BitVec.eq_of_getLsbD_eq fun i hi => ?_
  simp
  grind

theorem flags_bytes (f : BitVec 10) :
    (word16 ((f.setWidth 16).extractLsb' 8 8) ((f.setWidth 16).extractLsb' 0 8)).setWidth 10 = f := by
  rw [word16_bytes]
  refine BitVec.eq_of_getLsbD_eq fun i hi => ?_
  simp [hi]

theorem presence_bits : ∀ b0 b1 b2 b3 : Bool, (presence b0 b1 b2 b3).getLsbD 0 = b0 ∧
    (presence b0 b1 b2 b3).getLsbD 1 = b1 ∧ (presence b0 b1 b2 b3).getLsbD 2 = b2 ∧
    (presence b0 b1 b2 b3).getLsbD 3 = b3 := by decide

theorem presence_ok : ∀ b0 b1 b2 b3 : Bool, presenceOk (presence b0 b1 false false) 3 = true ∧
    presenceOk (presence b0 b1 b2 b3) 15 = true ∧ presenceOk (presence false false false b3) 8 = true ∧
    presenceOk (presence b0 b1 b2 false) 7 = true := by decide

theorem carried_emitClass (x : Option EmitClass) :
    carried x.isSome (emitClassOf? ((x.map emitClassCode).getD 0)) = some x := by
  rcases x with _ | _ | _ <;> rfl

theorem carried_role (x : Option Role) : carried x.isSome (roleOf? ((x.map roleCode).getD 0)) = some x := by
  rcases x with _ | _ | _ <;> rfl

theorem carried_mark (x : Option Bool) : carried x.isSome (markOf? (flagByte (x.getD false))) = some x := by
  rcases x with _ | _ | _ <;> rfl

theorem optional_bytes24 (x : Option Word24) : (if x.isSome then
    some (word24 ((x.getD 0).extractLsb' 16 8) ((x.getD 0).extractLsb' 8 8) ((x.getD 0).extractLsb' 0 8)) else none) = x := by
  cases x with
  | none => rfl
  | some w => simp [word24_bytes]

theorem optional_bytes16 (x : Option Word16) : (if x.isSome then
    some (word16 ((x.getD 0).extractLsb' 8 8) ((x.getD 0).extractLsb' 0 8)) else none) = x := by
  cases x with
  | none => rfl
  | some w => simp [word16_bytes]

theorem optional_byte (x : Option Byte) : (if x.isSome then some (x.getD 0) else none) = x := by
  cases x <;> rfl

theorem settingOf?_ofCode (σ : Setting) : settingOf? σ.code = some σ := by
  cases σ <;> rfl

/-! ### Payloads -/

theorem parseSet_payload (q : Sender) (σ : Setting) (v : Byte) (w : Word16) :
    parseSet q (setPayload σ v w) = .command (setCommand q v w σ) := by
  show (match settingOf? σ.code with
    | some σ => Parsed.command (setCommand q v (word16 (w.extractLsb' 8 8) (w.extractLsb' 0 8)) σ)
    | none => .badKey) = _
  rw [settingOf?_ofCode, word16_bytes]

theorem parsePayload_set (q : Sender) (σ : Setting) (v : Byte) (w : Word16) :
    parsePayload q (0x50 : Byte).toNat (setPayload σ v w) = .command (setCommand q v w σ) := parseSet_payload q σ v w

theorem parseAdmit_payload (q : Sender) (v p : Byte) (cls : Option EmitClass) (tag : Option Word24) :
    parseAdmit q ([v, p, presence cls.isSome tag.isSome false false, (cls.map emitClassCode).getD 0] ++ optional24 tag) =
      .command (.admitLevel q v p cls tag) := by
  obtain ⟨b0, b1, -, -⟩ := presence_bits cls.isSome tag.isSome false false
  simp only [optional24, bytes24, List.cons_append, List.nil_append, parseAdmit, (presence_ok _ _ false false).1, b0, b1,
    carried_emitClass, optional_bytes24, if_true]
  rfl

theorem parseAmend_payload (q : Sender) (v p : Byte) (cls : Option EmitClass) (tag : Option Word24)
    (rev : Option Word16) :
    parseAmend q (amendPayload v p cls tag none rev) = .command (.amend q v p cls tag rev) ∧
    parseAmend q (amendPayload v p cls tag (some false) rev) = .command (.amendClear q v p cls tag rev) ∧
    parseAmend q (amendPayload v p cls tag (some true) rev) = .command (.amendReprove q v p cls tag rev) := by
  have fields (action : Option Bool) : parseAmend q (amendPayload v p cls tag action rev) = match action with
      | none => .command (.amend q v p cls tag rev)
      | some false => .command (.amendClear q v p cls tag rev)
      | some true => .command (.amendReprove q v p cls tag rev) := by
    obtain ⟨b0, b1, b2, b3⟩ := presence_bits cls.isSome tag.isSome action.isSome rev.isSome
    simp only [amendPayload, optional24, bytes24, optional16, bytes16, List.cons_append, List.nil_append, parseAmend,
      (presence_ok _ _ _ _).2.1, b0, b1, b2, b3, carried_emitClass, carried_mark, optional_bytes24, optional_bytes16,
      if_true]
    rcases action with _ | _ | _ <;> rfl
  exact ⟨fields none, fields (some false), fields (some true)⟩

theorem parseRetire_payload (q : Sender) (v p : Byte) (why : RetireReason) (rev : Option Word16) :
    parseRetire q ([v, p, presence false false false rev.isSome, retireReasonCode why] ++ optional16 rev) =
      .command (.retire q v p why rev) := by
  obtain ⟨-, -, -, b3⟩ := presence_bits false false false rev.isSome
  have reason : reasonOf? (retireReasonCode why) = some why := by cases why <;> rfl
  simp only [optional16, bytes16, List.cons_append, List.nil_append, parseRetire, (presence_ok false false false _).2.2.1,
    b3, reason, optional_bytes16, if_true]
  rfl

theorem parseEntries_bytes (es : List OrderEntry) :
    parseEntries es.length (es.flatMap fun e => [e.valve, e.trim, flagByte e.pair]) = some es := by
  induction es with
  | nil => rfl
  | cons e es ih =>
    have mark : markOf? (flagByte e.pair) = some e.pair := by cases e.pair <;> rfl
    simp only [List.length_cons, List.flatMap_cons, List.cons_append, List.nil_append, parseEntries, ih, mark]

theorem parseOrder_payload (q : Sender) (o : OrderParts) (few : o.entries.length ≤ 12) :
    parseOrder q (orderPayload o) = .command (.order q o) := by
  obtain ⟨b0, b1, b2, -⟩ := presence_bits o.alpha.isSome o.role.isSome o.leg.isSome false
  have count : (byte o.entries.length).toNat = o.entries.length := by
    simp [byte, BitVec.toNat_ofNat]
    omega
  simp only [orderPayload, optional16, bytes16, List.cons_append, List.nil_append, parseOrder,
    (presence_ok _ _ _ false).2.2.2, b0, b1, b2, count, few, decide_true, Bool.and_true, carried_role,
    parseEntries_bytes, optional_bytes16, optional_byte, if_true]

/-! ### Frames -/

theorem payload_length {c : Instr} {q : Sender} {kind : Byte} {payload : List Byte} (wellFormed : c.wellFormed = true)
    (row : requestOf c = some (q, kind, payload)) : payload.length < 256 := by
  cases c <;> cases row
  case order o =>
    have few : o.entries.length ≤ 12 := by simpa [Instr.wellFormed] using wellFormed
    simp [orderPayload, optional16, List.length_flatMap]
    omega
  all_goals simp [setPayload, amendPayload, optional24, optional16, bytes24]

theorem kind_ne_zero {c : Instr} {q : Sender} {kind : Byte} {payload : List Byte}
    (row : requestOf c = some (q, kind, payload)) : kind ≠ 0 := by
  cases c <;> cases row <;> decide

theorem parsePayload_ofRequest {c : Instr} {q : Sender} {kind : Byte} {payload : List Byte}
    (wellFormed : c.wellFormed = true) (row : requestOf c = some (q, kind, payload)) :
    parsePayload q kind.toNat payload = .command c := by
  cases c <;> cases row
  case admitLevel => exact parseAdmit_payload ..
  case amend => exact (parseAmend_payload ..).1
  case amendClear => exact (parseAmend_payload ..).2.1
  case amendReprove => exact (parseAmend_payload ..).2.2
  case retire => exact parseRetire_payload ..
  case order => exact parseOrder_payload _ _ (by simpa [Instr.wellFormed] using wellFormed)
  case trim i d =>
    obtain ⟨b0, b1, -, -⟩ := presence_bits i d false false
    exact congrArg₂ (fun i d => Parsed.command (.trim q i d)) b0 b1
  case clearNotices f => exact congrArg (fun f => Parsed.command (.clearNotices q f)) (flags_bytes f)
  case setNoticeMask m => exact congrArg (fun f => Parsed.command (.setNoticeMask q f)) (flags_bytes m)
  case lookLevel | lookLevels | lookValve | lookConverter | lookPage | lookSetting | lookNotices | check | swap | deblock
      | block | retard | bypass | clearTrip | holdLink | releaseLink | restart => rfl
  all_goals exact (parsePayload_set ..).trans rfl

theorem parseFrame_requestFrame {c : Instr} {q : Sender} {kind : Byte} {payload : List Byte}
    (wellFormed : c.wellFormed = true) (row : requestOf c = some (q, kind, payload)) :
    parseFrame q.port (requestFrame q kind payload) = .command c := by
  have short := payload_length wellFormed row
  have whole : payload.length = (byte payload.length).toNat := by
    simp [byte, BitVec.toNat_ofNat, Nat.mod_eq_of_lt short]
  exact (if_pos whole).trans (parsePayload_ofRequest wellFormed row)

/-- Settles O50: the payloads read back by kind, and the frame's bytes. -/
theorem requestFramesReadBack : Obligations.RequestFramesReadBack := by
  unfold Obligations.RequestFramesReadBack
  intro c q kind payload wellFormed row
  have short := payload_length wellFormed row
  refine ⟨parseFrame_requestFrame wellFormed row, (if_neg (kind_ne_zero row)).trans ?_⟩
  simp [requestFrame, byte, BitVec.toNat_ofNat, Nat.mod_eq_of_lt short]

end Sys2Proof.Machine

/-! What a claim leaves of a waiting request, and the statements about the request engine and the request rows (R153 to
R155, R157). -/

namespace Sys2Proof.Machine

/-! ### Slots through a claim -/

/-- The port's state, request and begun mark are as they were. -/
def SlotStays (p : Port) (s t : State) : Prop :=
  (t.port p).state = (s.port p).state ∧ (t.port p).request = (s.port p).request ∧ (t.port p).begun = (s.port p).begun

theorem SlotStays.refl (p : Port) (s : State) : SlotStays p s s := ⟨rfl, rfl, rfl⟩

theorem SlotStays.trans {p : Port} {s t u : State} (h : SlotStays p s t) (k : SlotStays p t u) : SlotStays p s u :=
  ⟨k.1.trans h.1, k.2.1.trans h.2.1, k.2.2.trans h.2.2⟩

theorem SlotStays.of_port {p : Port} {s t : State} (h : t.port p = s.port p) : SlotStays p s t := by
  rw [SlotStays, h]
  exact ⟨rfl, rfl, rfl⟩

theorem SlotStays.of_eq {p : Port} {s t : State} (ha : t.portA = s.portA) (hb : t.portB = s.portB) : SlotStays p s t :=
  .of_port (State.port_congr ha hb p)

theorem SlotStays.waits {p : Port} {s t : State} (h : SlotStays p s t) : waits p t = waits p s := waits_congr p h.1 h.2.2

theorem SamePorts.slotStays {s t : State} (h : SamePorts s t) (p : Port) : SlotStays p s t := h.slots p

theorem makeSwap_samePorts (s : State) : SamePorts s (makeSwap s) :=
  .trans (t := { s with schedule := swapPages s.schedule }) (.of_eq rfl rfl) (setNotice_samePorts _ _)

/-- The answer to a pending SWAP touches the slot of its own port alone. -/
theorem makePendingSwap_slotStays {p : Port} {s : State} (other : s.schedule.swapPending ≠ some p) :
    SlotStays p s (makePendingSwap s) := by
  cases pending : s.schedule.swapPending with
  | none => rw [makePendingSwap_of_none pending]; exact .refl p s
  | some x =>
    rw [makePendingSwap_of_pending pending]
    have away : p = otherPort x := by
      obtain rfl | h := eq_or_eq_otherPort x p
      · exact absurd pending other
      · exact h
    subst away
    exact ((makeSwap_samePorts s).slotStays _).trans (.of_port (placeAnswer_other x _ _))

theorem scheduleLockChange_slotStays {p : Port} {s : State} (other : s.schedule.swapPending ≠ some p) (old new : Lock) :
    SlotStays p s (scheduleLockChange old new s) := by
  unfold scheduleLockChange
  split
  · exact makePendingSwap_slotStays other
  · exact .refl p s

theorem sourcesLockChange_slotStays (p : Port) (new : Lock) (s : State) : SlotStays p s (sourcesLockChange new s) := by
  unfold sourcesLockChange
  split <;> exact .of_eq rfl rfl

theorem changeLock_slotStays {p : Port} {s : State} (other : s.schedule.swapPending ≠ some p) (new : Lock) :
    SlotStays p s (changeLock new s) := by
  have noticed : SamePorts s (setNotice .phase { s with phase := { s.phase with lock := new } }) :=
    .trans (t := { s with phase := { s.phase with lock := new } }) (.of_eq rfl rfl) (setNotice_samePorts _ _)
  have told := noticed.trans (sequencerLockChange_samePorts new _)
  have free : (sequencerLockChange new (setNotice .phase { s with phase := { s.phase with lock := new } })).schedule.swapPending
      ≠ some p := by
    simpa using other
  exact ((told.slotStays p).trans (scheduleLockChange_slotStays free s.phase.lock new)).trans
    (sourcesLockChange_slotStays p new _)

theorem setConsequences_slotStays {p : Port} {s : State} (other : s.schedule.swapPending ≠ some p) (σ : Setting)
    (v : Valve) : SlotStays p s (setConsequences σ v s) := by
  cases σ
  case minimumSound | reserve => exact (commitTally_owners v _ .change s).ports.slotStays p
  case referenceOffset =>
    show SlotStays p s (offsetSet s)
    unfold offsetSet
    split
    · exact .trans (t := { s with phase := offsetItems s.phase }) (.of_eq rfl rfl)
        (changeLock_slotStays (s := { s with phase := offsetItems s.phase }) other .acquiring)
    · exact .refl p s
  all_goals exact .of_eq rfl rfl

theorem ClaimMove.slotStays {q p : Port} {s t : State} (m : ClaimMove q s t) (other : s.schedule.swapPending ≠ some p) :
    SlotStays p s t := by
  cases m with
  | notices flags mask =>
    rw [SlotStays, State.setPort_port]
    split
    · subst p; exact ⟨rfl, rfl, rfl⟩
    · exact ⟨rfl, rfl, rfl⟩
  | record v x new _ => exact (commitRecord_owners v x new .change s).ports.slotStays p
  | staged g =>
    unfold setStagedPage
    split <;> exact .of_eq rfl rfl
  | swapped => exact (makeSwap_samePorts s).slotStays p
  | entered c => exact (enter_samePorts c none s).slotStays p
  | stopped x => exact (stopByRole_samePorts x s).slotStays p
  | strengthened x => exact (strengthen_samePorts x s).slotStays p
  | retarded x => exact (enterRetarded_samePorts x s).slotStays p
  | bypassed x => exact (enterBypassing_samePorts x s).slotStays p
  | unlatched =>
    exact .trans (t := enter .blocked none s) ((enter_samePorts .blocked none s).slotStays p) (.of_eq rfl rfl)
  | stored σ v u => exact setConsequences_slotStays (s := { s with settings := u }) other σ v
  | stay | joined | awaitsSwap | trimmed | awaitsHold | cut | held | idle | resumed => exact .of_eq rfl rfl

theorem ClaimMove.engine {q : Port} {s t : State} (m : ClaimMove q s t) : t.engine = s.engine := by
  cases m
  case stored σ v u => simp
  all_goals simp [unlatch, makeSwap, becomeHeld, tellCut, becomeIdle, openTelegram, joinDirected, enterBypassing]

theorem ClaimMove.lines {q : Port} {s t : State} (m : ClaimMove q s t) : t.lines = s.lines := by
  cases m
  case stored σ v u => simp
  all_goals simp [unlatch, makeSwap, becomeHeld, tellCut, becomeIdle, openTelegram, joinDirected, enterBypassing]

/-! ### The next request (R153) -/

/-- At the end of an execution the other port's waiting request is begun. -/
theorem conclude_hands {p : Port} {c : Instr} {u : State} (r : Option Reply) (last : u.engine.last = p)
    (wait : waits (otherPort p) u = true)
    (asked : (u.port (otherPort p)).request.map (parseFrame (otherPort p)) = some (.command c))
    (permitted : isChange c = false ∨ u.lines.authSel = otherPort p) :
    begun c (otherPort p) (conclude p (u, r)) = true ∧
      (conclude p (u, r)).engine = { busy := true, last := otherPort p } := by
  have ended (w : State) (slot : w.port (otherPort p) = u.port (otherPort p)) (engine : w.engine = u.engine)
      (lines : w.lines = u.lines) : begun c (otherPort p) (engineBegin 2 (freeEngine w)) = true ∧
        (engineBegin 2 (freeEngine w)).engine = { busy := true, last := otherPort p } := by
    obtain ⟨f, held, parsed⟩ := Option.map_eq_some_iff.1 asked
    have heldAfter : ((freeEngine w).port (otherPort p)).request = some f := by rw [freeEngine_port, slot, held]
    have waitAfter : waits (otherPort p) (freeEngine w) = true := by
      simpa only [waits, freeEngine_port, slot] using wait
    have begunSlot : ((beginPort (otherPort p) (freeEngine w)).port (otherPort p)).request = some f := by
      rw [beginPort_port]
      exact heldAfter
    have allowed : isChange c = false ∨ (beginPort (otherPort p) (freeEngine w)).lines.authSel = otherPort p := by
      simpa [freeEngine, lines] using permitted
    rw [engineBegin_of_passed rfl (nextPort_of_other (by rw [← last, ← engine]; rfl) waitAfter)
      (refusalAtBegin_command begunSlot parsed allowed) 1]
    exact ⟨begun_beginPort heldAfter parsed, rfl⟩
  cases r with
  | none => exact ended u rfl rfl rfl
  | some r => exact ended (placeAnswer p r u) (placeAnswer_other p r u) (by simp) (by simp)

/-- What a moment of LOOK CONVERTER does with the last part. -/
theorem lookConverterMoment_of_last {s : State} (p : Port) (untaken : s.building.taken = false)
    (last : (missingParts s.building).length = 1) : ∃ n r, lookConverterMoment p s =
      conclude p ({ s with building := ImageBuild.empty, freeCount := n }, some r) := by
  obtain ⟨k, only⟩ := List.length_eq_one_iff.1 last
  obtain ⟨x, among, made⟩ := takePart_eq only
  have same : x = k := by simpa using among
  subst same
  refine ⟨_, _, (lookConverterMoment_of_whole p untaken fun j absent => ?_).trans (by rw [made])⟩
  have left := mem_missingParts.2 absent
  rw [made, missingParts_put, only] at left
  simp at left

/-! ### The obligations -/

/-- A request that waits has no owner (R153). -/
theorem PortsOk.notOwner {s : State} (h : PortsOk s) {p : Port} (wait : waits p s = true) :
    s.schedule.swapPending ≠ some p := fun pending => by
  have owner := h.owner p
  simp only [waits, Bool.and_eq_true, Bool.not_eq_true'] at wait
  simp only [ownedBy, pending, wait.2] at owner
  simp at owner

/-- A request row is the sending of its frame and, where the engine has begun it, its execution. -/
theorem exec_of_requestOf {c : Instr} {q : Sender} {kind : Byte} {payload : List Byte}
    (row : requestOf c = some (q, kind, payload)) :
    ∃ run, RunOf c q run ∧ ∀ s, exec c s = powered (serve c run) s := by
  cases c <;> cases row
  case restart => exact ⟨_, .restart _, fun _ => rfl⟩
  case lookConverter => exact ⟨_, .lookConverter _, fun _ => rfl⟩
  all_goals exact ⟨_, .claim rfl, fun _ => rfl⟩

theorem exec_executing {c : Instr} {q : Sender} {kind : Byte} {payload : List Byte} {run : State → State} {s : State}
    (row : requestOf c = some (q, kind, payload)) (runs : ∀ s, exec c s = powered (serve c run) s)
    (executing : Executing c q s) : exec c s = .next (run s) := by
  rw [runs]
  simp [powered, executing.1, serve, row, executing.2]

theorem parseFrame_badFrame {f : Frame} (p : Port) (short : f.tag = none ∨ f.length = none ∨
    (∃ n, f.length = some n ∧ f.payload.length ≠ n.toNat)) : parseFrame p f = .badFrame := by
  unfold parseFrame
  split
  case h_1 tagged lengthy =>
    refine if_neg fun whole => ?_
    obtain absent | absent | ⟨n, given, differs⟩ := short
    · exact nomatch absent.symm.trans tagged
    · exact nomatch absent.symm.trans lengthy
    · cases given.symm.trans lengthy
      exact differs whole
  case h_2 => rfl

/-- The end of an execution with the other port's request waiting: that request is begun. -/
theorem executing_hands {c d : Instr} {q : Sender} {s : State} (executing : Executing c q s)
    (notRestart : ∀ r, c ≠ .restart r) (ports : PortsOk s)
    (lookup : ∀ r, c = .lookConverter r → s.building.taken = false ∧ (missingParts s.building).length = 1)
    (wait : waits (otherPort q.port) s = true)
    (asked : (s.port (otherPort q.port)).request.map (parseFrame (otherPort q.port)) = some (.command d))
    (permitted : isChange d = false ∨ s.lines.authSel = otherPort q.port) :
    ∃ t, exec c s = .next t ∧ begun d (otherPort q.port) t = true ∧
      t.engine = { busy := true, last := otherPort q.port } := by
  obtain ⟨porHigh, running⟩ := executing
  have engine := engine_of_begun running
  obtain ⟨f, -, parsed⟩ : ∃ f, (s.port q.port).request = some f ∧ parseFrame q.port f = .command c := by
    simp only [begun, Bool.and_eq_true, decide_eq_true_eq] at running
    exact Option.map_eq_some_iff.1 running.2
  obtain ⟨tag, kind, payload, -, row⟩ := parseFrame_sender parsed
  obtain ⟨run, made, runs⟩ := exec_of_requestOf row
  refine ⟨run s, exec_executing row runs ⟨porHigh, running⟩, ?_⟩
  cases made with
  | claim h =>
    have move := claimMove_of_kind (claimKind_of_claimOf h) s
    have stays := move.slotStays (ports.notOwner wait)
    refine conclude_hands _ (by rw [move.engine, engine]) (by rw [stays.waits]; exact wait) ?_ (by rwa [move.lines])
    rw [stays.2.1]
    exact asked
  | restart => exact absurd rfl (notRestart _)
  | lookConverter =>
    obtain ⟨untaken, last⟩ := lookup _ rfl
    obtain ⟨n, r, moment⟩ := lookConverterMoment_of_last q.port untaken last
    have stays : SlotStays (otherPort q.port) s { s with building := ImageBuild.empty, freeCount := n } := .of_eq rfl rfl
    rw [moment]
    refine conclude_hands _ (by rw [engine]) (by rw [stays.waits]; exact wait) ?_ permitted
    rw [stays.2.1]
    exact asked

/-- Settles O48: the frame that an idle engine takes up, the frames that are refused unread, the next request, and
AUTH_SEL. -/
theorem engineBeginsOrRefuses : Obligations.EngineBeginsOrRefuses := by
  unfold Obligations.EngineBeginsOrRefuses
  refine ⟨fun p sent f s high idle free notWorking alone holds => ?_, fun p f => parseFrame_badFrame p,
    fun c d q s => executing_hands, fun p s => rfl⟩
  have started := startTransfer_of_free free
  generalize carried : (Transfer.mk (statusByte p s) (s.port p).state (s.port p).answer false) = x at started
  have running : ((startTransfer p s).port p).transfer = some x := by rw [started]; simp
  have found : x.found ≠ .working := by rw [← carried]; exact notWorking
  have ended := endTransfer_of_frame running sent (by rw [← carried]) holds found
  rw [started, setPort_setPort, State.setPort_port_same] at ended
  generalize slot : released x sent.length { s.port p with transfer := some x } = u at ended
  have made : exec (.transfer p (.whole sent)) s = .next (acceptFrame p f (s.setPort p u)) := by
    rw [exec_transfer high, transferEvent_whole free, started, ended]
  have idleAfter : (s.setPort p u).engine.busy = false := by simpa using idle
  have aloneAfter : waits (otherPort p) (s.setPort p u) = false := by
    simpa only [waits, State.setPort_port_other] using alone
  have count : (s.setPort p u).freeCount = s.freeCount := by simp
  have held := takenUp_request p f (s.setPort p u)
  have authority : (takenUp p f (s.setPort p u)).lines.authSel = s.lines.authSel := by simp [takenUp]
  obtain ⟨blocks, last, other, rest⟩ := acceptFrame_leaves idleAfter aloneAfter f
  have refuses (code : AnswerCode) (refused : refusalAtBegin p (takenUp p f (s.setPort p u)) = some (plain code)) :
      RefusedAtOnce p f code s (acceptFrame p f (s.setPort p u)) := by
    rw [RefusedAtOnce, ← count]
    exact acceptFrame_refuses idleAfter aloneAfter refused
  rw [State.setPort_port_same] at rest
  have flags : u.flags = (s.port p).flags := by rw [← slot]; rfl
  have mask : u.mask = (s.port p).mask := by rw [← slot]; rfl
  refine ⟨_, made, blocks.trans (by simp [State.blocks]), last, other.trans (State.setPort_port_other ..),
    congrArg PortRest.refused rest, (congrArg PortRest.flags rest).trans flags,
    (congrArg PortRest.mask rest).trans mask,
    fun bad => ?_, fun bad elsewhere => ?_, fun bad here => ?_, fun c parsed change elsewhere => ?_,
    fun c parsed permitted => ?_⟩
  · exact refuses _ (refusalAtBegin_badFrame held bad)
  · exact refuses _ ((refusalAtBegin_badKey held bad).trans (by rw [authority, if_neg elsewhere]))
  · exact refuses _ ((refusalAtBegin_badKey held bad).trans (by rw [authority, if_pos here]))
  · exact refuses _ (refusalAtBegin_elsewhere held parsed change (by rw [authority]; exact elsewhere))
  · rw [(acceptFrame_of_idle idleAfter aloneAfter f).1 (refusalAtBegin_command held parsed (by rwa [authority]))]
    exact begun_beginPort (by rw [State.setPort_port_same]; rfl) parsed

/-- Settles O49: a row whose request is not begun sends its frame, and what the engine begins at once the row executes. -/
theorem requestRowSendsItsFrame : Obligations.RequestRowSendsItsFrame := by
  unfold Obligations.RequestRowSendsItsFrame
  intro c q kind payload s row wellFormed high
  obtain ⟨run, -, runs⟩ := exec_of_requestOf row
  have sends (fresh : begun c q.port s = false) : exec c s =
      .next (if begun c q.port (sendFrame q.port (requestFrame q kind payload) s)
        then run (sendFrame q.port (requestFrame q kind payload) s)
        else sendFrame q.port (requestFrame q kind payload) s) := by
    rw [runs]
    simp [powered, high, serve, row, fresh]
  refine ⟨fun fresh => ⟨fun busy => ?_, fun free working => ?_⟩, fun idle free notWorking alone permitted => ?_⟩
  · have sent : sendFrame q.port (requestFrame q kind payload) s = s := if_pos busy
    rw [sends fresh, sent, fresh]
    rfl
  · have sent : sendFrame q.port (requestFrame q kind payload) s =
        s.setPort q.port { s.port q.port with refused := true } := by
      simp [sendFrame, free, working]
    have still : begun c q.port (s.setPort q.port { s.port q.port with refused := true }) = begun c q.port s :=
      begun_congr c q.port (by simp) (by simp) (by simp)
    rw [sends fresh, sent, still, fresh]
    rfl
  · have parsed := parseFrame_requestFrame wellFormed row
    generalize requestFrame q kind payload = f at parsed sends ⊢
    have held := takenUp_request q.port f s
    have executing : Executing c q (takenUp q.port f s) :=
      ⟨by simpa [takenUp] using high, begun_beginPort (by rw [State.setPort_port_same]; rfl) parsed⟩
    have authority : (takenUp q.port f s).lines.authSel = s.lines.authSel := by simp [takenUp]
    have passed := refusalAtBegin_command held parsed (by rwa [authority])
    have sent : sendFrame q.port f s = takenUp q.port f s := by
      simp only [sendFrame, free, notWorking, if_false]
      exact (acceptFrame_of_idle idle alone f).1 passed
    have fresh : begun c q.port s = false := by simp [begun, idle]
    refine ⟨takenUp q.port f s, executing, ?_, takenUp_blocks .., takenUp_other .., ?_, held⟩
    · rw [sends fresh, sent, if_pos executing.2, exec_executing row runs executing]
    · rw [takenUp_port]
      rfl

end Sys2Proof.Machine

/-! Emitter lanes: timed events, cuts, the lane frames, burst requests and compositions (R141 to R145, R171). -/

namespace Sys2Proof.Machine

/-! ### Active banks -/

theorem allBanks_find?_iff (f : Bank → Bool) (b : Bank) :
    allBanks.find? f = some b ↔ f b = true ∧ ∀ k, k < b → f k = false := by
  have all : ∀ (w x y z : Bool) (b : Bank), allBanks.find? (fun k => #v[w, x, y, z][k]) = some b ↔
      #v[w, x, y, z][b] = true ∧ ∀ k : Bank, k < b → #v[w, x, y, z][k] = false := by decide
  have listed : f = fun k => #v[f 0, f 1, f 2, f 3][k] := by
    funext k
    fin_cases k <;> rfl
  rw [listed]
  exact all ..

theorem activeFrom_eq_some_iff (w : Vector BankLight 4) (n : Nat) (b : Bank) : activeFrom w n = some b ↔
    n ≤ b.val ∧ isActive w b = true ∧ ∀ k : Bank, n ≤ k.val → k < b → isActive w k = false := by
  rw [activeFrom, allBanks_find?_iff]
  simp only [Bool.and_eq_true, decide_eq_true_eq, Bool.and_eq_false_iff, decide_eq_false_iff_not, and_assoc]
  grind

theorem activeFrom_eq_none_iff (w : Vector BankLight 4) (n : Nat) : activeFrom w n = none ↔
    ∀ k : Bank, n ≤ k.val → isActive w k = false := by
  have mem (k : Bank) : k ∈ allBanks := by revert k; decide
  simp [activeFrom, List.find?_eq_none, mem]

/-! ### Timed events and cuts (R143, R145) -/

theorem exec_onTimeEnd {s : State} (high : s.lines.porLow = false) (v : Valve) :
    exec (.onTimeEnd v) s = .next (s.setLane v (laneOnTimeEnd (s.lane v))) := by
  show powered (fun t => t.setLane v (laneOnTimeEnd (t.lane v))) s = _
  simp [powered, high]

theorem exec_gapEnd {s : State} (high : s.lines.porLow = false) (v : Valve) :
    exec (.gapEnd v) s = .next (s.setLane v (laneGapEnd (s.lane v))) := by
  show powered (fun t => t.setLane v (laneGapEnd (t.lane v))) s = _
  simp [powered, high]

theorem exec_stopFrameEnd {s : State} (high : s.lines.porLow = false) (v : Valve) :
    exec (.stopFrameEnd v) s = .next (s.setLane v (laneStopEnd (s.lane v))) := by
  show powered (fun t => t.setLane v (laneStopEnd (t.lane v))) s = _
  simp [powered, high]

theorem setLane_self (s : State) (v : Valve) : s.setLane v (s.lane v) = s := by
  rw [State.setLane, State.lane, put_self]

theorem laneOnTimeEnd_of_next {l : Lane} {w : Vector BankLight 4} {b b' : Bank} (lit : l.state = .lit)
    (composed : l.composition = some w) (present : l.bank = some b) (next : activeFrom w (b.val + 1) = some b') :
    laneOnTimeEnd l = { l with state := .gap, bank := some b', timer := 40 } := by
  simp only [laneOnTimeEnd, lit, composed, present, next, ticksPerMicrosecond]

theorem laneOnTimeEnd_of_last {l : Lane} {w : Vector BankLight 4} {b : Bank} (lit : l.state = .lit)
    (composed : l.composition = some w) (present : l.bank = some b) (none : activeFrom w (b.val + 1) = none) :
    laneOnTimeEnd l = darkLane l := by
  simp only [laneOnTimeEnd, lit, composed, present, none]

theorem laneOnTimeEnd_of_notLit {l : Lane} (state : l.state ≠ .lit) : laneOnTimeEnd l = l := by
  unfold laneOnTimeEnd
  split
  case h_1 lit _ _ => exact absurd lit state
  case h_2 => rfl

theorem laneGapEnd_of_gap {l : Lane} {w : Vector BankLight 4} {b : Bank} (gap : l.state = .gap)
    (composed : l.composition = some w) (present : l.bank = some b) : laneGapEnd l = lightBank w b l := by
  simp only [laneGapEnd, gap, composed, present]

theorem laneGapEnd_of_notGap {l : Lane} (state : l.state ≠ .gap) : laneGapEnd l = l := by
  unfold laneGapEnd
  split
  case h_1 gap _ _ => exact absurd gap state
  case h_2 => rfl

theorem laneStopEnd_of_notStopping {l : Lane} (state : l.state ≠ .stopping) : laneStopEnd l = l := by
  unfold laneStopEnd
  split
  case h_1 stopping => exact absurd stopping state
  case h_2 => rfl

/-! ### Lane frames (R171) -/

theorem frameFields (c : BitVec 2) (f : BitVec 24) (t : BitVec 5) (x y z : Bool) :
    let w := 1#1 ++ 1#1 ++ c ++ f ++ t ++ BitVec.ofBool x ++ BitVec.ofBool y ++ BitVec.ofBool z
    w.getLsbD 35 = true ∧ w.getLsbD 34 = true ∧ (∀ k, k < 2 → w.getLsbD (32 + k) = c.getLsbD k) ∧
    (∀ k, k < 24 → w.getLsbD (8 + k) = f.getLsbD k) ∧ (∀ k, k < 5 → w.getLsbD (3 + k) = t.getLsbD k) ∧
    w.getLsbD 2 = x ∧ w.getLsbD 1 = y ∧ w.getLsbD 0 = z := by
  simp only [BitVec.getLsbD_append]
  refine ⟨by simp, by simp, fun k within => ?_, fun k within => ?_, fun k within => ?_, by simp, by simp, by simp⟩
  all_goals interval_cases k <;> simp

theorem bankFrame_bits (b : Bank) (l : BankLight) :
    (bankFrame b l).getLsbD 35 = true ∧ (bankFrame b l).getLsbD 34 = true ∧
    (∀ k, k < 2 → (bankFrame b l).getLsbD (32 + k) = (BitVec.ofNat 2 b.val).getLsbD k) ∧
    (∀ k, k < 24 → (bankFrame b l).getLsbD (8 + k) = l.flags.getLsbD k) ∧
    (∀ k, k < 5 → (bankFrame b l).getLsbD (3 + k) = (BitVec.ofNat 5 (l.onTime - 1)).getLsbD k) ∧
    (bankFrame b l).getLsbD 2 =
      oddParity (bitsOf (BitVec.ofNat 2 b.val) ++ bitsOf (BitVec.ofNat 5 (l.onTime - 1))) ∧
    (bankFrame b l).getLsbD 1 = oddParity ((bitsOf l.flags).drop 12) ∧
    (bankFrame b l).getLsbD 0 = oddParity ((bitsOf l.flags).take 12) :=
  frameFields ..

/-- A word's bits as the field of a frame. -/
theorem extract_of_bits {n m start : Nat} {f : BitVec n} {w : BitVec m}
    (bits : ∀ k, k < m → f.getLsbD (start + k) = w.getLsbD k) : f.extractLsb' start m = w := by
  refine BitVec.eq_of_getLsbD_eq fun k within => ?_
  rw [BitVec.getLsbD_extractLsb', bits k within]
  simp [within]

theorem bitsOf_of_bits {n m start : Nat} {f : BitVec n} {w : BitVec m}
    (bits : ∀ k, k < m → f.getLsbD (start + k) = w.getLsbD k) :
    bitsOf w = (List.range m).map fun k => f.getLsbD (start + k) :=
  List.map_congr_left fun k within => (bits k (List.mem_range.1 within)).symm

/-- A parity bit makes the ones among the bits it covers and itself odd in number. -/
theorem odd_of_parity {n : Nat} {f : BitVec n} {covered all : List Nat} {bit : Nat}
    (parity : f.getLsbD bit = oddParity (covered.map fun k => f.getLsbD k)) (perm : all.Perm (bit :: covered)) :
    (all.countP fun k => f.getLsbD k) % 2 = 1 := by
  rw [perm.countP_eq, ← foldl_xor_eq_true_iff, List.map_cons, foldl_xor_cons, parity, oddParity]
  simp

theorem bankFrame_odd (b : Bank) (l : BankLight) :
    let f := bankFrame b l
    let odd (bits : List Nat) := (bits.countP fun k => f.getLsbD k) % 2 = 1
    odd [33, 32, 7, 6, 5, 4, 3, 2] ∧ odd [31, 30, 29, 28, 27, 26, 25, 24, 23, 22, 21, 20, 1] ∧
      odd [19, 18, 17, 16, 15, 14, 13, 12, 11, 10, 9, 8, 0] := by
  obtain ⟨-, -, bank, flags, time, first, second, third⟩ := bankFrame_bits b l
  rw [bitsOf_of_bits bank, bitsOf_of_bits time] at first
  rw [bitsOf_of_bits flags] at second third
  exact ⟨odd_of_parity (covered := [32, 33, 3, 4, 5, 6, 7]) first (by decide),
    odd_of_parity (covered := [20, 21, 22, 23, 24, 25, 26, 27, 28, 29, 30, 31]) second (by decide),
    odd_of_parity (covered := [8, 9, 10, 11, 12, 13, 14, 15, 16, 17, 18, 19]) third (by decide)⟩

/-- Settles O51: the timed events by the lane's state, the cut by the lane's state, and the frames' bits. -/
theorem laneEventsAndCuts : Obligations.LaneEventsAndCuts := by
  unfold Obligations.LaneEventsAndCuts
  refine ⟨fun v s high => ⟨fun w b lit composed present => ⟨fun b' above active between => ?_, fun last => ?_⟩,
      fun w b gap composed present => ?_, fun stopping => ?_, fun state => ?_, fun state => ?_, fun state => ?_⟩,
    fun l => ⟨fun lit => ?_, fun gap => ?_, fun stopping => ?_, fun idle => ?_, ?_⟩, fun b l => ?_, by decide⟩
  · have next : activeFrom w (b.val + 1) = some b' :=
      (activeFrom_eq_some_iff w _ b').2 ⟨above, active, fun k lower upper => between k lower upper⟩
    rw [exec_onTimeEnd high, laneOnTimeEnd_of_next lit composed present next]
  · have none : activeFrom w (b.val + 1) = none := (activeFrom_eq_none_iff w _).2 fun k lower => last k lower
    rw [exec_onTimeEnd high, laneOnTimeEnd_of_last lit composed present none]
    rfl
  · rw [exec_gapEnd high, laneGapEnd_of_gap gap composed present]
    simp only [lightBank, ← composed, ← present, ticksPerMicrosecond]
  · rw [exec_stopFrameEnd high]
    simp only [laneStopEnd, stopping]
    rfl
  · rw [exec_onTimeEnd high, laneOnTimeEnd_of_notLit state, setLane_self]
  · rw [exec_gapEnd high, laneGapEnd_of_notGap state, setLane_self]
  · rw [exec_stopFrameEnd high, laneStopEnd_of_notStopping state, setLane_self]
  · simp [cutLane, lit]
  · simp [cutLane, gap, darkLane]
  · simp [cutLane, stopping]
  · simp [cutLane, idle]
  · unfold cutLane
    split <;> rfl
  · obtain ⟨start, kind, bank, flags, time, -⟩ := bankFrame_bits b l
    exact ⟨start, kind, extract_of_bits bank, extract_of_bits flags, extract_of_bits time, bankFrame_odd b l⟩

end Sys2Proof.Machine

/-! Burst requests and compositions (R141 to R143). -/

namespace Sys2Proof.Machine

/-! ### The flags of a bank (R142) -/

/-- One bit shifted in from the right. -/
theorem shiftedIn_bit (w : Word24) (e : Bool) (i : Nat) (within : i < 24) :
    (w <<< 1 ||| (if e then 1 else 0)).getLsbD i = if i = 0 then e else w.getLsbD (i - 1) := by
  cases i with
  | zero => cases e <;> simp
  | succ i => cases e <;> simp [within, BitVec.getLsbD_eq_getElem (show i < 24 by omega)]

/-- The enable flags, the last record at bit 0. -/
theorem enableFlags_bit (records : List LevelRecord) (i : Nat) (within : i < 24) : (enableFlags records).getLsbD i =
    records.reverse[i]?.any fun r => isEmitting r.life := by
  have folded (l : List LevelRecord) : ∀ i, i < 24 → (enableFlags l.reverse).getLsbD i =
      l[i]?.any fun r => isEmitting r.life := by
    induction l with
    | nil => intro i _; simp [enableFlags]
    | cons r l ih =>
      intro i within
      have last : enableFlags (r :: l).reverse =
          enableFlags l.reverse <<< 1 ||| (if isEmitting r.life then 1 else 0) := by
        simp [enableFlags]
      rw [last, shiftedIn_bit _ _ i within]
      cases i with
      | zero => simp
      | succ i => simpa using ih i (by omega)
  have reversed := folded records.reverse i within
  rwa [List.reverse_reverse] at reversed

theorem enableFlags_ne_zero_iff {records : List LevelRecord} (whole : records.length ≤ 24) :
    enableFlags records ≠ 0 ↔ ∃ r ∈ records, isEmitting r.life = true := by
  constructor
  · intro lit
    by_contra dark
    refine lit (BitVec.eq_of_getLsbD_eq fun i within => ?_)
    rw [enableFlags_bit records i within]
    cases found : records.reverse[i]? with
    | none => simp
    | some r =>
      have mem : r ∈ records := List.mem_reverse.1 (List.mem_of_getElem? found)
      have off : isEmitting r.life = false := by
        by_contra on
        exact dark ⟨r, mem, by simpa using on⟩
      simp [off]
  · rintro ⟨r, mem, on⟩ dark
    obtain ⟨i, small, found⟩ := List.mem_iff_getElem.1 (List.mem_reverse.2 mem)
    have short : records.reverse.length ≤ 24 := by simpa using whole
    have bit := enableFlags_bit records i (by omega)
    rw [dark, List.getElem?_eq_getElem small, found] at bit
    simp [on] at bit

/-! ### The records of a bank (R24) -/

theorem bankRecords_length (v : Valve) (b : Bank) (s : State) : (bankRecords v b s).length = 24 := by
  simp [bankRecords]
  omega

theorem bankRecords_getElem (v : Valve) (b : Bank) (s : State) (k : Nat) (within : k < (bankRecords v b s).length) :
    (bankRecords v b s)[k] = s.record v (Fin.ofNat 96 (24 * b.val + k)) := by
  have small : k < 24 := by rwa [bankRecords_length] at within
  have place : 24 * b.val + k < 96 := by omega
  have position : (Fin.ofNat 96 (24 * b.val + k)).val = 24 * b.val + k := Nat.mod_eq_of_lt place
  rw [← record_eq s v _ (by rw [length_records, position]; exact place)]
  simp [bankRecords, Nat.mod_eq_of_lt place]

theorem mem_bankRecords {v : Valve} {b : Bank} {s : State} {r : LevelRecord} : r ∈ bankRecords v b s ↔
    ∃ k : Fin 24, s.record v (Fin.ofNat 96 (24 * b.val + k.val)) = r := by
  have length := bankRecords_length v b s
  rw [List.mem_iff_getElem]
  constructor
  · rintro ⟨k, within, rfl⟩
    exact ⟨⟨k, by omega⟩, (bankRecords_getElem v b s k within).symm⟩
  · rintro ⟨k, rfl⟩
    exact ⟨k.val, by omega, bankRecords_getElem v b s k.val (by omega)⟩

/-! ### The composition (R142) -/

theorem compose_getElem (v : Valve) (s : State) (b : Bank) : (compose v s)[b] = bankLight v s b := by
  fin_cases b <;> rfl

theorem compose_flag (v : Valve) (s : State) (b : Bank) (k : Fin 24) : (compose v s)[b].flags.getLsbD (23 - k.val) =
    isEmitting (s.record v (Fin.ofNat 96 (24 * b.val + k.val))).life := by
  have length := bankRecords_length v b s
  have within : k.val < (bankRecords v b s).length := by omega
  have place : (bankRecords v b s).reverse[23 - k.val]? = (bankRecords v b s)[k.val]? := by
    rw [List.getElem?_reverse (by omega), length]
    exact congrArg _ (by omega)
  rw [compose_getElem, bankLight, enableFlags_bit _ _ (by omega), place, List.getElem?_eq_getElem within,
    bankRecords_getElem]
  simp

theorem bankOnTime_eq (records : List LevelRecord) (t : Settings) : bankOnTime records t =
    if ∃ r ∈ records, isEmitting r.life = true ∧ r.emitClass = .long then t.longOnTime else t.standardOnTime := by
  simp [bankOnTime]

theorem isActive_compose_iff (v : Valve) (s : State) (b : Bank) :
    isActive (compose v s) b = true ↔ ∃ r ∈ bankRecords v b s, isEmitting r.life = true := by
  rw [isActive, compose_getElem, bankLight, bne_iff_ne]
  exact enableFlags_ne_zero_iff (bankRecords_length v b s).le

theorem compose_onTime (v : Valve) (s : State) (b : Bank) : (compose v s)[b].onTime =
    if ∃ r ∈ bankRecords v b s, isEmitting r.life = true ∧ r.emitClass = .long then s.settings.longOnTime
    else s.settings.standardOnTime := by
  rw [compose_getElem, bankLight, bankOnTime_eq]

/-! ### The burst's length is the spread (R31) -/

theorem countOf_pos_iff {test : LevelRecord → Bool} {rs : List LevelRecord} :
    0 < countOf test rs ↔ ∃ r ∈ rs, test r = true := by
  rw [countOf, List.length_pos_iff_exists_mem]
  simp only [List.mem_filter]

/-- The spread of a full count is the length of the burst that the same records compose. -/
theorem recounted_spread (v : Valve) (s : State) :
    ((allBanks.filter (isActive (compose v s))).map fun b => (compose v s)[b].onTime).sum +
      ((allBanks.filter (isActive (compose v s))).length - 1) = (recounted v s).spread := by
  have emitting (b : Bank) : (recounted v s).bankEmitting[b] = countOf countsEmitting (bankRecords v b s) := by
    fin_cases b <;> rfl
  have long (b : Bank) : (recounted v s).bankLong[b] = countOf countsLong (bankRecords v b s) := by
    fin_cases b <;> rfl
  have active : isActive (compose v s) = fun b => decide (0 < (recounted v s).bankEmitting[b]) := by
    funext b
    rw [Bool.eq_iff_iff, isActive_compose_iff, emitting, decide_eq_true_eq, countOf_pos_iff]
    rfl
  have time (b : Bank) : (compose v s)[b].onTime =
      if 0 < (recounted v s).bankLong[b] then s.settings.longOnTime else s.settings.standardOnTime := by
    rw [compose_onTime, long]
    simp only [countOf_pos_iff, countsLong, Bool.and_eq_true, decide_eq_true_eq]
  rw [active]
  simp only [time]
  rfl

/-! ### The obligation -/

theorem burstRequest_of_busy {v : Valve} {s : State} (busy : (s.lane v).state ≠ .idle) :
    burstRequest v s = s.setLane v { s.lane v with drops := min ((s.lane v).drops + 1) 255 } := by
  unfold burstRequest
  dsimp only
  split
  case h_1 idle => exact absurd idle busy
  all_goals rfl

theorem burstRequest_of_notFiring {v : Valve} {s : State} (idle : (s.lane v).state = .idle)
    (notFiring : isFiring s.seq.conv = false) : burstRequest v s = s := by
  simp [burstRequest, idle, notFiring]

/-- Settles O52: the request by the lane's state, the composition's bits and times, the lowest active bank, and the
recounted spread. -/
theorem burstRequestTakesTheLane : Obligations.BurstRequestTakesTheLane := by
  unfold Obligations.BurstRequestTakesTheLane
  refine ⟨fun v s => ⟨burstRequest_of_firing v, burstRequest_of_notFiring, burstRequest_of_busy⟩,
    fun v s b => ⟨compose_flag v s b, fun ⟨k, on, long⟩ => ?_, fun standard => ?_⟩, fun c b => ?_, fun w b l => ⟨?_, ?_⟩,
    fun v s tallies => ?_⟩
  · exact (compose_onTime v s b).trans (if_pos ⟨_, mem_bankRecords.2 ⟨k, rfl⟩, on, long⟩)
  · refine (compose_onTime v s b).trans (if_neg ?_)
    rintro ⟨r, mem, on, long⟩
    obtain ⟨k, rfl⟩ := mem_bankRecords.1 mem
    exact nomatch (standard k on).symm.trans long
  · simp [activeFrom_eq_some_iff]
  · rw [isActive, bne_iff_ne]
  · rw [lightBank, ticksPerMicrosecond, Nat.mul_comm]
  · rw [tallies v]
    exact recounted_spread v s

end Sys2Proof.Machine

/-! What each command that is not a power-on reset can do, the two control resets apart, and the revisions (R4). -/

namespace Sys2Proof.Machine

/-! ### Commands by what they do -/

/-- The events of the part's own and of its lines, without the restart pulse. -/
inductive OwnEvent : (State → State) → Prop
  | blockAssertion : OwnEvent takeBlockAssertion
  | lineFault : OwnEvent takeLineFault
  | crossing (since : Nat) : OwnEvent (referenceCrossing since)
  | missed : OwnEvent missedCrossing
  | step : OwnEvent stepEvent
  | word (f : BitVec 20) : OwnEvent (receive f)
  | timeout (awaiting : LinkState) : OwnEvent (awaitedTimeout awaiting)
  | interval : OwnEvent wordIntervalEnd
  | arbiter : OwnEvent arbiterStart
  | lane (v : Valve) (f : Lane → Lane) : OwnEvent fun s => s.setLane v (f (s.lane v))
  | transfer (p : Port) (part : TransferPart) : OwnEvent (transferEvent p part)

/-- What a command does to the part, a power-on reset aside. -/
inductive Moves (c : Instr) (s : State) : State → Prop
  | lines (l : Lines) : Moves c s (setLines l s)
  | event {f : State → State} (l : Lines) (h : OwnEvent f) : Moves c s (f (setLines l s))
  | pulse (h : c = .restartPulse) : Moves c s (controlReset none s)
  | sent {u : State} (h : Sent s u) : Moves c s u
  | claim {u : State} {q : Sender} {k : State → State × Option Reply} (h : Sent s u) (hk : ClaimKind q.port k) :
      Moves c s (conclude q.port (k u))
  | lookup {u : State} (p : Port) (h : Sent s u) : Moves c s (lookConverterMoment p u)
  | restart {u : State} {q : Sender} (r : c = .restart q) (h : Sent s u) :
      Moves c s (controlReset (some q.port) (placeAnswer q.port (plain .done) u))

theorem Moves.same (c : Instr) (s : State) : Moves c s s := .lines s.lines

theorem moves_of_powered {c : Instr} {f : State → State} {s t : State} (moves : Moves c s (f s))
    (reached : powered f s = .next t) : Moves c s t := by
  cases reached
  split
  · exact .same c s
  · exact moves

theorem moves_of_due {c : Instr} {f : State → State} (due : State → Bool) {s t : State} (event : OwnEvent f)
    (reached : powered (whenDue due f) s = .next t) : Moves c s t := by
  refine moves_of_powered ?_ reached
  unfold whenDue
  split
  · exact .event s.lines event
  · exact .same c s

theorem moves_of_event {c : Instr} {f : State → State} {s t : State} (event : OwnEvent f)
    (reached : powered f s = .next t) : Moves c s t := moves_of_powered (.event s.lines event) reached

theorem moves_of_request {c : Instr} {q : Sender} {kind : Byte} {payload : List Byte} {s t : State}
    (row : requestOf c = some (q, kind, payload)) (reached : exec c s = .next t) : Moves c s t := by
  obtain ⟨run, made, runs⟩ := exec_of_requestOf row
  refine moves_of_powered ?_ ((runs s).symm.trans reached)
  obtain ⟨u, sent, same | ⟨-, -, -, -, -, ran⟩⟩ := serve_cases c run s
  · rw [same]; exact .sent sent
  rw [ran]
  cases made with
  | claim h => exact .claim sent (claimKind_of_claimOf h)
  | restart => exact .restart rfl sent
  | lookConverter => exact .lookup q.port sent

theorem exec_moves {c : Instr} {s t : State} (notReset : c ≠ .powerOnReset) (notPor : c ≠ .porAsserted)
    (h : exec c s = .next t) : Moves c s t := by
  cases c
  case powerOnReset => exact absurd rfl notReset
  case porAsserted => exact absurd rfl notPor
  case blockLineAsserted =>
    cases h
    split
    · exact .same _ s
    · dsimp only
      split
      · exact .lines _
      · exact .event _ .blockAssertion
  case linefaultEdge =>
    cases h
    split
    · exact .same _ s
    · dsimp only
      split
      · exact .lines _
      · exact .event _ .lineFault
  case blockLineReleased | linefaultReleased | authSelChange => cases h; exact .lines _
  case restartPulse => exact moves_of_powered (.pulse rfl) h
  case referenceCrossing since => exact moves_of_event (.crossing since) h
  case missedCrossing => exact moves_of_event .missed h
  case phaseLost => exact moves_of_due _ .missed h
  case phaseStepEvent => exact moves_of_event .step h
  case phaseCorrection | recoveryComplete | commutationTrip | retardExpiry | deionizationEnd | bypassExpiry
    | bypassOccasion | sweepOccasion => exact moves_of_due _ .step h
  case sweepCut frame => exact moves_of_due _ (.word frame) h
  case arbiterPollStart => exact moves_of_event .arbiter h
  case replyHeader frame | resultWord frame | frameError frame => exact moves_of_event (.word frame) h
  case deferredHold frame =>
    cases frame with
    | none => exact moves_of_due _ (.timeout .exchange) h
    | some x => exact moves_of_due _ (.word x) h
  case wordIntervalEnd => exact moves_of_event .interval h
  case replyTimeout => exact moves_of_event (.timeout .header) h
  case wordTimeout => exact moves_of_event (.timeout .exchange) h
  case linkDown =>
    exact moves_of_powered (by
      unfold whenDue
      split
      · exact .event s.lines (.timeout s.link.state)
      · exact .same _ s) h
  case onTimeEnd v => exact moves_of_event (.lane v laneOnTimeEnd) h
  case gapEnd v => exact moves_of_event (.lane v laneGapEnd) h
  case stopFrameEnd v => exact moves_of_event (.lane v laneStopEnd) h
  case deferredSwap occasion =>
    cases occasion with
    | cycleStart => exact moves_of_due _ .step h
    | phaseLost => exact moves_of_due _ .missed h
  case transfer p part => exact moves_of_event (.transfer p part) h
  all_goals exact moves_of_request rfl h

/-! ### Revisions (R4) -/

/-- Every record's revision advances by one with a change of life state, class or tag, and stays without one. -/
def RevisionsCount (s t : State) : Prop := ∀ v p,
  (recordMoves (s.record v p) (t.record v p) = true → (t.record v p).revision = (s.record v p).revision + 1) ∧
  (recordMoves (s.record v p) (t.record v p) = false → (t.record v p).revision = (s.record v p).revision)

theorem recordMoves_self (r : LevelRecord) : recordMoves r r = false := by simp [recordMoves]

theorem RevisionsCount.of_table {s t : State} (same : t.table = s.table) : RevisionsCount s t := fun v p => by
  rw [record_congr same, recordMoves_self]
  exact ⟨fun moved => (nomatch moved), fun _ => rfl⟩

theorem RevisionsCount.congr {s s' t t' : State} (h : RevisionsCount s t) (before : s'.table = s.table)
    (after : t'.table = t.table) : RevisionsCount s' t' := fun v p => by
  rw [record_congr before, record_congr after]
  exact h v p

theorem commitRecord_revisions (v : Valve) (p : Position) {new : LevelRecord} (origin : UnfitOrigin) {s : State}
    (kept : new.revision = (s.record v p).revision) : RevisionsCount s (commitRecord v p new origin s) := fun w x => by
  by_cases same : (w, x) = (v, p)
  · obtain ⟨rfl, rfl⟩ := Prod.mk.inj same
    rw [commitRecord_record]
    by_cases moved : recordMoves (s.record w x) new = true
    · rw [if_pos moved]
      refine ⟨fun _ => rfl, fun still => ?_⟩
      have movedStill : recordMoves (s.record w x) { new with revision := (s.record w x).revision + 1 } = true := moved
      exact nomatch movedStill.symm.trans still
    · rw [if_neg moved]
      exact ⟨fun moves => absurd moves moved, fun _ => kept⟩
  · rw [commitRecord_record_other same, recordMoves_self]
    exact ⟨fun moved => (nomatch moved), fun _ => rfl⟩

/-- A claim on a result leaves the revision to the claim's end (R52). -/
theorem resultRecord_revision (res : Result) (settings : Settings) (cycle : Word16) (r : LevelRecord) :
    (resultRecord res settings cycle r).revision = r.revision := by
  unfold resultRecord
  dsimp only
  split
  · unfold missingIndication
    dsimp only
    split <;> rfl
  split
  · unfold protectiveFiring
    dsimp only
    repeat' split
    all_goals rfl
  · have fields : (cleanFields res.delay r).revision = r.revision := by
      unfold cleanFields
      dsimp only
      split <;> rfl
    unfold cleanResult cleanVerdict
    dsimp only
    repeat' split
    all_goals exact fields

theorem applyResult_revisions (res : Result) (s : State) : RevisionsCount s (applyResult res s) := by
  obtain same | ⟨-, u, made, ended⟩ := applyResult_cases res s
  · rw [same]; exact .of_table rfl
  have counted : RevisionsCount s u := by
    rw [made]
    exact commitRecord_revisions _ _ .evidence (resultRecord_revision ..)
  obtain ended | ended := ended <;> rw [ended]
  · exact counted
  · exact counted.congr rfl (by simp)

theorem receive_revisions (f : BitVec 20) (s : State) : RevisionsCount s (receive f s) := by
  unfold receive
  split
  · exact .of_table (by simp)
  split
  · obtain same | ⟨p, -, -, made⟩ := resultWord_cases (frameWord f) s
    · rw [same]; exact .of_table rfl
    rw [made]
    have taken : RevisionsCount s (takenWord p (frameWord f) s) := by
      unfold takenWord
      split
      · exact applyResult_revisions _ s
      · exact .of_table rfl
    exact taken.congr rfl (by simp)
  · exact .of_table rfl

theorem OwnEvent.revisions {f : State → State} (h : OwnEvent f) (s : State) : RevisionsCount s (f s) := by
  cases h with
  | word f => exact receive_revisions f s
  | _ => exact .of_table (by simp)

theorem ClaimMove.revisions {p : Port} {s t : State} (m : ClaimMove p s t) : RevisionsCount s t := by
  cases m with
  | record v x new kept => exact commitRecord_revisions v x .change kept
  | stored σ v u => exact .of_table (by simp)
  | _ => exact .of_table (by simp [unlatch, makeSwap, becomeHeld, tellCut, becomeIdle, openTelegram, joinDirected,
      enterBypassing, enterRetarded])

theorem Moves.revisions {c : Instr} {s t : State} (m : Moves c s t) : RevisionsCount s t := by
  cases m with
  | lines l => exact .of_table rfl
  | event l h => exact (h.revisions (setLines l s)).congr rfl rfl
  | pulse => exact .of_table rfl
  | sent h => exact .of_table h.sameParts.table
  | claim h hk =>
    exact ((claimMove_of_kind hk _).revisions).congr h.sameParts.table.symm (conclude_sameParts _ _).table
  | lookup p h => exact .of_table ((lookConverterMoment_sameParts p _).table.trans h.sameParts.table)
  | restart _ h => exact .of_table ((placeAnswer_sameParts _ _ _).table.trans h.sameParts.table)

theorem recordMoves_iff (old new : LevelRecord) : recordMoves old new = true ↔
    new.life ≠ old.life ∨ new.emitClass ≠ old.emitClass ∨ new.unitTag ≠ old.unitTag := by
  simp only [recordMoves, Bool.or_eq_true, decide_eq_true_eq, or_assoc, ne_comm]

/-- Settles O53: of all commands only the claims on a record write the table, and each counts its moves. -/
theorem revisionCountsChanges : Obligations.RevisionCountsChanges := by
  unfold Obligations.RevisionCountsChanges
  intro c s t v p reached notReset notPor
  obtain ⟨counts, stays⟩ := (exec_moves notReset notPor reached).revisions v p
  exact ⟨fun moved => counts ((recordMoves_iff _ _).2 moved),
    fun life cls tag => stays (recordMoves_eq_false life cls tag)⟩

end Sys2Proof.Machine

/-! What the notices report, and that every operation of the part sets the notice of what it changes (R15, R28, R59, R66,
R104, R114, R120, R133, R159). -/

namespace Sys2Proof.Machine

/-! ### What a notice reports -/

/-- What of the part the notices report. -/
structure Watched where
  table  : Vector (Vector LevelRecord 96) 12
  grade  : Valve → Grade
  conv   : Conv
  exit   : Option ExitTarget
  latch  : Bool
  lock   : Lock
  live   : PageName
  down   : Bool
  faults : Vector Bool 12

def State.watched (s : State) : Watched :=
  { table := s.table, grade := fun v => s.tallies[v].grade, conv := s.seq.conv, exit := s.seq.exitTarget,
    latch := s.seq.tripLatch, lock := s.phase.lock, live := s.schedule.live, down := s.link.down,
    faults := s.link.vmuFault }

/-- The change that a notice reports. -/
def Changed : Notice → Watched → Watched → Prop
  | .level, a, b => ∃ (v : Valve) (p : Position), recordMoves a.table[v][p] b.table[v][p] = true
  | .grade, a, b => ∃ v, b.grade v ≠ a.grade v
  | .converter, a, b => b.conv ≠ a.conv ∨ b.exit ≠ a.exit
  | .trip, a, b => b.latch = true ∧ a.latch = false
  | .phase, a, b => b.lock ≠ a.lock
  | .swap, a, b => b.live ≠ a.live
  | .link, a, b => b.down ≠ a.down ∨ ∃ v : Valve, b.faults[v] = true ∧ a.faults[v] = false
  | .queueDrop, _, _ | .restarts, _, _ | .reset, _, _ => False

theorem not_changed (n : Notice) (a : Watched) : ¬ Changed n a a := by
  cases n <;> simp [Changed, recordMoves_self]

theorem recordMoves_split {a b c : LevelRecord} (moved : recordMoves a c = true) :
    recordMoves a b = true ∨ recordMoves b c = true := by
  simp only [recordMoves_iff] at moved ⊢
  grind

/-- A change over two moves is a change by one of them. -/
theorem Changed.split {n : Notice} {a c : Watched} (h : Changed n a c) (b : Watched) : Changed n a b ∨ Changed n b c := by
  cases n with
  | level =>
    obtain ⟨v, p, moved⟩ := h
    exact (recordMoves_split moved).imp (fun m => ⟨v, p, m⟩) fun m => ⟨v, p, m⟩
  | grade =>
    obtain ⟨v, moved⟩ := h
    by_cases same : b.grade v = a.grade v
    · exact .inr ⟨v, by rwa [same]⟩
    · exact .inl ⟨v, same⟩
  | trip =>
    obtain ⟨set, clear⟩ := h
    cases between : b.latch
    · exact .inr ⟨set, between⟩
    · exact .inl ⟨between, clear⟩
  | link =>
    obtain moved | ⟨v, set, clear⟩ := h
    · by_cases same : b.down = a.down
      · exact .inr (.inl (by rwa [same]))
      · exact .inl (.inl same)
    · cases between : b.faults[v]
      · exact .inr (.inr ⟨v, set, between⟩)
      · exact .inl (.inr ⟨v, between, clear⟩)
  | converter | phase | swap => simp only [Changed] at h ⊢; grind
  | queueDrop | restarts | reset => exact h.elim

/-- Notices that are set stay set, and what changed is reported. -/
def Reports (s t : State) : Prop := FlagsStay s t ∧ ∀ n, Changed n s.watched t.watched → NoticeSet n t

theorem Reports.quiet {s t : State} (flags : FlagsStay s t) (same : t.watched = s.watched) : Reports s t :=
  ⟨flags, fun n changed => absurd (same ▸ changed) (not_changed n _)⟩

theorem Reports.refl (s : State) : Reports s s := .quiet (.refl s) rfl

theorem Reports.trans {s t u : State} (h : Reports s t) (k : Reports t u) : Reports s u :=
  ⟨h.1.trans k.1, fun n changed => (changed.split t.watched).elim (fun first => (h.2 n first).stays k.1) (k.2 n)⟩

/-- A notice event after a change that this notice reports. -/
theorem Reports.raised {s u : State} (n : Notice) (flags : FlagsStay s u)
    (only : ∀ m, Changed m s.watched u.watched → m = n) : Reports s (setNotice n u) :=
  ⟨flags.trans (setNotice_flagsStay n u), fun m changed => by
    rw [only m changed]
    exact setNotice_noticeSet n u⟩

theorem setNotice_reports (n : Notice) (s : State) : Reports s (setNotice n s) :=
  .quiet (setNotice_flagsStay n s) rfl

theorem Reports.of_ite {s a b : State} {c : Prop} [Decidable c] (ha : Reports s a) (hb : Reports s b) :
    Reports s (if c then a else b) := by
  split
  · exact ha
  · exact hb

theorem placeAnswer_reports (p : Port) (r : Reply) (s : State) : Reports s (placeAnswer p r s) :=
  .quiet (placeAnswer_rises p r s).flagsStay (by simp [State.watched])

/-- New items of the sequencer that leave state, exit target and latch. -/
theorem seq_reports {s : State} (q : Sequencer) (conv : q.conv = s.seq.conv) (exit : q.exitTarget = s.seq.exitTarget)
    (latch : q.tripLatch = s.seq.tripLatch) : Reports s { s with seq := q } :=
  .quiet (.of_eq rfl rfl) (by simp [State.watched, conv, exit, latch])

theorem phase_reports {s : State} (f : Phase) (lock : f.lock = s.phase.lock) : Reports s { s with phase := f } :=
  .quiet (.of_eq rfl rfl) (by simp [State.watched, lock])

theorem link_reports {s : State} (l : Link) (down : l.down = s.link.down) (faults : l.vmuFault = s.link.vmuFault) :
    Reports s { s with link := l } :=
  .quiet (.of_eq rfl rfl) (by simp [State.watched, down, faults])

theorem sources_reports (s : State) (x : Sources) : Reports s { s with sources := x } := .quiet (.of_eq rfl rfl) rfl

/-! ### The sequencer (R120, R133) -/

theorem changed_of_converter {a : Watched} {c : Conv} {x : Option ExitTarget} {m : Notice}
    (h : Changed m a { a with conv := c, exit := x }) : m = .converter := by
  cases m
  case converter => rfl
  all_goals simp [Changed, recordMoves_self] at h

theorem changed_of_latch {a : Watched} {b : Bool} {m : Notice} (h : Changed m a { a with latch := b }) : m = .trip := by
  cases m
  case trip => rfl
  all_goals simp [Changed, recordMoves_self] at h

theorem enter_reports (c : Conv) (x : Option ExitTarget) (s : State) : Reports s (enter c x s) := by
  have raised : Reports s (setNotice .converter { s with seq := enterItems c x s.seq }) :=
    .raised .converter (.of_eq rfl rfl) fun _ => changed_of_converter (a := s.watched) (c := c) (x := x)
  unfold enter
  dsimp only
  split
  · exact raised.trans (.quiet (.of_eq rfl rfl) rfl)
  · exact raised

theorem enterRetarded_reports (x : ExitTarget) (s : State) : Reports s (enterRetarded x s) :=
  (enter_reports .retarded (some x) s).trans (seq_reports _ rfl rfl rfl)

theorem enterBypassing_reports (x : ExitTarget) (s : State) : Reports s (enterBypassing x s) :=
  (enter_reports .bypassing (some x) s).trans (seq_reports _ rfl rfl rfl)

theorem enterDeionizing_reports (s : State) : Reports s (enterDeionizing s) :=
  (enter_reports .deionizing none s).trans (seq_reports _ rfl rfl rfl)

theorem enterRamping_reports (s : State) : Reports s (enterRamping s) :=
  (enter_reports .ramping none s).trans (seq_reports _ rfl rfl rfl)

theorem stopByRole_reports (x : ExitTarget) (s : State) : Reports s (stopByRole x s) := by
  unfold stopByRole
  split
  · exact enterRetarded_reports x s
  · exact enterBypassing_reports x s

theorem strengthen_reports (x : ExitTarget) (s : State) : Reports s (strengthen x s) := by
  unfold strengthen
  split
  · exact .of_ite (.raised .converter (.of_eq rfl rfl) fun _ =>
      changed_of_converter (a := s.watched) (c := s.seq.conv) (x := some x)) (.refl s)
  · exact .refl s

theorem takeExit_reports (s : State) : Reports s (takeExit s) := by
  unfold takeExit
  split
  · exact enterDeionizing_reports s
  · exact enter_reports .blocked none s
  · exact enter_reports .tripped none s
  · exact .refl s

theorem latchTrip_reports (cause : TripCause) (s : State) : Reports s (latchTrip cause s) :=
  .of_ite (.refl s) (.raised .trip (.of_eq rfl rfl) fun _ => changed_of_latch (a := s.watched) (b := true))

theorem raiseTrip_reports (cause : TripCause) (s : State) : Reports s (raiseTrip cause s) := by
  have latched := latchTrip_reports cause s
  unfold raiseTrip
  split
  case h_1 | h_2 => exact latched.trans (stopByRole_reports _ _)
  case h_3 | h_4 => exact latched.trans (strengthen_reports _ _)
  case h_5 => exact latched.trans (enter_reports _ _ _)
  case h_6 => exact enter_reports _ _ s
  case h_7 | h_8 => exact .refl s

theorem markTrip_reports (before : Conv) (s : State) : Reports s (markTrip before s) := by
  unfold markTrip
  split
  case h_1 | h_2 => exact seq_reports _ rfl rfl rfl
  case h_3 => exact .refl s

theorem unfitEntry_reports (v : Valve) (origin : UnfitOrigin) (s : State) : Reports s (unfitEntry v origin s) := by
  cases origin with
  | evidence => exact (raiseTrip_reports (.valveUnfit v) s).trans (markTrip_reports _ _)
  | change => exact .of_ite (enter_reports .blocked none s) (.refl s)

theorem unlatch_reports (s : State) : Reports s (unlatch s) :=
  ⟨.of_eq rfl rfl, fun n changed => by
    have cleared := changed_of_latch (a := s.watched) (b := false) changed
    subst cleared
    exact nomatch changed.1⟩

theorem stopAtOnce_reports (s : State) : Reports s (stopAtOnce s) :=
  .of_ite (.refl s) ((enter_reports _ none s).trans (.quiet (.of_eq rfl rfl) rfl))

theorem sequencerLockChange_reports (new : Lock) (s : State) : Reports s (sequencerLockChange new s) := by
  unfold sequencerLockChange
  split
  case h_1 => exact stopAtOnce_reports s
  case h_2 | h_3 => exact .of_ite (enter_reports .blocked none s) (.refl s)
  case h_4 => exact .refl s

/-! ### The work at a cycle start (R125, R126, R129) -/

theorem rampStep_reports (s : State) : Reports s (rampStep s) :=
  .of_ite ((seq_reports (s := s) { s.seq with ramp := _ } rfl rfl rfl).trans (enter_reports .running none _))
    (seq_reports _ rfl rfl rfl)

theorem recoveryStep_reports (s : State) : Reports s (recoveryStep s) :=
  .of_ite (seq_reports _ rfl rfl rfl) (.refl s)

theorem settleRestart_reports (s : State) : Reports s (settleRestart s) := by
  have counted : Reports s { s with seq := { s.seq with attempts := s.seq.attempts + 1 } } := seq_reports _ rfl rfl rfl
  exact .of_ite ((enter_reports .blocked none s).trans (setNotice_reports .restarts _))
    (.of_ite (counted.trans (enter_reports .blocked none _)) (counted.trans (enterRamping_reports _)))

theorem deionizationStep_reports (s : State) : Reports s (deionizationStep s) := by
  have counted : Reports s { s with seq := { s.seq with deionCount := s.seq.deionCount + 1 } } :=
    seq_reports _ rfl rfl rfl
  exact .of_ite (counted.trans (settleRestart_reports _)) counted

theorem retardStep_reports (s : State) : Reports s (retardStep s) := by
  have counted : Reports s { s with seq := { s.seq with retardCount := s.seq.retardCount + 1 } } :=
    seq_reports _ rfl rfl rfl
  exact .of_ite (.refl s) (.of_ite (counted.trans (takeExit_reports _)) counted)

theorem bypassStep_reports (s : State) : Reports s (bypassStep s) := by
  have counted : Reports s { s with seq := { s.seq with bypassCount := s.seq.bypassCount + 1 } } :=
    seq_reports _ rfl rfl rfl
  exact .of_ite (.refl s) (.of_ite (counted.trans (takeExit_reports _)) counted)

theorem afterFailures_reports {work : State → State} (works : ∀ u, Reports u (work u)) (s : State) :
    Reports s (afterFailures work s) := by
  have counted : Reports s { s with seq := countFailures s.seq } := seq_reports _ rfl rfl rfl
  unfold afterFailures
  dsimp only
  split
  · exact counted.trans (raiseTrip_reports _ _)
  · exact counted.trans (works _)

theorem sequencerCycleWork_reports (s : State) : Reports s (sequencerCycleWork s) := by
  unfold sequencerCycleWork
  split
  case h_1 => exact (enterRamping_reports s).trans (seq_reports _ rfl rfl rfl)
  case h_2 => exact afterFailures_reports rampStep_reports s
  case h_3 => exact afterFailures_reports recoveryStep_reports s
  case h_4 => exact retardStep_reports s
  case h_5 => exact deionizationStep_reports s
  case h_6 => exact bypassStep_reports s
  case h_7 | h_8 => exact .refl s

/-! ### Records and tallies (R15, R28) -/

theorem commitTally_reports (v : Valve) (y : Tally) (origin : UnfitOrigin) (s : State) :
    Reports s (commitTally v y origin s) := by
  have others (w : Valve) (other : v ≠ w) : (s.setTally v y).tallies[w] = s.tallies[w] :=
    (State.setTally_tally s v w y).trans (if_neg other)
  have own : (s.setTally v y).tallies[v] = y := (State.setTally_tally s v v y).trans (if_pos rfl)
  unfold commitTally
  dsimp only
  split
  case isTrue same =>
    have grades : (fun w : Valve => (s.setTally v y).tallies[w].grade) = fun w => s.tallies[w].grade := by
      funext w
      by_cases at_v : v = w
      · subst at_v
        exact (congrArg Tally.grade own).trans same
      · exact congrArg Tally.grade (others w at_v)
    exact .quiet (.of_eq rfl rfl) (congrArg (fun g => { s.watched with grade := g }) grades)
  case isFalse differs =>
    have raised : Reports s (setNotice .grade (s.setTally v y)) :=
      .raised .grade (.of_eq rfl rfl) fun m changed => by
        cases m
        case grade => rfl
        all_goals simp [Changed, recordMoves_self, State.watched] at changed
    exact .of_ite (raised.trans (unfitEntry_reports v origin _)) raised

theorem changed_setRecord {v : Valve} {p : Position} {r : LevelRecord} {s : State} {m : Notice}
    (h : Changed m s.watched (s.setRecord v p r).watched) : m = .level ∧ recordMoves (s.record v p) r = true := by
  cases m
  case level =>
    obtain ⟨w, x, moved⟩ := h
    have at_key : recordMoves (s.record w x) ((s.setRecord v p r).record w x) = true := moved
    rw [State.setRecord_record] at at_key
    split at at_key
    case isTrue key =>
      obtain ⟨rfl, rfl⟩ := key
      exact ⟨rfl, at_key⟩
    case isFalse => exact nomatch (recordMoves_self _).symm.trans at_key
  all_goals simp [Changed, State.watched] at h

theorem commitRecord_reports (v : Valve) (p : Position) (new : LevelRecord) (origin : UnfitOrigin) (s : State) :
    Reports s (commitRecord v p new origin s) := by
  have raised (r : LevelRecord) : Reports s (setNotice .level (s.setRecord v p r)) :=
    .raised .level (.of_eq rfl rfl) fun _ changed => (changed_setRecord changed).1
  unfold commitRecord
  dsimp only
  split
  · exact (raised _).trans (commitTally_reports _ _ _ _)
  case isFalse unmoved => exact ⟨.of_eq rfl rfl, fun _ changed => absurd (changed_setRecord changed).2 unmoved⟩

theorem offerCheck_reports (v : Valve) (p : Position) (s : State) : Reports s (offerCheck v p s) :=
  .of_ite (.quiet (.of_eq rfl rfl) rfl) (setNotice_reports .queueDrop s)

theorem applyResult_reports (res : Result) (s : State) : Reports s (applyResult res s) := by
  obtain same | ⟨-, u, made, ended⟩ := applyResult_cases res s
  · rw [same]; exact .refl s
  have claimed : Reports s u := by rw [made]; exact commitRecord_reports ..
  obtain ended | ended := ended <;> rw [ended]
  · exact claimed
  · exact claimed.trans (offerCheck_reports ..)

/-! ### Schedule and Phase Unit (R104, R114) -/

theorem makeSwap_reports (s : State) : Reports s (makeSwap s) :=
  .raised .swap (.of_eq rfl rfl) fun m changed => by
    cases m
    case swap => rfl
    all_goals simp [Changed, recordMoves_self, State.watched] at changed

theorem makePendingSwap_reports (s : State) : Reports s (makePendingSwap s) := by
  unfold makePendingSwap
  split
  · exact (makeSwap_reports s).trans (placeAnswer_reports _ _ _)
  · exact .refl s

theorem sourcesLockChange_reports (new : Lock) (s : State) : Reports s (sourcesLockChange new s) := by
  unfold sourcesLockChange
  split <;> exact .quiet (.of_eq rfl rfl) rfl

theorem changeLock_reports (new : Lock) (s : State) : Reports s (changeLock new s) := by
  have noticed : Reports s (setNotice .phase { s with phase := { s.phase with lock := new } }) :=
    .raised .phase (.of_eq rfl rfl) fun m changed => by
      cases m
      case phase => rfl
      all_goals simp [Changed, recordMoves_self, State.watched] at changed
  have scheduled (t : State) : Reports t (scheduleLockChange s.phase.lock new t) :=
    .of_ite (makePendingSwap_reports t) (.refl t)
  exact ((noticed.trans (sequencerLockChange_reports new _)).trans (scheduled _)).trans (sourcesLockChange_reports new _)

theorem LockMove.reports {s t : State} (m : LockMove s t) : Reports s t := by
  cases m with
  | stay f lock => exact phase_reports f lock
  | change new f lock _ => exact (phase_reports f lock).trans (changeLock_reports new { s with phase := f })

theorem expireTimes_reports (n : Nat) (s : State) : Reports s (expireTimes n s) := by
  induction n generalizing s with
  | zero => exact .refl s
  | succ n ih => exact (missedCrossing_lockMove s).reports.trans (ih _)

theorem referenceCrossing_reports (since : Nat) (s : State) : Reports s (referenceCrossing since s) :=
  (expireTimes_reports _ s).trans (takeCrossing_lockMove _ _).reports

end Sys2Proof.Machine

/-! The notices over the link's operations, the step event, the events and the claims, and over every command (R159). -/

namespace Sys2Proof.Machine

/-! ### The link (R59, R66) -/

theorem holdOr_reports {kept : Option Poll} {go : State → State} {s : State} (goes : Reports s (go s)) :
    Reports s (holdOr kept go s) := by
  unfold holdOr
  split
  · exact .trans (t := becomeHeld kept s) (link_reports _ rfl rfl) (placeAnswer_reports _ _ _)
  · exact goes

theorem becomeIdle_reports (s : State) : Reports s (becomeIdle s) := link_reports _ rfl rfl

theorem sendExpectation_reports (s : State) : Reports s (sendExpectation s) := by
  unfold sendExpectation
  split
  · exact link_reports _ rfl rfl
  · exact .refl s

theorem enterInterval_reports (s : State) : Reports s (enterInterval s) :=
  .of_ite (sendExpectation_reports s) (link_reports _ rfl rfl)

theorem countMismatch_reports (s : State) : Reports s (countMismatch s) :=
  .trans (t := { s with link := { s.link with mismatches := saturate 255 s.link.mismatches } })
    (link_reports _ rfl rfl) (setNotice_reports .link _)

theorem overrun_reports (s : State) : Reports s (overrun s) :=
  .trans (t := { s with link := { s.link with overruns := saturate 255 s.link.overruns } })
    (link_reports _ rfl rfl) (setNotice_reports .link _)

theorem tellEnded_reports (p : Poll) (s : State) : Reports s (tellEnded p s) :=
  .quiet (.of_eq (by simp) (by simp)) (by simp [State.watched])

/-- LINK after a change of the link's own items. -/
theorem linkNotice_reports (l : Link) (s : State) : Reports s (setNotice .link { s with link := l }) :=
  .raised .link (.of_eq rfl rfl) fun m changed => by
    cases m
    case link => rfl
    all_goals simp [Changed, recordMoves_self, State.watched] at changed

theorem cutPoll_reports (p : Poll) (s : State) : Reports s (cutPoll p s) :=
  .trans (t := tellCut p s) (sources_reports s _) (holdOr_reports (becomeIdle_reports _))

theorem completePoll_reports (p : Poll) (s : State) : Reports s (completePoll p s) := by
  have told := tellEnded_reports p s
  have counted : Reports s (if s.link.down then
      setNotice .link { tellEnded p s with link := { (tellEnded p s).link with failures := 0, down := false } }
      else { tellEnded p s with link := { (tellEnded p s).link with failures := 0, down := false } }) := by
    split
    case isTrue => exact told.trans (linkNotice_reports _ _)
    case isFalse up =>
      have same : false = (tellEnded p s).link.down := by simpa using (Bool.eq_false_iff.2 up).symm
      exact told.trans (link_reports _ same rfl)
  exact counted.trans (holdOr_reports (becomeIdle_reports _))

theorem abortPoll_reports (p : Poll) (s : State) : Reports s (abortPoll p s) := by
  have counted : Reports s (if saturate 255 s.link.failures = 8 then
      setNotice .link { s with link := { s.link with
        timeouts := saturate 255 s.link.timeouts, failures := saturate 255 s.link.failures,
        down := s.link.down || decide (saturate 255 s.link.failures = 8) } }
      else { s with link := { s.link with
        timeouts := saturate 255 s.link.timeouts, failures := saturate 255 s.link.failures,
        down := s.link.down || decide (saturate 255 s.link.failures = 8) } }) := by
    split
    case isTrue => exact linkNotice_reports _ s
    case isFalse few => exact link_reports _ (by simp [few]) rfl
  exact (counted.trans (tellEnded_reports p _)).trans (holdOr_reports (becomeIdle_reports _))

theorem goOn_reports (p : Poll) (s : State) : Reports s (goOn p s) :=
  .of_ite (completePoll_reports p s) (.of_ite (cutPoll_reports p s) (holdOr_reports (enterInterval_reports s)))

theorem setVmuFault_reports (v : Valve) (b : Bool) (s : State) : Reports s (setVmuFault v b s) := by
  unfold setVmuFault
  dsimp only
  split
  case isTrue => exact linkNotice_reports _ s
  case isFalse quiet =>
    refine ⟨.of_eq rfl rfl, fun n changed => ?_⟩
    cases n
    case link =>
      obtain same | ⟨w, set, clear⟩ := changed
      · exact absurd rfl same
      have set : (put s.link.vmuFault v b)[w.val] = true := set
      have clear : s.link.vmuFault[w.val] = false := clear
      rw [put_getElem] at set
      split at set
      case isTrue key =>
        have same : s.link.vmuFault[v] = false := by
          simp only [Fin.getElem_fin, key]
          exact clear
        simp [set, same] at quiet
      case isFalse => exact nomatch set.symm.trans clear
    all_goals simp [Changed, recordMoves_self, State.watched] at changed

theorem handBlocking_reports (p : Poll) (b : Bool) (s : State) : Reports s (handBlocking p b s) := by
  have failed (v : Valve) : Reports s (commutationFailure v s) := by
    unfold commutationFailure
    split
    case h_1 | h_2 => exact seq_reports _ rfl rfl rfl
    case h_3 => exact .refl s
  unfold handBlocking
  split
  · exact .of_ite (failed _) (.refl s)
  · exact .refl s
  · exact .refl s

theorem replyHeader_reports (w : Word16) (s : State) : Reports s (replyHeader w s) := by
  have accepted (p : Poll) : Reports s (acceptHeader p w s) := by
    have taken := (handBlocking_reports p (replyBlocking w) s).trans (setVmuFault_reports p.valve (replyFault w) _)
    exact .of_ite (taken.trans (cutPoll_reports p _)) (taken.trans (enterInterval_reports _))
  unfold replyHeader
  split
  · exact .of_ite (accepted _) (countMismatch_reports s)
  · exact overrun_reports s

theorem resultWord_reports (w : Word16) (s : State) : Reports s (resultWord w s) := by
  obtain same | ⟨p, -, -, made⟩ := resultWord_cases w s
  · rw [same]; exact overrun_reports s
  have taken : Reports s (takenWord p w s) := by
    unfold takenWord
    split
    · exact applyResult_reports _ s
    · exact countMismatch_reports s
  rw [made]
  exact (taken.trans (link_reports _ rfl rfl)).trans (goOn_reports _ _)

theorem receive_reports (f : BitVec 20) (s : State) : Reports s (receive f s) :=
  .of_ite (replyHeader_reports _ s) (.of_ite (resultWord_reports _ s) (countMismatch_reports s))

theorem awaitedTimeout_reports (awaiting : LinkState) (s : State) : Reports s (awaitedTimeout awaiting s) := by
  unfold awaitedTimeout
  split
  · exact .of_ite (abortPoll_reports _ s) (.refl s)
  · exact .refl s

theorem wordIntervalEnd_reports (s : State) : Reports s (wordIntervalEnd s) := by
  unfold wordIntervalEnd
  split
  · exact sendExpectation_reports s
  · exact .refl s

theorem openTelegram_reports (p : Poll) (s : State) : Reports s (openTelegram p s) := link_reports _ rfl rfl

theorem arbiterStart_reports (s : State) : Reports s (arbiterStart s) := by
  have started (x : Sources) (p : Poll) : Reports s (openTelegram p { s with sources := x }) :=
    (sources_reports s x).trans (openTelegram_reports p _)
  have cycle : Reports s (startCycle s) := by
    unfold startCycle
    split
    · exact started _ _
    · exact .refl s
  have directed : Reports s (startDirected s) := by
    unfold startDirected
    split
    · exact started _ _
    · exact .refl s
  have sweep : Reports s (startSweep s) := by
    unfold startSweep
    split
    · exact started _ _
    · exact started _ _
    · exact .refl s
  unfold arbiterStart
  split
  · split
    · exact cycle
    · exact directed
    · exact sweep
    · exact .refl s
  · exact .refl s

/-! ### The step event (R92, R93) -/

theorem requestCut_reports (s : State) : Reports s (requestCut s) := by
  unfold requestCut
  split
  case h_1 p _ =>
    split
    · split
      case h_1 | h_2 => exact link_reports _ rfl rfl
      case h_3 => exact cutPoll_reports p s
      case h_4 => exact .trans (t := tellCut p s) (sources_reports s _) (link_reports _ rfl rfl)
      case h_5 => exact .refl s
    · exact .refl s
  case h_2 => exact .refl s

theorem supersede_reports (v : Valve) (s : State) : Reports s (supersede v s) := by
  unfold supersede
  split
  · exact .of_ite (link_reports _ rfl rfl) (.refl s)
  · exact .refl s

theorem joinCycle_reports (v : Valve) (s : State) : Reports s (joinCycle v s) :=
  .of_ite (sources_reports s _) ((sources_reports s _).trans (requestCut_reports _))

theorem takeCheckPoint_reports (s : State) (v : Valve) : Reports s (takeCheckPoint s v) :=
  (sources_reports s { s.sources with armed := put s.sources.armed v none }).trans
    (.of_ite ((supersede_reports v _).trans (joinCycle_reports v _)) (.refl _))

theorem checkPoints_reports (passed : List Nat) (armed : Vector (Option Nat) 12) (s : State) :
    Reports s (checkPoints passed armed s) :=
  foldl_preserves (P := Reports s) (f := takeCheckPoint) (fun t v k => k.trans (takeCheckPoint_reports t v)) _ (.refl s)

theorem judgeWindows_reports (passed : List Nat) (s : State) : Reports s (judgeWindows passed s) := by
  obtain ⟨w, judged, -⟩ := judgeWindows_seq passed s
  exact .quiet (.of_eq (by simp) (by simp)) (by simp [State.watched, judged, withWindows])

theorem burstRequest_reports (v : Valve) (s : State) : Reports s (burstRequest v s) :=
  .quiet (.of_eq (by simp) (by simp)) (by simp [State.watched])

theorem bypassPart_reports (before : Conv) (n : Nat) (s : State) : Reports s (bypassPart before n s) := by
  have advanced : Reports s { s with seq := { s.seq with
      bypassSpacing := (bypassAdvance s.seq n).1, bypassEntry := false } } := seq_reports _ rfl rfl rfl
  exact .of_ite (.of_ite (foldl_preserves (P := Reports s) (f := fun t v => burstRequest v t)
    (fun t v k => k.trans (burstRequest_reports v t)) _ advanced) advanced) (.refl s)

theorem cycleStartWork_reports (s : State) : Reports s (cycleStartWork s) := by
  have swapped : Reports s (swapAtCycleStart s) := .of_ite (makePendingSwap_reports s) (.refl s)
  have swept (t : State) : Reports t (sweepTick t) := .quiet (.of_eq (by simp) (by simp)) (by simp [State.watched])
  exact (swapped.trans (sequencerCycleWork_reports _)).trans (swept _)

theorem stepEvent_reports (s : State) : Reports s (stepEvent s) := by
  by_cases counting : s.phase.counting = true
  · rw [stepEvent_eq counting]
    have moved : Reports s { s with phase := advancePhase s.phase } := phase_reports _ (by simp)
    have worked : Reports s (stepWork s) := .of_ite (moved.trans (cycleStartWork_reports _)) moved
    have settled := worked.trans (seq_reports (s := stepWork s) { (stepWork s).seq with freshTrip := false } rfl rfl rfl)
    exact ((settled.trans (checkPoints_reports _ _ _)).trans (judgeWindows_reports _ _)).trans (bypassPart_reports _ _ _)
  · rw [stepEvent_stopped counting]
    exact .refl s

/-! ### Events and claims -/

theorem takeLineFault_reports (s : State) : Reports s (takeLineFault s) := by
  unfold takeLineFault
  split
  case h_1 | h_2 => exact enterRetarded_reports _ s
  case h_3 => exact .refl s

theorem setPort_flagsStay {p : Port} {s : State} {u : PortUnit} (flags : u.flags = (s.port p).flags) :
    FlagsStay s (s.setPort p u) := fun x => by
  refine ⟨0, ?_⟩
  rw [State.setPort_port]
  split
  case isTrue same => subst same; simpa using flags
  case isFalse => simp

theorem acceptFrame_flagsStay (p : Port) (f : Frame) (s : State) : FlagsStay s (acceptFrame p f s) :=
  (setPort_flagsStay (u := holding f (s.port p)) rfl).trans (engineBegin_rises 2 _).flagsStay

theorem sendFrame_flagsStay (p : Port) (f : Frame) (s : State) : FlagsStay s (sendFrame p f s) := by
  unfold sendFrame
  split
  · exact .refl s
  · split
    · exact setPort_flagsStay rfl
    · exact acceptFrame_flagsStay p f s

theorem startTransfer_flagsStay (p : Port) (s : State) : FlagsStay s (startTransfer p s) := by
  unfold startTransfer
  dsimp only
  split
  · exact .refl s
  · exact setPort_flagsStay rfl

theorem endTransfer_flagsStay (p : Port) (sent : List Byte) (s : State) : FlagsStay s (endTransfer p sent s) := by
  unfold endTransfer
  dsimp only
  split
  · exact .refl s
  case h_2 x _ =>
    have ended : FlagsStay s (s.setPort p (released x sent.length (s.port p))) := setPort_flagsStay rfl
    split
    · exact ended
    · split
      · exact ended.trans (setPort_flagsStay rfl)
      · exact ended.trans (acceptFrame_flagsStay p _ _)
      · split
        · exact ended.trans (setPort_flagsStay rfl)
        · exact ended
      · exact ended

theorem transferEvent_flagsStay (p : Port) (part : TransferPart) (s : State) : FlagsStay s (transferEvent p part s) := by
  cases part with
  | select => exact startTransfer_flagsStay p s
  | release sent => exact endTransfer_flagsStay p sent s
  | whole sent =>
    unfold transferEvent
    dsimp only
    split
    · exact .refl s
    · exact (startTransfer_flagsStay p s).trans (endTransfer_flagsStay p sent _)

theorem OwnEvent.reports {f : State → State} (h : OwnEvent f) (s : State) : Reports s (f s) := by
  cases h with
  | blockAssertion => exact stopAtOnce_reports s
  | lineFault => exact takeLineFault_reports s
  | crossing since => exact referenceCrossing_reports since s
  | missed => exact (missedCrossing_lockMove s).reports
  | step => exact stepEvent_reports s
  | word f => exact receive_reports f s
  | timeout awaiting => exact awaitedTimeout_reports awaiting s
  | interval => exact wordIntervalEnd_reports s
  | arbiter => exact arbiterStart_reports s
  | lane v f => exact .quiet (.of_eq rfl rfl) rfl
  | transfer p part => exact .quiet (transferEvent_flagsStay p part s) (by simp [State.watched])

theorem SameParts.watched {s t : State} (h : SameParts s t) : t.watched = s.watched := by
  simp only [State.watched, h.table, h.tallies, h.seq, h.phase, h.schedule, h.link]

theorem Sent.reports {s u : State} (h : Sent s u) : Reports s u := by
  refine .quiet ?_ h.sameParts.watched
  obtain rfl | ⟨p, f, rfl⟩ := h
  · exact .refl u
  · exact sendFrame_flagsStay p f s

theorem conclude_reports (p : Port) (done : State × Option Reply) : Reports done.1 (conclude p done) := by
  refine .quiet ?_ (conclude_sameParts p done).watched
  have freed (u : State) : FlagsStay u (engineBegin 2 (freeEngine u)) :=
    FlagsStay.trans (t := freeEngine u) (.of_eq rfl rfl) (engineBegin_rises 2 _).flagsStay
  obtain ⟨u, _ | r⟩ := done
  · exact freed u
  · exact (placeAnswer_rises p r u).flagsStay.trans (freed _)

theorem setConsequences_reports (σ : Setting) (v : Valve) (s : State) : Reports s (setConsequences σ v s) := by
  cases σ
  case minimumSound | reserve => exact commitTally_reports v _ .change s
  case standardOnTime | longOnTime =>
    refine .quiet (.of_eq rfl rfl) (congrArg (fun g => { s.watched with grade := g }) (funext fun w => ?_))
    simp [setConsequences, respread]
  case referenceOffset =>
    exact .of_ite ((phase_reports (s := s) (offsetItems s.phase) rfl).trans (changeLock_reports .acquiring _)) (.refl s)
  all_goals exact .quiet (.of_eq rfl rfl) rfl

/-- Every claim reports what it changes; the requests on notices change nothing that a notice reports. -/
theorem ClaimMove.reports {p : Port} {s t : State} (m : ClaimMove p s t) : Reports s t ∨ t.watched = s.watched := by
  cases m with
  | notices flags mask => exact .inr (by simp [State.watched])
  | record v x new _ => exact .inl (commitRecord_reports v x new .change s)
  | staged g =>
    refine .inl ?_
    unfold setStagedPage
    split <;> rename_i live
    all_goals exact .quiet (.of_eq rfl rfl) (by simp [State.watched, live])
  | swapped => exact .inl (makeSwap_reports s)
  | entered c => exact .inl (enter_reports c none s)
  | stopped x => exact .inl (stopByRole_reports x s)
  | strengthened x => exact .inl (strengthen_reports x s)
  | retarded x => exact .inl (enterRetarded_reports x s)
  | bypassed x => exact .inl (enterBypassing_reports x s)
  | unlatched => exact .inl ((enter_reports .blocked none s).trans (unlatch_reports _))
  | stored σ v u =>
    have put : Reports s { s with settings := u } := .quiet (.of_eq rfl rfl) rfl
    exact .inl (put.trans (setConsequences_reports σ v _))
  | stay | joined | awaitsSwap | trimmed | awaitsHold | cut | held | idle | resumed =>
    exact .inl (.quiet (.of_eq rfl rfl) rfl)

/-! ### Every command (R159) -/

theorem lookConverterMoment_watched (p : Port) (s : State) : (lookConverterMoment p s).watched = s.watched :=
  (lookConverterMoment_sameParts p s).watched

/-- What changed is reported by a notice that is set after it. -/
theorem Moves.noticed {c : Instr} {s t : State} (m : Moves c s t) (notPulse : c ≠ .restartPulse)
    (notRestart : ∀ q, c ≠ .restart q) {n : Notice} (changed : Changed n s.watched t.watched) : NoticeSet n t := by
  cases m with
  | lines l => exact absurd changed (not_changed n s.watched)
  | event l h => exact (h.reports (setLines l s)).2 n changed
  | pulse h => exact absurd h notPulse
  | sent h => exact h.reports.2 n changed
  | lookup p h =>
    rw [lookConverterMoment_watched, h.sameParts.watched] at changed
    exact absurd changed (not_changed n _)
  | restart r h => exact absurd r (notRestart _)
  | claim h hk =>
    obtain reports | same := (claimMove_of_kind hk _).reports
    · exact ((h.reports.trans reports).trans (conclude_reports _ _)).2 n changed
    · rw [(conclude_sameParts _ _).watched, same, h.sameParts.watched] at changed
      exact absurd changed (not_changed n _)

/-- Settles O54: each change that a notice reports, through every move of the part. -/
theorem noticesFollowChanges : Obligations.NoticesFollowChanges := by
  unfold Obligations.NoticesFollowChanges
  intro c s t reached notReset notPor notPulse notRestart
  have noticed {n : Notice} (changed : Changed n s.watched t.watched) : NoticeSet n t :=
    (exec_moves notReset notPor reached).noticed notPulse notRestart changed
  refine ⟨fun ⟨v, p, moved⟩ => ?_, fun ⟨v, moved⟩ => ?_, fun moved => ?_, fun set clear => ?_, fun moved => ?_,
    fun moved => ?_, fun moved => ?_, fun ⟨v, set, clear⟩ => ?_⟩
  · exact noticed (n := .level) ⟨v, p, (recordMoves_iff _ _).2 moved⟩
  · exact noticed (n := .grade) ⟨v, moved⟩
  · exact noticed (n := .converter) moved
  · exact noticed (n := .trip) ⟨set, clear⟩
  · exact noticed (n := .phase) moved
  · exact noticed (n := .swap) moved
  · exact noticed (n := .link) (.inl moved)
  · exact noticed (n := .link) (.inr ⟨v, set, clear⟩)

end Sys2Proof.Machine
